-- ==== Sys2Proof/Word.lean ====
section
/-! DEFINITION. The word types of the block (R15: registers are 32 bits wide at 32-bit byte addresses). -/
namespace Sys2Proof

/-- A register word (R15). -/
abbrev Word := BitVec 32

/-- A byte, as records, frames and images are laid out. -/
abbrev Byte := BitVec 8

end Sys2Proof
end

