-- ==== Sys2Proof/Syntax.lean ====
section
/-! DEFINITION. The commands of the block: one constructor of `Instr` per row of spec/opcode_table.json, with the row's
operands. What the outside world measures or decides (a level on a pin, a reading, whether a verify passed) is an
operand of the command that brings it in. A write command names who writes and the whole word written; a command that
falls between two boundaries and needs its instant names it as core cycles since the last boundary (`ofs`). -/
namespace Sys2Proof

/-- Where a write comes from (R301, origin codes). -/
inductive Origin where
  | hardware | primer | tow | firmware | patrol | spi | debug | factory
deriving DecidableEq, Repr

/-- The origin codes of R301. -/
def Origin.code : Origin → Nat
  | .hardware => 0 | .primer => 1 | .tow => 2 | .firmware => 3 | .patrol => 4 | .spi => 5 | .debug => 6 | .factory => 7

/-- The roles of authorised commands (R301, R403). -/
inductive Role where
  | factory | operator | installer
deriving DecidableEq, Repr

/-- The role codes of R301. -/
def Role.code : Role → Nat
  | .factory => 1 | .operator => 2 | .installer => 3

/-- Who makes an access: its origin, the role of an authorised command (none for a plain access), and the Tow source
address, 0 for every other origin. -/
structure By where
  origin : Origin
  role : Option Role := none
  addr : Fin 2048 := 0
deriving DecidableEq, Repr

/-- Who makes a plain access: origin and Tow source address. -/
structure Src where
  origin : Origin
  addr : Fin 2048 := 0
deriving DecidableEq, Repr

/-- A plain access; only one from the Tow link has a source address (R14, R301). -/
def Src.plain (x : Src) : By := { origin := x.origin, addr := if x.origin = .tow then x.addr else 0 }

/-- An access that an authorised command makes. -/
def Src.auth (x : Src) (r : Role) : By := { x.plain with role := some r }

/-- A complex sample. -/
abbrev Cpx := Rat × Rat

/-- The words of a slice that R124 guards. -/
inductive SliceCfg where
  | cfg0 | cfg1 | ncoRx | ncoTx
deriving DecidableEq, Repr

/-- Patrol's configuration registers (R257). -/
inductive PtlCfg where
  | cfg | osc | time | sweep
deriving DecidableEq, Repr

/-- A calibration step with a duration (R101). -/
inductive CalOp where
  | orxSelf
  | rx (g : Fin 2)
  | tx (c : Fin 8)
  | rxFlat (g : Fin 2)
  | txFlat (c : Fin 8)
deriving DecidableEq, Repr

/-- A kind of background calibration step (R106). -/
inductive BgOp where
  | rxGap | txGap | txTrack
deriving DecidableEq, Repr

/-- What a slice measured in the control period that ends (R137, R227): power and peak at the input plane in mW, the raw
power word, and the powers of the eight bins in mW. -/
structure SliceIn where
  s : Fin 192
  pw : Rat
  pk : Rat
  raw : Nat
  bins : List Rat
deriving DecidableEq, Repr

/-- What a TX chain measured: composite power in 0.01 dBm over its active samples, its raw word (R193), the digital peak level in
0.01 dBFS (R96), and the chain samples with the chain transmitting (R271). -/
structure TxIn where
  c : Fin 8
  pw : Int
  raw : Nat
  peak : Int
  duty : Nat
deriving DecidableEq, Repr

/-- What an RX chain measured: power in 0.01 dBm, its raw word, clipped samples and all samples of the period (R93, R94). -/
structure RxIn where
  c : Fin 8
  pw : Int
  raw : Nat
  clipped : Nat
  total : Nat
deriving DecidableEq, Repr

/-- The measurements of a control period, by the units that made one, and whether the CRC-32 of Patrol's copy matched the
stored one (R256). -/
structure Period where
  slices : List SliceIn := []
  tx : List TxIn := []
  rx : List RxIn := []
  fixOk : Bool := true
deriving DecidableEq, Repr

/-- What the flash port reads in valid SFDP tables (R9, R372): whether the Basic Flash Parameter Table declares a 1-1-4 fast
read; how the quad-enable bit reads, none where the table declares that none is needed; and whether the tables require 4-byte
addresses. -/
structure Sfdp where
  fast114 : Bool := false
  quadEnable : Option Bool := none
  wide : Bool := false
deriving DecidableEq, Repr

/-- What a start finds outside the die: the five strap levels (R369: HEAD, TOW_OPT_UP, TOW_OPT_DN, PAIR_EN, TEST_MODE in bits
0 to 4), the flash (whether it answers, its SFDP tables, none where it holds no valid ones, and its size in bytes; R9, R372), the
bytes at the two image places (R373), whether the boot fallback image passes its check (R387), the level of NET_STOP_N,
whether a segment of a write of the user calibration area fails its verify twice (R113), and which record writes of the flush
at the start fail their verify, in order (R312). -/
structure StartIn where
  straps : Fin 32 := 0
  answers : Bool := false
  sfdp : Option Sfdp := some {}
  size : Nat := 0
  primary : List Nat := []
  secondary : List Nat := []
  fallbackOk : Bool := true
  stopLow : Bool := false
  ucalFail : Bool := false
  recFails : List Bool := []
deriving DecidableEq, Repr

/-- What a trip of the power-fail comparator meets (R310, R312, R364, R365): whether the hold-up lasts for the whole sequence,
which of its record writes fail their verify, in order, and whether PWR_GOOD is high when the sequence ends. -/
structure PowerFailIn where
  complete : Bool := true
  fails : List Bool := []
  pwrGood : Bool := false
deriving DecidableEq, Repr

/-- A received Tow frame (R415 to R417) without its TYPE, which the command names: the CRC-32 that arrived and whether it
ended in ABORT, the LEN of its header, the other header fields, and the payload bytes that arrived. -/
structure RxFrame where
  crc : Word := 0#32
  aborted : Bool := false
  len : Nat := 0
  last : Bool := false
  timed : Bool := false
  lock : Bool := false
  dst : Fin 2048 := 0
  src : Fin 2048 := 0
  epoch : Fin 65536 := 0
  seq : Fin 65536 := 0
  hops : Fin 2048 := 0
  arg : Word := 0#32
  pay : List Nat := []
deriving DecidableEq, Repr

/-- What is shifted into the boundary-scan cells, and the level of TEST_MODE at that instant (R13). -/
structure ScanIn where
  cells : List Bool
  testMode : Bool := false
deriving DecidableEq, Repr

/-- The levels of TDI and TEST_MODE (R13). -/
structure TapIn where
  tdi : Bool
  testMode : Bool := false
deriving DecidableEq, Repr

/-- The instant of a Carve event in its period; `outside`: an outside event of R251 unwinds the epoch in the same core cycle (R243). -/
structure CarveAt where
  ofs : Nat
  outside : Bool := false
deriving DecidableEq, Repr

/-- An acknowledging word, and the latch entries with an occurrence in the acknowledgement's own core cycle (R283). -/
structure AckWord where
  w : Word
  same : List (Fin 128) := []
deriving DecidableEq, Repr

/-- The commands: one constructor per row of spec/opcode_table.json. -/
inductive Instr where
  /-- R13: JTAG EXTEST instruction drives boundary-scan outputs while the device is held in reset with TEST_MODE low. -/
  | extest (cells : ScanIn)
  /-- R13: JTAG SAMPLE/PRELOAD instruction captures or preloads the boundary-scan chain in reset. -/
  | samplePreload (pins cells : List Bool)
  /-- R13: JTAG IDCODE instruction returns the device identification. -/
  | idcode
  /-- R13: JTAG BYPASS, also selected by every unused code, puts a one-bit register between TDI and TDO. -/
  | bypass (code : Fin 16) (tdi : TapIn)
  /-- R14: Update-DR with WR = 1 starts a debug register write with origin 0x06. -/
  | regAccessWrite (a w : Word)
  /-- R14: Update-DR with WR = 0 starts a debug register read. -/
  | regAccessRead (a : Word)
  /-- R14: Capture-DR loads DONE, RESULT and the last read data into the REG_ACCESS data register. -/
  | regAccessCapture
  /-- R14: A debug access completes within 2 µs and sets DONE and RESULT. -/
  | regAccessDone
  /-- R500: A write to a register without its own row is judged field by field and journalled if accepted. -/
  | registerWrite (src : Src) (a w : Word)
  /-- R18: A read of an unoccupied address returns 0 and raises ADDR_UNMAPPED. -/
  | unmappedRead (src : Src) (a : Word)
  /-- R489: A write of 1 to GLB_LOCK.LOCK locks every RWL field until the next cold start. -/
  | glbLockSet (src : Src) (w : Word)
  /-- R488: A read of LDG_OPT_LO latches LDG_OPT_HI. -/
  | ldgOptLoRead (src : Src)
  /-- R488: A read of TOW_TIME_LO latches TOW_TIME_HI. -/
  | towTimeLoRead (src : Src) (ofs : Nat)
  /-- R84: A read of SYN_RFFE_RD returns the read byte and clears VALID. -/
  | synRffeRdRead (src : Src) (m : Fin 4)
  /-- R40: At each boundary B(k) measurements close, staged outputs take effect, limits, Patrol checks and state updates are made. -/
  | controlPeriodBoundary (x : Period)
  /-- R41: FRAME_OUT returns low 1,024 core cycles after a frame boundary. -/
  | frameOutPulseEnd
  /-- R42: A rising edge on FRAME_SYNC is tested for conformance and counted toward validity. -/
  | frameSyncEdge (ofs : Nat)
  /-- R42: A rising edge on PPS is tested for conformance and counted toward validity. -/
  | ppsEdge (ofs : Nat)
  /-- R42: No conforming FRAME_SYNC or PPS edge within the timeout makes that source invalid. -/
  | sourceTimeout (pps : Bool)
  /-- R46: A higher-ranked source valid for REVERT × 10 frames replaces the active source. -/
  | revertDwellExpiry (code : Fin 5)
  /-- R44: A frame-time step takes effect, ends the period early and forces a slice sync. -/
  | frameTimeStep (x : Period)
  /-- R47: A write to SYN_FT_CFG or SYN_FT_OFS is checked and takes effect at the next boundary or is discarded with CFG_REJ. -/
  | synFtCfgWrite (src : Src) (k : Fin 5) (w : Word)
  /-- R48: A timing detector configuration write is checked against slice direction, class and offset. -/
  | synTdCfgWrite (src : Src) (n : Fin 8) (w : Word)
  /-- R49: A timing detector correlates a primary synchronisation signal peak. -/
  | tdDetection (n : Fin 8) (nid : Fin 3) (qual : Nat) (settled : Bool) (ofs : Nat)
  /-- R49: An expected detection does not arrive in its window. -/
  | tdMissedDetection (n : Fin 8)
  /-- R52: Operating time advances by one count every 32 crystal cycles. -/
  | operatingTimeTick
  /-- R53: Every 65,536 counts the Lodge commits operating time and the power-cycle count to retained state. -/
  | lodgeCommit
  /-- R61: An accepted write of SYN_GRP_CTL requests its TARGET state for the group. -/
  | groupTargetRequest (src : Src) (g : Fin 2) (w : Word)
  /-- R76: A write of 1 to SYN_GRP_CTL.REARM clears HELD and sends the group towards TARGET. -/
  | groupRearm (src : Src) (g : Fin 2) (w : Word)
  /-- R59: A sequencer step or phase of a radio group completes and the next step towards the target starts. -/
  | groupStepDone (g : Fin 2) (ofs : Nat)
  /-- R73: The 500 µs transmit lock wait ends without lock and the transmit part of the request is dropped. -/
  | txWaitExpiry (g : Fin 2)
  /-- R74: The RX synthesiser fails to lock within 500 µs and the group returns to STANDBY. -/
  | rxLockWaitExpiry (g : Fin 2)
  /-- R70: A write of SYN_LO_FREQ is stored, held pending or schedules a retune by group state. -/
  | loFreqWrite (src : Src) (n : Fin 4) (w : Word)
  /-- R70: A retune not locked at the end of its nominal time counts as a loss of lock. -/
  | retuneTimeout (n : Fin 4)
  /-- R69: A synthesiser declares lock after 256 reference cycles in the window. -/
  | synthLock (n : Fin 4) (band : Nat) (ofs : Nat)
  /-- R75: A synthesiser loses lock and its gates or slices are closed. -/
  | synthUnlock (n : Fin 4)
  /-- R83: SYN_RFFE_CMD with TYPE Register Write enqueues the command in the master's FIFO. -/
  | rffeRegisterWrite (src : Src) (m : Fin 4) (w : Word)
  /-- R83: SYN_RFFE_CMD with TYPE Extended Register Write enqueues the command. -/
  | rffeExtRegisterWrite (src : Src) (m : Fin 4) (w : Word)
  /-- R83: SYN_RFFE_CMD with TYPE Extended Register Write Long enqueues the command. -/
  | rffeExtRegisterWriteLong (src : Src) (m : Fin 4) (w : Word)
  /-- R83: SYN_RFFE_CMD with TYPE Register Read enqueues a read command. -/
  | rffeRegisterRead (src : Src) (m : Fin 4) (w : Word)
  /-- R82: A timed write or FIFO command starts on the bus at a bus period boundary after arbitration. -/
  | rffeSequenceStart (m : Fin 4) (ofs : Nat)
  /-- R84: A bus sequence ends; a read delivers its data to SYN_RFFE_RD and sets VALID. -/
  | rffeSequenceDone (m : Fin 4) (byte : Nat) (parityOk : Bool)
  /-- R86: A write to SYN_TGPIO_CFG enables the pin or changes its mode, starting it at SAFE or its MANUAL level. -/
  | tgpioCfgWrite (src : Src) (n : Fin 32) (w : Word)
  /-- R86: A FOLLOW pin reproduces an edge of its group signal after DLY core cycles. -/
  | tgpioFollowEdge (n : Fin 32)
  /-- R96: An ORX tap switch completes its 1.5 µs settling and samples are used again. -/
  | orxSwitchDone
  /-- R101: A start-up or on-request calibration step ends and is checked for plausibility. -/
  | calStepDone (step : CalOp) (ok : Nat)
  /-- R104: A write of CAL_CTL.REQ_D or REQ_S requests an on-request calibration of the group. -/
  | calRequest (src : Src) (w : Word)
  /-- R105: An on-request calibration starts, possibly after waiting for the ORX, and mutes the group's slices. -/
  | onreqCalStart (g : Fin 2)
  /-- R106: A background calibration step starts in a gap that an armed Stencil predicts. -/
  | bgCalStepStart (k : BgOp) (c : Fin 8)
  /-- R107: A background step completes and its corrections apply at the next boundary. -/
  | bgCalStepDone
  /-- R113: A user calibration segment is written and verified; the last writes the header. -/
  | usercalSegmentDone (ok : Bool)
  /-- R139: A write of SLC_CTL.EN = 1 checks routing, range, SU and pool and moves the slice out of IDLE. -/
  | sliceEnable (src : Src) (s : Fin 192) (w : Word)
  /-- R140: A write of SLC_CTL.EN = 0 drains or releases the slice. -/
  | sliceDisable (src : Src) (s : Fin 192) (w : Word)
  /-- R136: A write of SLC_CTL.FMUTE closes the slice mute with its ramp or lets it follow detection again. -/
  | sliceForcedMute (src : Src) (s : Fin 192) (w : Word)
  /-- R124: A write to SLC_CFG0, SLC_CFG1 or an NCO word is checked by state and takes effect now or at the next boundary. -/
  | sliceCfgWrite (src : Src) (s : Fin 192) (r : SliceCfg) (w : Word)
  /-- R133: A write of SLC_GAIN is accepted in OPEN or MANUAL as output or Glide target. -/
  | sliceGainWrite (src : Src) (s : Fin 192) (w : Word)
  /-- R162: A coefficient word write is accepted only to the non-live bank with no fade waiting, running or pending. -/
  | coefWrite (src : Src) (s : Fin 192) (bankB : Bool) (k : Fin 64) (w : Word)
  /-- R135: A presence window of 8 slice samples closes and reports signal or none, driving the mute and doze. -/
  | presenceWindow (s : Fin 192) (pw : Rat) (ofs : Nat)
  /-- R136: HANG µs after the last signal window the slice mute begins to close. -/
  | muteHangExpiry (s : Fin 192)
  /-- R136: A 32-sample mute ramp ends with the mute fully open or closed. -/
  | sliceMuteRampDone (s : Fin 192)
  /-- R141: A DRAINING slice completes ramp and flush and goes to IDLE or SHED. -/
  | sliceDrainDone (s : Fin 192)
  /-- R146: Parity or residue check failure on a physical slice raises the SLICE fault. -/
  | sliceCheck (p : Fin 200)
  /-- R145: A write with POOL_CAP_CFG.ARM = 1 reserves capture blocks. -/
  | captureArm (src : Src) (w : Word)
  /-- R145: A write with POOL_CAP_CFG.REL = 1 releases the capture blocks. -/
  | captureRelease (src : Src) (w : Word)
  /-- R145: The selected trigger starts recording samples into the capture blocks. -/
  | captureTrigger
  /-- R145: The capture fills its blocks and sets DONE. -/
  | captureDone (samples : List Nat)
  /-- R150: A write of SLC_LAT is checked for range and pool and takes effect at the next boundary. -/
  | latencyWrite (src : Src) (ul : Bool) (w : Word)
  /-- R157: The settle count ends, suppression opens and the slice may enter ACTIVE. -/
  | settleCountElapsed (s : Fin 192) (ofs : Nat)
  /-- R160: A write of SWAP = 1 to SLC_GLZ_CTL requests a bank swap on one slice. -/
  | glazeSwapRequest (src : Src) (s : Fin 192) (w : Word)
  /-- R163: A write of SWAP with SET = 1 requests the swap on every enabled slice of the MIMO set. -/
  | glazeSetSwapRequest (src : Src) (s : Fin 192) (w : Word)
  /-- R159: A fade reaches sample LEN; the faded-to bank is live and a pending request starts. -/
  | glazeFadeEnd (s : Fin 192) (ofs : Nat)
  /-- R171: A 64-sample canceller block ends and adapts the coefficients. -/
  | cnlBlockEnd (s : Fin 192) (inp : List Cpx) (refs : List (Nat × List Cpx)) (ofs : Nat)
  /-- R170: A write to CNL_CFG or CNL_BULK is checked and takes effect at the next boundary, resetting coefficients as needed. -/
  | cnlCfgWrite (src : Src) (s : Fin 192) (bulk : Bool) (w : Word)
  /-- R180: A write to CNL_CTL is checked against the Fixative margin and takes effect at the next boundary. -/
  | cnlCtlWrite (src : Src) (s : Fin 192) (w : Word)
  /-- R172: A write of CNL_CTL.CLR = 1 clears coefficients and snapshot. -/
  | cnlClear (src : Src) (s : Fin 192) (w : Word)
  /-- R172: A write that changes CNL_CTL.FREEZE freezes or releases adaptation. -/
  | cnlFreeze (src : Src) (s : Fin 192) (w : Word)
  /-- R187: Parity or residue failure of the canceller on a physical slice raises the SLICE fault. -/
  | cnlCheck (p : Fin 200)
  /-- R186: A write of CNL_PRB_CTL.START runs one probe measurement on SLICE. -/
  | probeStart (src : Src) (w : Word)
  /-- R186: A write of CNL_PRB_CTL.ABORT ends the run without a result and clears AUTO. -/
  | probeAbort (src : Src) (w : Word)
  /-- R186: Every INTERVAL frames the automatic rotation starts a digital run on the next ACTIVE slice. -/
  | probeAutoRun
  /-- R184: A probe run ends after DUR + 1 frames, valid or INVALID. -/
  | probeRunEnd (mean orx : Int) (depth aIn aOut : Rat)
  /-- R214: At B(k+1) − 1,024 cycles, any unfinished core makes the period an overrun. -/
  | loopComputeDeadline (unfinished : Bool)
  /-- R212: The hold count reaches HOLD_TO; the output glides to LO and LOOP_HOLD_TO is raised. -/
  | loopHoldTimeout (i : Fin 256)
  /-- R208: A write of LOOP_CTL.MODE requests OPEN, MANUAL or AUTO at the next boundary. -/
  | loopModeWrite (src : Src) (i : Fin 256) (w : Word)
  /-- R215: A write of LOOP_GCTL.REARM_OVR re-arms every loop held with CAUSE OVR. -/
  | loopRearmOvr (src : Src) (w : Word)
  /-- R207: A write to LOOP_LUT is accepted only while every loop selecting the table is OPEN or MANUAL. -/
  | loopLutWrite (src : Src) (t : Fin 32) (k : Fin 64) (w : Word)
  /-- R221: A write of LOOP_SP retargets Glide at the next boundary. -/
  | loopSpWrite (src : Src) (i : Fin 256) (w : Word)
  /-- R225: A write of STN_CFG.EN = 1 attaches the Stencil to its slice and enters WAIT. -/
  | stencilAttach (src : Src) (n : Fin 32) (w : Word)
  /-- R231: A write of STN_CFG.EN = 0 releases the blocks and stops the Stencil. -/
  | stencilDetach (src : Src) (n : Fin 32) (w : Word)
  /-- R231: A write of STN_CTL.RESTART clears the table and re-anchors. -/
  | stencilRestart (src : Src) (n : Fin 32) (w : Word)
  /-- R226: The first even frame boundary after WAIT anchors the pattern and starts LEARNING. -/
  | stencilAnchor (n : Fin 32)
  /-- R231: The 64th period in RELEARN without arming returns the Stencil to LEARNING. -/
  | stencilRelearnTimeout (n : Fin 32)
  /-- R244: A predicted edge within HORIZON opens an epoch from its template, whole or not at all. -/
  | epochInstantiate (m : Fin 64) (ofs : Nat)
  /-- R242: An action's scheduled core cycle arrives and it executes, is deferred or discarded. -/
  | carveActionDue (ofs : Nat)
  /-- R245: A presence report in the window confirms the epoch and executes its deferred actions. -/
  | epochConfirm (n : Fin 256) (s : Fin 192) (t : CarveAt)
  /-- R246: An epoch's window opens and is contradicted at once if no slice can confirm it. -/
  | epochWindowOpen (n : Fin 256) (ofs : Nat)
  /-- R246: A window closes; an unconfirmed epoch is contradicted and a confirmed one may retire. -/
  | epochWindowClose (n : Fin 256) (t : CarveAt)
  /-- R251: A write of CRV_CTL.FLUSH unwinds every epoch. -/
  | carveFlush (src : Src) (w : Word)
  /-- R251: A write of CRV_CTL.EN = 0 unwinds every epoch and stops opening. -/
  | carveDisable (src : Src) (w : Word)
  /-- R247: A write of CRV_TPL_CFG.EN = 1 checks the template and journals it as one table record. -/
  | templateEnable (src : Src) (m : Fin 64) (w : Word)
  /-- R247: A write that clears CRV_TPL_CFG.EN stops new instances. -/
  | templateDisable (src : Src) (m : Fin 64) (w : Word)
  /-- R252: A write of CRV_DIR_GO queues one action in its own FIXED epoch. -/
  | directActionGo (src : Src) (w : Word) (ofs : Nat)
  /-- R254: Parity failure on the queue or template memory raises the DEVICE fault and unwinds every epoch. -/
  | crvCheck (fails : Bool)
  /-- R257: A write to a Patrol configuration register is discarded if looser than the Fixative or out of range. -/
  | patrolCfgWrite (src : Src) (r : PtlCfg) (w : Word)
  /-- R264: OSC_REL frames without onset release an OSC trim. -/
  | oscTrimRelease (s : Fin 192)
  /-- R272: Donor absence for DLOSS_T mutes the UL direction. -/
  | dlossTimeout
  /-- R269: Every SWP_INT periods a sweep segment takes the ORX on the next eligible tap. -/
  | sweepSegmentStart
  /-- R269: A sweep segment ends and its emission and power are judged. -/
  | sweepSegmentEnd (bins : List Int) (total : Int) (ofs : Nat)
  /-- R273: NET_STOP_N low for 1 µs starts a STOP with cause PIN. -/
  | netStopPinLow
  /-- R273: NET_STOP_N high for 100 ms with NS_AUTOREL releases the PIN cause. -/
  | netStopPinRelease
  /-- R273: A write of PTL_CTL.STOP = 1 starts a STOP with cause LOCAL. -/
  | patrolLocalStop (src : Src) (w : Word)
  /-- R262: A write of PTL_CTL.SREL releases the latched slice mute of SLICE. -/
  | patrolSliceRelease (src : Src) (w : Word)
  /-- R275: An authorised write of PTL_REL.REL_STOP meets the release of STOP causes. -/
  | patrolRelStop (src : Src) (role : Role) (w : Word)
  /-- R273: An authorised write of PTL_REL.REL_DL releases a latched DL direction mute. -/
  | patrolRelDl (src : Src) (role : Role) (w : Word)
  /-- R273: An authorised write of PTL_REL.REL_UL releases a latched UL direction mute. -/
  | patrolRelUl (src : Src) (role : Role) (w : Word)
  /-- R274: All steps of a STOP complete and STOP_PH becomes STOPPED. -/
  | stopStepsDone
  /-- R275: The release slews end and STOP_PH returns to none. -/
  | stopReleaseDone
  /-- R281: A source raises a fault or event, which is recorded and latched by class. -/
  | faultRaise (code : Fin 65536) (inst : Fin 256) (aux : Fin 65536)
  /-- R282: A source's live status falls and the entry reads TRANSIENT. -/
  | faultClear (code : Fin 65536) (inst : Fin 256)
  /-- R287: A runout ends; the fault escalates, starts its claim extension or ends. -/
  | runoutExpiry (entries : List (Fin 128))
  /-- R287: A claim extension ends and the still-live fault escalates. -/
  | claimExtensionExpiry (entries : List (Fin 128))
  /-- R293: A reaction shadow closes and still-live shadowed faults are latched afresh. -/
  | shadowClose (k : Nat)
  /-- R286: A write of FLT_CLAIM claims a latch entry during its runout. -/
  | faultClaim (src : Src) (w : Word)
  /-- R283: A write of FLT_ACK.ACK frees one latch entry. -/
  | faultAck (src : Src) (x : AckWord)
  /-- R283: A write of FLT_ACK.ALL frees every entry neither live nor SAFETY. -/
  | faultAckAll (src : Src) (x : AckWord)
  /-- R283: An authorised write of FLT_ACKA frees an entry, SAFETY included. -/
  | faultAckAuth (src : Src) (role : Role) (x : AckWord)
  /-- R295: A write of FLT_HB from supervisor firmware is a heartbeat. -/
  | heartbeatWrite (src : Src) (w : Word)
  /-- R294: Every 500 µs ALIVE toggles if a heartbeat arrived and no hold case applies. -/
  | aliveToggleInstant
  /-- R295: No heartbeat for 2 ms once armed raises FLT_HB_LOST. -/
  | heartbeatTimeout
  /-- R297: TST_FINJ with MODE report injects an event in factory test mode. -/
  | faultInjectEvent (src : Src) (w : Word)
  /-- R297: TST_FINJ with MODE raise makes a fault live in factory test mode. -/
  | faultInjectRaise (src : Src) (w : Word)
  /-- R297: TST_FINJ with MODE clear ends an injected live fault. -/
  | faultInjectClear (src : Src) (w : Word)
  /-- R308: FLUSH_INT after the last scheduled flush, staged records are written and dirty ones rewritten. -/
  | scheduledFlush
  /-- R308: A write of REC_CTL.FLUSH starts a flush at once. -/
  | recorderFlushCmd (src : Src) (w : Word)
  /-- R312: A record write to the memory ends and is verified, retried or moved. -/
  | recordWriteDone (ok : Bool)
  /-- R318: A write of REC_MARK_GO records a TIME_MARK, flagged BACKWARD if earlier than the previous. -/
  | timeMark (src : Src) (w : Word)
  /-- R319: An authorised write of REC_CLR.CLR_V clears the Varnish area. -/
  | varnishClear (src : Src) (role : Role) (w : Word)
  /-- R319: An authorised write of REC_CLR.CLR_P clears the Palette area. -/
  | paletteClear (src : Src) (role : Role) (w : Word)
  /-- R319: The background erase of a clear ends and CLR_BUSY clears. -/
  | clearEraseDone
  /-- R325: A write of BDAC_CFG.EN = 1 powers or reclaims the channel. -/
  | bdacEnable (src : Src) (c : Fin 48) (w : Word)
  /-- R325: A write of BDAC_CFG.EN = 0 slews the channel to PARK for release. -/
  | bdacDisable (src : Src) (c : Fin 48) (w : Word)
  /-- R325: 2 µs after enable the output is driven at PARK. -/
  | bdacPowered (c : Fin 48)
  /-- R333: Every SDIV update ticks OUT moves up to SLEW codes towards its goal. -/
  | bdacSlewStep (chans : List (Fin 48))
  /-- R325: OUT reaches PARK and the channel enters PARKED or OFFING. -/
  | bdacParkReached (c : Fin 48)
  /-- R325: 20 µs in OFFING end; the channel is OFF or runs a queued enable. -/
  | bdacOffingDone (c : Fin 48)
  /-- R329: A write of BDAC_CODE sets T or the pending code, or is discarded on a loop-driven channel. -/
  | bdacCodeWrite (src : Src) (c : Fin 48) (w : Word)
  /-- R331: A write to BDAC_LOAD0 or BDAC_LOAD1.BIT loads pending codes of the strobed channels. -/
  | bdacStrobe (src : Src) (hi : Bool) (w : Word)
  /-- R331: A write of BDAC_LOAD1.ALL strobes every channel. -/
  | bdacStrobeAll (src : Src) (w : Word)
  /-- R332: A write of BDAC_TT_CTL.ARM arms the Tow time load timer. -/
  | bdacTimerArm (src : Src) (w : Word) (ofs : Nat)
  /-- R332: At the armed Tow time every timer-mode channel with a pending code loads. -/
  | bdacTimerLoad (ofs : Nat)
  /-- R334: A write of BDAC_SPAN.GO starts the span change sequence. -/
  | bdacSpanChange (src : Src) (c : Fin 48) (w : Word)
  /-- R334: The 20 µs span switch ends and the channel drives PARK_NEW. -/
  | bdacSpanSwitchDone (c : Fin 48)
  /-- R335: A write of BDAC_SINE.RUN = 1 starts the sine at phase 0. -/
  | bdacSineStart (src : Src) (c : Fin 48) (w : Word)
  /-- R335: A write of RUN = 0 requests the sine to stop. -/
  | bdacSineStop (src : Src) (c : Fin 48) (w : Word)
  /-- R335: The sine reaches its next zero crossing after a stop and OUT returns to T. -/
  | bdacSineZeroCross (c : Fin 48)
  /-- R336: MINOR event raised after the output limits its current for 10 µs. -/
  | bdacIlim (c : Fin 48)
  /-- R338: An 80 µs housekeeping slot ends and its result is written. -/
  | hkSlotEnd (code : Fin 65536) (value : Int)
  /-- R347: A 10.24 ms lap ends; converter checks, compensation, sensor checks and thermal levels are evaluated. -/
  | hkLapEnd (xo : Int)
  /-- R348: A write of THM_CFG is checked and takes effect at the next lap end. -/
  | thmCfgWrite (src : Src) (w : Word)
  /-- R351: A sensor gate ends and its reading goes to the shutdown comparators. -/
  | sensorGateEnd (n : Fin 16) (count : Nat) (tf : Int) (inRange : Bool)
  /-- R355: A domain completes POWERING and reaches ON. -/
  | domainPowerUpDone (n : Fin 72)
  /-- R355: A domain completes DRAINING and enters OFFING. -/
  | domainDrainDone (n : Fin 72)
  /-- R355: A domain completes OFFING and is OFF or starts a queued power-up. -/
  | domainOffingDone (n : Fin 72)
  /-- R356: A POWERING not done in four times its nominal time leaves the domain OFF. -/
  | domainPowerUpTimeout (n : Fin 72)
  /-- R357: A silent ACTIVE slice dozes after MIN_IDLE plus latency plus 1 µs. -/
  | dozeEntry (s : Fin 192)
  /-- R360: A write of PWR_CTL.SLEEP starts the sleep sequence. -/
  | sleepRequest (src : Src) (w : Word)
  /-- R360: After the last domain is off and state is committed, MAIN_EN falls and the device is in SLEEP. -/
  | sleepEntered
  /-- R361: A rising WAKE edge after 1 ms low wakes the device. -/
  | wakePinEdge
  /-- R363: A 32-sample comparator window closes and may complete an RF wake. `samples`: the level at each sample as the
  comparator sees it, its error included, 0.01 dBm. -/
  | rfEnergyWindow (pin : Fin 8) (samples : List Int)
  /-- R361: LDG_WAKE_TMR seconds in SLEEP wake the device. -/
  | wakeTimerExpiry
  /-- R361: A live 8b/10b stream on TOW_UP for 100 µs wakes the device. -/
  | towActivityWake
  /-- R362: The 32.768 kHz crystal stops for 2 ms and the Lodge counts from the reference. -/
  | xtalStop
  /-- R362: The 32.768 kHz crystal runs again and LDG_XTAL clears. -/
  | xtalResume
  /-- R364: The power-fail comparator trips, isolates domains and runs the flush and commit on hold-up. -/
  | powerFailTrip (x : PowerFailIn)
  /-- R454: VDD_LDG above 1.71 V for 2 ms makes the Lodge drive MAIN_EN high. -/
  | lodgePowerUp
  /-- R370: PWR_GOOD rises and the 10 ms wait before reset release begins. -/
  | pwrGoodRise
  /-- R367: RESET_N low for 1 µs resets the device outside the Lodge. -/
  | resetAssert
  /-- R370: Reset is released and the device runs the cold start timeline to RF in service. -/
  | coldStart (x : StartIn)
  /-- R368: A warm restart parks outputs, resets all but Lodge, memory controller and latches, and restarts. -/
  | warmRestart (x : StartIn)
  /-- R367: An authorised write of SUP_CTL.WARM requests a warm restart. -/
  | supCtlWarm (src : Src) (role : Role) (w : Word)
  /-- R385: A write of CAL_RET_CTL.COMMIT starts a configuration commit. -/
  | retainedCommitCmd (src : Src) (w : Word)
  /-- R378: An authorised write of CAL_RET_CTL.DISCARD makes the next start pass over retained configuration. -/
  | retainedDiscard (src : Src) (role : Role) (w : Word)
  /-- R385: COMMIT_INT after a journalled batch, or every 64 s, a configuration commit starts. -/
  | retainedCommitTimer
  /-- R385: A retained-state segment is written and verified; the header is written last. -/
  | retainedSegmentDone (ok : Bool)
  /-- R392: A write of SLC_SPARE_CTL.GO with RET = 0 moves a slice to a spare. -/
  | spareMove (src : Src) (w : Word)
  /-- R392: A write of SLC_SPARE_CTL.GO with RET = 1 moves a slice back to its own physical slice. -/
  | spareReturn (src : Src) (w : Word)
  /-- R390: A replacement starts, cutting the slice output and powering the spare's tile. -/
  | spareReplacementStart
  /-- R390: State is copied to the spare, PHYS is set and its reset released. -/
  | spareCopyDone
  /-- R394: An authorised write of SUP_HO_CTL.GO schedules a handover at a frame boundary. -/
  | handoverGo (src : Src) (role : Role) (w : Word) (ofs : Nat)
  /-- R394: 125 µs before F the active pair stops accepting writes and frames are held. -/
  | handoverFreeze
  /-- R394: At F the READY pair becomes ACTIVE. -/
  | handoverSwitch
  /-- R395: No heartbeat from the new pair by F + 1 ms hands back to the outgoing pair. -/
  | handoverHbTimeout
  /-- R396: The cores of a pair disagree and the READY pair takes over. -/
  | lockstepMismatch (pairB : Bool)
  /-- R396: A failed pair reloaded from the active image becomes READY. -/
  | pairReloadDone (pairB : Bool)
  /-- R401: A write of SUP_AUTH_CTL.OPEN reserves the command buffer. -/
  | authOpen (src : Src) (w : Word)
  /-- R401: A write of SUP_AUTH_CTL.ABORT releases the command buffer. -/
  | authAbort (src : Src) (w : Word)
  /-- R401: A buffer unsubmitted for 60 s is released with RESULT TIMEOUT. -/
  | authBufferTimeout
  /-- R404: A submitted WRITES command is verified and its runs applied as one batch. -/
  | authWrites
  /-- R408: A submitted FIXATIVE command is verified and written to the unused Fixative slot. -/
  | authFixative
  /-- R112: A submitted USERCAL command is verified and written to the user calibration area. -/
  | authUsercal
  /-- R393: A submitted FIRMWARE command loads its section into the READY pair. -/
  | authFirmware
  /-- R405: The 10 s lockout ends. -/
  | authLockoutEnd
  /-- R408: At the boundary after the write verifies, the new Fixative takes effect everywhere. -/
  | fixativeTakeEffect
  /-- R482: A service SPI write transaction applies its words as one batch. -/
  | spiWriteTransaction (cmd : Word) (words : List Word) (cut : Bool)
  /-- R482: A service SPI read transaction returns N + 1 words. -/
  | spiReadTransaction (cmd : Word) (cut : Option Nat)
  /-- R413: A port receives 64 valid code groups and goes UP. -/
  | towPortUp (dn : Bool)
  /-- R413: A port loses valid code groups and goes DOWN. -/
  | towPortDown (dn : Bool)
  /-- R413: A port not UP sends 1 ms of IDLE every 100 ms. -/
  | towTrainingBurst (dn : Bool)
  /-- R413: An UP port without IDLE_FILL sends 64 IDLE sets every 100 µs. -/
  | towIdleBurst (dn : Bool)
  /-- R419: At the end of each frame the port sends the queued frame of lowest class. -/
  | towQueueDispatch (dn : Bool) (ofs : Nat)
  /-- R434: A WRITE frame is applied as one batch, or queued if TIMED, and answered. -/
  | towWrite (dn : Bool) (f : RxFrame) (ofs : Nat)
  /-- R434: A timed WRITE applies its writes at the first boundary at or after its Tow time. -/
  | towTimedWriteApply
  /-- R435: A READ frame returns N consecutive registers in a RESP. -/
  | towRead (dn : Bool) (f : RxFrame) (ofs : Nat)
  /-- R418: A RESP frame is forwarded upstream or consumed by the head. -/
  | towResp (dn : Bool) (f : RxFrame) (ofs : Nat)
  /-- R436: A BULK frame applies register runs or fills the command buffer, with ACK or NAK. -/
  | towBulk (dn : Bool) (f : RxFrame) (ofs : Nat)
  /-- R425: A received HEARTBEAT is fenced, forwarded or entered in the head's book. -/
  | towHeartbeat (dn : Bool) (f : RxFrame) (ofs : Nat)
  /-- R418: A received EVENT frame is forwarded upstream or consumed by the head. -/
  | towEvent (dn : Bool) (f : RxFrame) (ofs : Nat)
  /-- R422: An ENUM frame assigns addresses and is returned by the tail. -/
  | towEnum (dn : Bool) (f : RxFrame) (ofs : Nat)
  /-- R425: An EPOCH frame fills the epoch table and may bench the device. -/
  | towEpoch (dn : Bool) (f : RxFrame) (ofs : Nat)
  /-- R428: A PROMOTE frame updates epochs and promotes the named spare. -/
  | towPromote (dn : Bool) (f : RxFrame) (ofs : Nat)
  /-- R427: A matching BENCH frame benches the device. -/
  | towBench (dn : Bool) (f : RxFrame) (ofs : Nat)
  /-- R441: A NETSTOP from TOW_UP starts a STOP with cause TOW. -/
  | towNetstop (dn : Bool) (f : RxFrame) (ofs : Nat)
  /-- R439: A GATHER_REQ schedules the gather reads at T_G. -/
  | towGatherReq (dn : Bool) (f : RxFrame) (ofs : Nat)
  /-- R439: At T_G the device reads REG0 and REG1. -/
  | gatherSample (ofs : Nat)
  /-- R440: At T_G + GAP the tail starts the train of GATHER frames. -/
  | gatherTrainStart (ofs : Nat)
  /-- R440: A passing GATHER frame receives the device's result in its slot. -/
  | towGather (dn : Bool) (f : RxFrame) (ofs : Nat)
  /-- R445: A received SYNC gives an offset that slews or steps Tow time. -/
  | towSync (dn : Bool) (f : RxFrame) (ofs : Nat)
  /-- R443: Every SYNC_INT a SYNC with hardware stamp is sent on TOW_DN. -/
  | towSyncSend (ofs : Nat)
  /-- R445: No SYNC within 4 × SYNC_INT clears LOCKED. -/
  | towSyncTimeout
  /-- R444: Once per second a DELAY request is sent on TOW_UP. -/
  | towDelaySend (ofs : Nat)
  /-- R444: A received DELAY request is answered with receive and send stamps. -/
  | towDelayRequest (dn : Bool) (f : RxFrame) (ofs : Nat)
  /-- R444: A received DELAY response yields a link delay measurement. -/
  | towDelayResponse (dn : Bool) (f : RxFrame) (ofs : Nat)
  /-- R424: An addressed device sends its HEARTBEAT at its slot of each period P. -/
  | towHeartbeatSend (ofs : Nat)
  /-- R421: An unaddressed device sends a HELLO every 100 ms. -/
  | towHelloSend (ofs : Nat)
  /-- R424: The head declares an address dead after 3 × P + 2 ms without heartbeat. -/
  | towDeadDeclare (a : Fin 2048) (ofs : Nat)
  /-- R423: Every 10 s the head broadcasts EPOCH frames for every assigned address. -/
  | towEpochBroadcast (ofs : Nat)
  /-- R422: A write of TOW_HEAD_CTL.ENUM starts an enumeration. -/
  | towEnumCmd (src : Src) (w : Word)
  /-- R428: A write of TOW_HEAD_PROM.GO sends a PROMOTE. -/
  | towPromoteCmd (src : Src) (w : Word)
  /-- R418: A write of TOW_HEAD_MBX.SEND sends the frame in TOW_HEAD_TX. -/
  | towMbxSend (src : Src) (w : Word)
  /-- R418: A write of TOW_HEAD_MBX.POP drops the frame shown in TOW_HEAD_RX. -/
  | towMbxPop (src : Src) (w : Word)
  /-- R442: A write of TOW_TIME_SET_GO sets the head's Tow time as a step. -/
  | towTimeSet (src : Src) (w : Word) (ofs : Nat)
  /-- R431: PAIR_SENSE changes level, restarting the acquisition wait or counting the gate-open time. -/
  | pairLineChange (high : Bool)
  /-- R431: PAIR_SENSE high for T_W lets the device drive PAIR_TOKEN low. -/
  | pairTokenAcquire
  /-- R431: The line read low for 10 µs opens the pair-token gate. -/
  | pairGateOpen
  /-- R432: A write of TOW_PAIR_CTL.REL releases the token and blocks attempts for 10 s. -/
  | pairTokenRelease (src : Src) (w : Word)
  /-- R432: 2 µs after the gate closes the device stops driving PAIR_TOKEN. -/
  | pairTokenLineRelease
  /-- R433: PAIR_SENSE high for 1 µs while driving closes the gate and raises the SAFETY fault. -/
  | towTokenFault
  /-- R413: A DOWN Tow port's receiver aligns on commas and the port enters TRAINING. -/
  | towPortTraining (dn : Bool)
  /-- R413: An UP port with IDLE_FILL = 0 holds its line static after 10 µs without frames. -/
  | towLineStatic (dn : Bool)
  /-- R329: At each 15.36 MHz update tick, immediate codes take effect on T and every running sine advances its phase accumulator and OUT. -/
  | bdacUpdateTick (ofs : Nat)
  /-- R432: 10 s after a REL the device may again attempt to acquire the token and starts its T_W wait. -/
  | pairRelBlockExpiry
  /-- R360: A wake cause held during ENTERING acts 10 ms after MAIN_EN falls, recording the cause and driving MAIN_EN high. -/
  | heldWakeRelease
deriving DecidableEq, Repr

end Sys2Proof
end

