-- ==== Sys2Proof/Decode.lean ====
section
/-! DEFINITION. The commands that a word spells. The opcode table gives no row any bits: commands are events on the block's
ports and writes to its registers, not words of an instruction stream, so no word spells one. -/
namespace Sys2Proof

/-- The command of the opcode table's row whose bits are `w`: no row has bits. -/
def decodeTableWord (_nbits _w : Nat) : Option Instr := none

end Sys2Proof
end

