-- ==== Sys2Proof/Config.lean ====
section
/-! DEFINITION. What one part fixes and what the manual leaves open: opaque constants with no body, so that nothing can be
proved about their values. Each is named in a row of notes/assumptions. -/
namespace Sys2Proof

/-- The identification word that IDCODE shifts out (R13 names the instruction and gives no value). -/
opaque Config.idcode : Word

/-- The n-th random nonce of the part (R402: a new random value at every start and after every command). -/
opaque Config.nonce : Nat → BitVec 64

/-- Realised minus nominal LO frequency of a SYN_LO_FREQ code, in NCO units: the fractional-N quantisation, which the manual does not give
(R99, R126). -/
opaque Config.loQuant : Nat → Int

/-- The constant `eps` of R171, which the manual does not give. -/
opaque Config.cnlEps : Rat

/-- The depth D where estimate and correlated remainder are both zero (R175 states no logarithm of 0 / 0), 0.01 dB. -/
opaque Config.cnlDepthZero : Int

/-- The quotient c / p of a reference and a tap where the reference has no power in the period (R175 states no quotient by 0). -/
opaque Config.cnlNoPower : Nat → Nat → Rat × Rat

/-- The part of the correlated remainder of a reference without power in the period (R175 states no quotient by 0). -/
opaque Config.cnlNoPowerRes : Nat → Rat

/-- What the bytes of a user calibration image say (the byte layout of the image is not given): points of frequency (Hz) and
offset (0.01 dB) per RX and per TX chain; frequency, G_tap and C_tap per ORX tap; slope and offset per sensor; the crystal
table. -/
opaque Config.userCal : List Nat → List (Nat × List (Nat × Int)) × List (Nat × List (Nat × Int)) ×
  List (Nat × List (Nat × Int × Int)) × List (Nat × (Int × Int)) × List Int

/-- The factory calibration area of the part (R110 names its contents and gives no value): gain points per RX and per TX chain,
the reference temperature, I/Q and LO-leakage seeds per RX and per TX chain, the ORX gain and the sensor trims, in the units
of `FactoryCal`. -/
opaque Config.factoryCal : List (Nat × List (Nat × Int × Int)) × List (Nat × List (Nat × Int × Int)) × Int ×
  List (Nat × List (Nat × (Rat × Rat) × (Rat × Rat))) × List (Nat × List (Nat × (Rat × Rat) × (Rat × Rat))) × Int × List (Nat × Int)

/-- Kuhel's public key, whose hash the factory area of the part holds (R375 gives no value): X then Y, 64 bytes. -/
opaque Config.kuhelKey : List Nat

/-- A value that an instruction's rules leave open: the n-th free value of the run. -/
opaque Config.freeValue : Nat → Nat

end Sys2Proof
end

