-- ==== Sys2Proof/Machine/Bits.lean ====
section
/-! DEFINITION. Bit fields, signed fields, byte order, rounding and the sparse tables every block of the model uses. -/
namespace Sys2Proof.Machine

/-- Bits `lo + len - 1` down to `lo` of a number. -/
def bitsOf (x lo len : Nat) : Nat := x / 2 ^ lo % 2 ^ len

/-- A bit of a number. -/
def bitOf (x k : Nat) : Bool := bitsOf x k 1 == 1

/-- The number with bits `lo + len - 1` down to `lo` replaced by `v` (taken modulo the width). -/
def putBits (x lo len v : Nat) : Nat :=
  x / 2 ^ (lo + len) * 2 ^ (lo + len) + v % 2 ^ len * 2 ^ lo + x % 2 ^ lo

/-- A Bool as a one-bit field. -/
def b2n (b : Bool) : Nat := if b then 1 else 0

/-- A field of `len` bits read as two's complement. -/
def toSigned (len v : Nat) : Int := if v % 2 ^ len < 2 ^ (len - 1) then (v % 2 ^ len : Nat) else (v % 2 ^ len : Nat) - 2 ^ len

/-- A signed number laid into a field of `len` bits (two's complement). -/
def fromSigned (len : Nat) (z : Int) : Nat := (z % (2 ^ len : Nat)).toNat

/-- `z` limited to `lo .. hi` (the lower limit wins over a crossed upper one). -/
def clampI (z lo hi : Int) : Int := if z < lo then lo else if hi < z then hi else z

/-- `n` limited to at most `m`: the saturating counters of the manual. -/
def satN (n m : Nat) : Nat := if m < n then m else n

/-- The nearest integer to `a / b`, ties away from zero (the rounding of R200, R201). -/
def roundDivAway (a : Int) (b : Nat) : Int :=
  if 0 ≤ a then ((2 * a.toNat + b) / (2 * b) : Nat) else - ((2 * (-a).toNat + b) / (2 * b) : Nat)

/-- The nearest integer to a rational, ties away from zero. -/
def roundRat (q : Rat) : Int := roundDivAway q.num q.den

/-- `n` bytes of a number, least significant first (R301). -/
def leBytes : Nat → Nat → List Nat
  | 0, _ => []
  | n + 1, x => x % 256 :: leBytes n (x / 256)

/-- The number a list of bytes spells, least significant first. -/
def ofLeBytes : List Nat → Nat
  | [] => 0
  | b :: bs => b % 256 + 256 * ofLeBytes bs

/-- `n` bytes starting at `i` of a byte list, missing bytes reading as 0. -/
def sliceBytes (bs : List Nat) (i n : Nat) : List Nat := (List.range n).map fun k => bs.getD (i + k) 0

/-- A little-endian number of `n` bytes at `i`. -/
def leAt (bs : List Nat) (i n : Nat) : Nat := ofLeBytes (sliceBytes bs i n)

/-- A word built from fields (lowest bit, width, value), the other bits 0. -/
def packBits (fs : List (Nat × Nat × Nat)) : Nat := fs.foldl (fun x f => putBits x f.1 f.2.1 f.2.2) 0

/-! ### Sparse tables

A table over numbered units holds only the units that differ from their default, in rising order: equal tables are
equal data. -/

/-- The entry of unit `i`; `d i` where the table lists none. -/
def tget (d : Nat → α) : List (Nat × α) → Nat → α
  | [], i => d i
  | (j, v) :: t, i => if j = i then v else tget d t i

/-- Drop unit `i`. -/
def tdel : List (Nat × α) → Nat → List (Nat × α)
  | [], _ => []
  | (j, v) :: t, i => if j = i then tdel t i else (j, v) :: tdel t i

/-- Put unit `i`, keeping the rising order of a sorted table. -/
def tput : List (Nat × α) → Nat → α → List (Nat × α)
  | [], i, v => [(i, v)]
  | (j, w) :: t, i, v =>
    if i < j then (i, v) :: (j, w) :: t
    else if j = i then (i, v) :: t
    else (j, w) :: tput t i v

/-- Set unit `i`; a value equal to the unit's default removes the entry. -/
def tset [DecidableEq α] (d : Nat → α) (t : List (Nat × α)) (i : Nat) (v : α) : List (Nat × α) :=
  if v = d i then tdel t i else tput (tdel t i) i v

/-- Change unit `i`. -/
def tmod [DecidableEq α] (d : Nat → α) (t : List (Nat × α)) (i : Nat) (f : α → α) : List (Nat × α) :=
  tset d t i (f (tget d t i))

/-- The canonical form: strictly rising keys above `lo`, and no entry equal to its default. -/
def tcanonFrom [DecidableEq α] (d : Nat → α) : Option Nat → List (Nat × α) → Bool
  | _, [] => true
  | lo, (j, v) :: t => (match lo with | none => true | some l => decide (l < j)) && decide (v ≠ d j) && tcanonFrom d (some j) t

/-- The canonical form of a sparse table. -/
def tcanon [DecidableEq α] (d : Nat → α) (t : List (Nat × α)) : Bool := tcanonFrom d none t

/-- Add an element to a list used as a set. -/
def sadd [DecidableEq α] (l : List α) (a : α) : List α := if a ∈ l then l else l ++ [a]

/-- Remove an element from a list used as a set. -/
def sdel [DecidableEq α] (l : List α) (a : α) : List α := l.filter (· ≠ a)

/-- Fold an operation over the indices 0 .. n-1, in rising order. -/
def forN (n : Nat) (f : Nat → σ → σ) (s : σ) : σ := (List.range n).foldl (fun s i => f i s) s

/-- Fold an operation over a list, in its order. -/
def forL (l : List α) (f : α → σ → σ) (s : σ) : σ := l.foldl (fun s a => f a s) s

/-- Apply `f` where `c` holds. -/
def doIf (c : Bool) (f : σ → σ) (s : σ) : σ := if c then f s else s

/-! ### Square roots and decibels -/

/-- The integer square root, by setting bits from the highest of 48 down. -/
def isqrt (n : Nat) : Nat :=
  (List.range 48).foldl (fun s k => let t := s + 2 ^ (47 - k); if t * t ≤ n then t else s) 0

/-- The integer nearest to a square root. -/
def sqrtNear (n : Nat) : Nat := let s := isqrt n; if s * s + s < n then s + 1 else s

/-- `10 ^ (z / 2000)` is at most `n / d`, for whole `z`. -/
def dbAtMost (n d : Nat) (z : Int) : Bool :=
  if 0 ≤ z then decide (10 ^ z.toNat * d ≤ n) else decide (d ≤ n * 10 ^ (-z).toNat)

/-- The largest `z` of `lo .. lo + 2 ^ k - 1` with `dbAtMost n d (2 z - 1)`, by halving. -/
def dbSearch (n d : Nat) : Nat → Int → Int
  | 0, lo => lo
  | k + 1, lo => let m := lo + 2 ^ k; if dbAtMost n d (2 * m - 1) then dbSearch n d k m else dbSearch n d k lo

/-- Ten times the decadic logarithm of a positive ratio in 0.01 dB, rounded to the nearest step; −32,768 for a ratio that
is not positive. `z` is the nearest step when `10 ^ ((2 z - 1) / 2000) ≤ q < 10 ^ ((2 z + 1) / 2000)`, which is decided
on whole numbers. -/
def db100 (q : Rat) : Int :=
  if q.num ≤ 0 then -32768 else dbSearch (q.num.toNat ^ 2000) (q.den ^ 2000) 16 (-32768)

/-- The largest `m` below `2 ^ k` steps above `lo` with `m ^ p ≤ x`, by halving. -/
def rootSearch (p x : Nat) : Nat → Nat → Nat
  | 0, lo => lo
  | k + 1, lo => if (lo + 2 ^ k) ^ p ≤ x then rootSearch p x k (lo + 2 ^ k) else rootSearch p x k lo

/-- The power ratio of `z` hundredths of a decibel, in steps of 2^-64 (below 96 dB). -/
def lin100 (z : Int) : Rat :=
  if 0 ≤ z then (rootSearch 1000 (10 ^ z.toNat * 2 ^ 64000) 96 0 : Rat) / (2 ^ 64 : Nat)
  else (2 ^ 64 : Nat) / (rootSearch 1000 (10 ^ (-z).toNat * 2 ^ 64000) 96 0 : Rat)

/-- The amplitude ratio of `z` hundredths of a decibel, in steps of 2^-64 (below 192 dB). -/
def amp100 (z : Int) : Rat :=
  if 0 ≤ z then (rootSearch 2000 (10 ^ z.toNat * 2 ^ 128000) 96 0 : Rat) / (2 ^ 64 : Nat)
  else (2 ^ 64 : Nat) / (rootSearch 2000 (10 ^ (-z).toNat * 2 ^ 128000) 96 0 : Rat)

end Sys2Proof.Machine
end

