-- ==== Sys2Proof/Machine/Crc.lean ====
section
/-! DEFINITION. The CRC-32 of R12: reflected IEEE 802.3 polynomial, all-ones start, output inverted. -/
namespace Sys2Proof.Machine

/-- The reflected form of the polynomial 0x04C1_1DB7. -/
def crcPoly : Nat := 0xEDB88320

/-- One bit of the reflected shift register. -/
def crcBit (c : Nat) : Nat := if c % 2 = 1 then Nat.xor (c / 2) crcPoly else c / 2

/-- One byte: eight bits after it is folded into the low end. -/
def crcByte (c b : Nat) : Nat :=
  let x := Nat.xor c (b % 256)
  crcBit (crcBit (crcBit (crcBit (crcBit (crcBit (crcBit (crcBit x)))))))

/-- The CRC-32 of a list of bytes (R12). -/
def crc32 (bs : List Nat) : Nat := Nat.xor (bs.foldl crcByte 0xFFFFFFFF) 0xFFFFFFFF

/-- The CRC-32 of the words of a register run, each word least significant byte first. -/
def crcWords (ws : List Nat) : Nat := crc32 (ws.flatMap (leBytes 4))

end Sys2Proof.Machine
end

