-- ==== Sys2Proof/Machine/RegMap.lean ====
section
/-! DEFINITION. The register map: every register of the register summary (R20: that chapter governs address,
access and reset), its place, its reset word and its fields with their access codes (R16, R487). -/
namespace Sys2Proof.Machine

/-- Every register of the register summary, under the name the manual gives it. -/
inductive RegName where
  | GLB_ID | GLB_UID_LO | GLB_UID_HI | GLB_LOCK | LDG_WAKE_CFG | LDG_WAKE_STAT | LDG_RFDET_CFG
  | LDG_RFDET_STAT | LDG_WAKE_TMR | LDG_PF | LDG_OPT_LO | LDG_OPT_HI | LDG_PWRCYC | PWR_DOM | PWR_CTL
  | PWR_STAT | PWR_DOZE_CFG | PWR_DOZE_STAT | PWR_DOZE_MAP | SYN_FT_CFG | SYN_FT_STAT | SYN_FT_NOW
  | SYN_FT_OFS | SYN_TD_CFG | SYN_TD_STAT | SYN_GRP_CTL | SYN_GRP_STAT | SYN_LO_FREQ | SYN_LO_STAT
  | SYN_RFFE_CFG | SYN_RFFE_CMD | SYN_RFFE_DATA | SYN_RFFE_STAT | SYN_RFFE_RD | SYN_TGPIO_CFG | SYN_TGPIO_OUT
  | SYN_TGPIO_IN | RXC_CFG | RXC_STAT | RXC_PWR | TXC_CFG | TXC_STAT | TXC_ORX_STAT | SLC_CFG0 | SLC_CFG1
  | SLC_NCO_RX | SLC_NCO_TX | SLC_GAIN | SLC_SYSG | SLC_DET | SLC_CTL | SLC_STAT | SLC_ERR | SLC_RMS
  | SLC_PEAK | SLC_LATINFO | SLC_DLY | SLC_SETTLE | SLC_GLZ_CTL | SLC_GLZ_STAT | SLC_COEF_A | SLC_COEF_B
  | SLC_ARRAY_STAT | SLC_LAT | SLC_SPARE_CTL | SLC_SPARE_STAT | CNL_CFG | CNL_BULK | CNL_CTL | CNL_ISO
  | CNL_DEPTH | CNL_EFF | CNL_PWR | CNL_STAT | CNL_ERR | CNL_PRB_CFG | CNL_PRB_CTL | CNL_PRB_STAT
  | CNL_PRB_RES0 | CNL_PRB_RES1 | CNL_COEF_SEL | CNL_COEF_WIN | LOOP_CTL | LOOP_CFG | LOOP_SRC | LOOP_SP
  | LOOP_LIM | LOOP_MAN | LOOP_SUP | LOOP_OUT | LOOP_LIMS | LOOP_ERR | LOOP_ISTAT | LOOP_GLD_VMAX
  | LOOP_GLD_AMAX | LOOP_GLD_JMAX | LOOP_GLD_POS | LOOP_GLD_VEL | LOOP_GLD_STAT | LOOP_STAT | LOOP_GCTL
  | LOOP_LUT | STN_CFG | STN_CTL | STN_STAT | STN_ERR | STN_ANCHOR | STN_EDGE | STN_BIN | CRV_CTL | CRV_STAT
  | CRV_CNT0 | CRV_CNT1 | CRV_ERR | CRV_DIR_TIME | CRV_DIR_A | CRV_DIR_B | CRV_DIR_C | CRV_DIR_GO
  | CRV_TPL_CFG | CRV_TPL_WIN | CRV_TPL_AUX | CRV_TPL_STAT | CRV_ACT_A | CRV_ACT_B | CRV_ACT_C | PTL_CFG
  | PTL_OSC | PTL_TIME | PTL_SWEEP | PTL_CTL | PTL_REL | PTL_STAT | PTL_CNT | PTL_DUTY | PTL_SLC | PTL_TRIM
  | FLT_CFG | FLT_RUNOUT | FLT_CLAIMEXT | FLT_STAT | FLT_LIVE | FLT_CNT | FLT_CLAIM | FLT_ACK | FLT_ACKA
  | FLT_ERR | FLT_HB | FLT_IRQ_EN | FLT_IRQ_STAT | FLT_LATCH_ID | FLT_LATCH_INST | FLT_LATCH_F_LO
  | FLT_LATCH_F_HI | FLT_LATCH_L_LO | FLT_LATCH_L_HI | FLT_LATCH_SEQ | FLT_LATCH_ESQ | REC_CFG | REC_CTL
  | REC_STAT | REC_AREA | REC_SEQ | REC_CNT | REC_CLR | REC_MARK_LO | REC_MARK_HI | REC_MARK_GO | REC_RD_SEL
  | REC_RD_WIN | REC_SNAP_SEL | REC_SNAP_CTL | REC_SNAP_ADDR | BDAC_CFG | BDAC_CODE | BDAC_STAT | BDAC_SPAN
  | BDAC_SINE | BDAC_SAMP | BDAC_RB | BDAC_ERR | BDAC_LOAD0 | BDAC_LOAD1 | BDAC_TT_LO | BDAC_TT_HI
  | BDAC_TT_CTL | HK_CFG | HK_STAT | HK_ASSIGN | HK_SLOT | THM_CFG | THM_STAT | THM_TMAX | THM_XO | THM_SENS
  | THM_TRIM | TOW_PORT_CFG | TOW_PORT_STAT | TOW_LINK_DLY | TOW_ID | TOW_HB_CFG | TOW_CNT | TOW_TIME_CFG
  | TOW_TIME_STAT | TOW_TIME_LO | TOW_TIME_HI | TOW_TIME_SET_LO | TOW_TIME_SET_HI | TOW_TIME_SET_GO
  | TOW_PAIR_CFG | TOW_PAIR_CTL | TOW_PAIR_STAT | TOW_HEAD_CTL | TOW_HEAD_STAT | TOW_HEAD_PROM | TOW_HEAD_MBX
  | TOW_HEAD_DEAD | TOW_HEAD_SPARE | TOW_HEAD_TX | TOW_HEAD_RX | FIX_STAT | FIX_PMAX | FIX_GMAX | FIX_MARGIN
  | FIX_UL | FIX_EMIS | FIX_NRANGE | FIX_RANGE_LO | FIX_RANGE_HI | CAL_CTL | CAL_STAT | CAL_RET_CTL
  | CAL_RET_STAT | CAL_RET_SEQ | POOL_STAT | POOL_CAP_CFG | POOL_CAP_STAT | POOL_CAP_RD | POOL_CAP_WIN
  | SUP_BOOT | SUP_STRAP | SUP_PRM_ID | SUP_PRM_SEQ | SUP_CTL | SUP_HO_CTL | SUP_HO_STAT | SUP_WR_EN
  | SUP_AUTH_NONCE_LO | SUP_AUTH_NONCE_HI | SUP_AUTH_CTL | SUP_AUTH_STAT | SUP_AUTH_WIN | TST_FINJ
deriving DecidableEq, Repr

/-- Where a register lies: instance `i < n` at `base + stride * i`, and inside it word `j < n2` at `stride2 * j`. -/
structure Place where
  base : Nat
  stride : Nat
  n : Nat
  stride2 : Nat
  n2 : Nat
deriving DecidableEq, Repr

/-- The addresses of the register summary. -/
def RegName.place : RegName → Place
  | .GLB_ID => ⟨0x00000000, 0x4, 1, 4, 1⟩
  | .GLB_UID_LO => ⟨0x00000010, 0x4, 1, 4, 1⟩
  | .GLB_UID_HI => ⟨0x00000014, 0x4, 1, 4, 1⟩
  | .GLB_LOCK => ⟨0x00000020, 0x4, 1, 4, 1⟩
  | .LDG_WAKE_CFG => ⟨0x00010000, 0x4, 1, 4, 1⟩
  | .LDG_WAKE_STAT => ⟨0x00010004, 0x4, 1, 4, 1⟩
  | .LDG_RFDET_CFG => ⟨0x00010008, 0x4, 1, 4, 1⟩
  | .LDG_RFDET_STAT => ⟨0x0001000C, 0x4, 1, 4, 1⟩
  | .LDG_WAKE_TMR => ⟨0x00010010, 0x4, 1, 4, 1⟩
  | .LDG_PF => ⟨0x00010014, 0x4, 1, 4, 1⟩
  | .LDG_OPT_LO => ⟨0x00010020, 0x4, 1, 4, 1⟩
  | .LDG_OPT_HI => ⟨0x00010024, 0x4, 1, 4, 1⟩
  | .LDG_PWRCYC => ⟨0x00010028, 0x4, 1, 4, 1⟩
  | .PWR_DOM => ⟨0x00020000, 0x4, 72, 4, 1⟩
  | .PWR_CTL => ⟨0x00020180, 0x4, 1, 4, 1⟩
  | .PWR_STAT => ⟨0x00020184, 0x4, 1, 4, 1⟩
  | .PWR_DOZE_CFG => ⟨0x00020200, 0x4, 1, 4, 1⟩
  | .PWR_DOZE_STAT => ⟨0x00020204, 0x4, 1, 4, 1⟩
  | .PWR_DOZE_MAP => ⟨0x00020210, 0x4, 6, 4, 1⟩
  | .SYN_FT_CFG => ⟨0x00030100, 0x4, 1, 4, 1⟩
  | .SYN_FT_STAT => ⟨0x00030104, 0x4, 1, 4, 1⟩
  | .SYN_FT_NOW => ⟨0x00030108, 0x4, 1, 4, 1⟩
  | .SYN_FT_OFS => ⟨0x00030110, 0x4, 4, 4, 1⟩
  | .SYN_TD_CFG => ⟨0x00030140, 0x4, 8, 4, 1⟩
  | .SYN_TD_STAT => ⟨0x00030160, 0x4, 8, 4, 1⟩
  | .SYN_GRP_CTL => ⟨0x00030200, 0x20, 2, 4, 1⟩
  | .SYN_GRP_STAT => ⟨0x00030204, 0x20, 2, 4, 1⟩
  | .SYN_LO_FREQ => ⟨0x00030300, 0x10, 4, 4, 1⟩
  | .SYN_LO_STAT => ⟨0x00030304, 0x10, 4, 4, 1⟩
  | .SYN_RFFE_CFG => ⟨0x00030400, 0x20, 4, 4, 1⟩
  | .SYN_RFFE_CMD => ⟨0x00030404, 0x20, 4, 4, 1⟩
  | .SYN_RFFE_DATA => ⟨0x00030408, 0x20, 4, 4, 4⟩
  | .SYN_RFFE_STAT => ⟨0x00030418, 0x20, 4, 4, 1⟩
  | .SYN_RFFE_RD => ⟨0x0003041C, 0x20, 4, 4, 1⟩
  | .SYN_TGPIO_CFG => ⟨0x00030500, 0x4, 32, 4, 1⟩
  | .SYN_TGPIO_OUT => ⟨0x00030580, 0x4, 1, 4, 1⟩
  | .SYN_TGPIO_IN => ⟨0x00030584, 0x4, 1, 4, 1⟩
  | .RXC_CFG => ⟨0x00040000, 0x100, 8, 4, 1⟩
  | .RXC_STAT => ⟨0x00040004, 0x100, 8, 4, 1⟩
  | .RXC_PWR => ⟨0x00040008, 0x100, 8, 4, 1⟩
  | .TXC_CFG => ⟨0x00050000, 0x100, 8, 4, 1⟩
  | .TXC_STAT => ⟨0x00050004, 0x100, 8, 4, 1⟩
  | .TXC_ORX_STAT => ⟨0x00050800, 0x4, 1, 4, 1⟩
  | .SLC_CFG0 => ⟨0x00100000, 0x400, 192, 4, 1⟩
  | .SLC_CFG1 => ⟨0x00100004, 0x400, 192, 4, 1⟩
  | .SLC_NCO_RX => ⟨0x00100008, 0x400, 192, 4, 1⟩
  | .SLC_NCO_TX => ⟨0x0010000C, 0x400, 192, 4, 1⟩
  | .SLC_GAIN => ⟨0x00100010, 0x400, 192, 4, 1⟩
  | .SLC_SYSG => ⟨0x00100014, 0x400, 192, 4, 1⟩
  | .SLC_DET => ⟨0x00100018, 0x400, 192, 4, 1⟩
  | .SLC_CTL => ⟨0x0010001C, 0x400, 192, 4, 1⟩
  | .SLC_STAT => ⟨0x00100020, 0x400, 192, 4, 1⟩
  | .SLC_ERR => ⟨0x00100024, 0x400, 192, 4, 1⟩
  | .SLC_RMS => ⟨0x00100028, 0x400, 192, 4, 1⟩
  | .SLC_PEAK => ⟨0x0010002C, 0x400, 192, 4, 1⟩
  | .SLC_LATINFO => ⟨0x00100030, 0x400, 192, 4, 1⟩
  | .SLC_DLY => ⟨0x00100034, 0x400, 192, 4, 1⟩
  | .SLC_SETTLE => ⟨0x00100038, 0x400, 192, 4, 1⟩
  | .SLC_GLZ_CTL => ⟨0x00100040, 0x400, 192, 4, 1⟩
  | .SLC_GLZ_STAT => ⟨0x00100044, 0x400, 192, 4, 1⟩
  | .SLC_COEF_A => ⟨0x00100200, 0x400, 192, 4, 64⟩
  | .SLC_COEF_B => ⟨0x00100300, 0x400, 192, 4, 64⟩
  | .SLC_ARRAY_STAT => ⟨0x00130000, 0x4, 1, 4, 1⟩
  | .SLC_LAT => ⟨0x00130010, 0x4, 2, 4, 1⟩
  | .SLC_SPARE_CTL => ⟨0x00130020, 0x4, 1, 4, 1⟩
  | .SLC_SPARE_STAT => ⟨0x00130024, 0x4, 1, 4, 1⟩
  | .CNL_CFG => ⟨0x00200000, 0x100, 192, 4, 1⟩
  | .CNL_BULK => ⟨0x00200004, 0x100, 192, 4, 1⟩
  | .CNL_CTL => ⟨0x00200008, 0x100, 192, 4, 1⟩
  | .CNL_ISO => ⟨0x0020000C, 0x100, 192, 4, 1⟩
  | .CNL_DEPTH => ⟨0x00200010, 0x100, 192, 4, 1⟩
  | .CNL_EFF => ⟨0x00200014, 0x100, 192, 4, 1⟩
  | .CNL_PWR => ⟨0x00200018, 0x100, 192, 4, 1⟩
  | .CNL_STAT => ⟨0x0020001C, 0x100, 192, 4, 1⟩
  | .CNL_ERR => ⟨0x00200020, 0x100, 192, 4, 1⟩
  | .CNL_PRB_CFG => ⟨0x0020C000, 0x4, 1, 4, 1⟩
  | .CNL_PRB_CTL => ⟨0x0020C004, 0x4, 1, 4, 1⟩
  | .CNL_PRB_STAT => ⟨0x0020C008, 0x4, 1, 4, 1⟩
  | .CNL_PRB_RES0 => ⟨0x0020C00C, 0x4, 1, 4, 1⟩
  | .CNL_PRB_RES1 => ⟨0x0020C010, 0x4, 1, 4, 1⟩
  | .CNL_COEF_SEL => ⟨0x0020C100, 0x4, 1, 4, 1⟩
  | .CNL_COEF_WIN => ⟨0x0020C400, 0x4, 640, 4, 1⟩
  | .LOOP_CTL => ⟨0x00300000, 0x80, 256, 4, 1⟩
  | .LOOP_CFG => ⟨0x00300004, 0x80, 256, 4, 1⟩
  | .LOOP_SRC => ⟨0x00300008, 0x80, 256, 4, 1⟩
  | .LOOP_SP => ⟨0x0030000C, 0x80, 256, 4, 1⟩
  | .LOOP_LIM => ⟨0x00300010, 0x80, 256, 4, 1⟩
  | .LOOP_MAN => ⟨0x00300014, 0x80, 256, 4, 1⟩
  | .LOOP_SUP => ⟨0x00300018, 0x80, 256, 4, 1⟩
  | .LOOP_OUT => ⟨0x0030001C, 0x80, 256, 4, 1⟩
  | .LOOP_LIMS => ⟨0x00300020, 0x80, 256, 4, 1⟩
  | .LOOP_ERR => ⟨0x00300024, 0x80, 256, 4, 1⟩
  | .LOOP_ISTAT => ⟨0x00300028, 0x80, 256, 4, 1⟩
  | .LOOP_GLD_VMAX => ⟨0x00300040, 0x80, 256, 4, 1⟩
  | .LOOP_GLD_AMAX => ⟨0x00300044, 0x80, 256, 4, 1⟩
  | .LOOP_GLD_JMAX => ⟨0x00300048, 0x80, 256, 4, 1⟩
  | .LOOP_GLD_POS => ⟨0x0030004C, 0x80, 256, 4, 1⟩
  | .LOOP_GLD_VEL => ⟨0x00300050, 0x80, 256, 4, 1⟩
  | .LOOP_GLD_STAT => ⟨0x00300054, 0x80, 256, 4, 1⟩
  | .LOOP_STAT => ⟨0x00308000, 0x4, 1, 4, 1⟩
  | .LOOP_GCTL => ⟨0x00308004, 0x4, 1, 4, 1⟩
  | .LOOP_LUT => ⟨0x0030C000, 0x100, 32, 4, 64⟩
  | .STN_CFG => ⟨0x00380000, 0x2000, 32, 4, 1⟩
  | .STN_CTL => ⟨0x00380004, 0x2000, 32, 4, 1⟩
  | .STN_STAT => ⟨0x00380008, 0x2000, 32, 4, 1⟩
  | .STN_ERR => ⟨0x0038000C, 0x2000, 32, 4, 1⟩
  | .STN_ANCHOR => ⟨0x00380010, 0x2000, 32, 4, 1⟩
  | .STN_EDGE => ⟨0x00380100, 0x2000, 32, 4, 32⟩
  | .STN_BIN => ⟨0x00380800, 0x2000, 32, 4, 1280⟩
  | .CRV_CTL => ⟨0x003C0000, 0x4, 1, 4, 1⟩
  | .CRV_STAT => ⟨0x003C0004, 0x4, 1, 4, 1⟩
  | .CRV_CNT0 => ⟨0x003C0008, 0x4, 1, 4, 1⟩
  | .CRV_CNT1 => ⟨0x003C000C, 0x4, 1, 4, 1⟩
  | .CRV_ERR => ⟨0x003C0010, 0x4, 1, 4, 1⟩
  | .CRV_DIR_TIME => ⟨0x003C0020, 0x4, 1, 4, 1⟩
  | .CRV_DIR_A => ⟨0x003C0024, 0x4, 1, 4, 1⟩
  | .CRV_DIR_B => ⟨0x003C0028, 0x4, 1, 4, 1⟩
  | .CRV_DIR_C => ⟨0x003C002C, 0x4, 1, 4, 1⟩
  | .CRV_DIR_GO => ⟨0x003C0030, 0x4, 1, 4, 1⟩
  | .CRV_TPL_CFG => ⟨0x003C0100, 0x10, 64, 4, 1⟩
  | .CRV_TPL_WIN => ⟨0x003C0104, 0x10, 64, 4, 1⟩
  | .CRV_TPL_AUX => ⟨0x003C0108, 0x10, 64, 4, 1⟩
  | .CRV_TPL_STAT => ⟨0x003C010C, 0x10, 64, 4, 1⟩
  | .CRV_ACT_A => ⟨0x003C1000, 0x10, 1024, 4, 1⟩
  | .CRV_ACT_B => ⟨0x003C1004, 0x10, 1024, 4, 1⟩
  | .CRV_ACT_C => ⟨0x003C1008, 0x10, 1024, 4, 1⟩
  | .PTL_CFG => ⟨0x00400000, 0x4, 1, 4, 1⟩
  | .PTL_OSC => ⟨0x00400004, 0x4, 1, 4, 1⟩
  | .PTL_TIME => ⟨0x00400008, 0x4, 1, 4, 1⟩
  | .PTL_SWEEP => ⟨0x0040000C, 0x4, 1, 4, 1⟩
  | .PTL_CTL => ⟨0x00400010, 0x4, 1, 4, 1⟩
  | .PTL_REL => ⟨0x00400014, 0x4, 1, 4, 1⟩
  | .PTL_STAT => ⟨0x00400018, 0x4, 1, 4, 1⟩
  | .PTL_CNT => ⟨0x0040001C, 0x4, 1, 4, 1⟩
  | .PTL_DUTY => ⟨0x00400020, 0x4, 1, 4, 1⟩
  | .PTL_SLC => ⟨0x00401000, 0x4, 192, 4, 1⟩
  | .PTL_TRIM => ⟨0x00401400, 0x4, 192, 4, 1⟩
  | .FLT_CFG => ⟨0x00480000, 0x4, 1, 4, 1⟩
  | .FLT_RUNOUT => ⟨0x00480004, 0x4, 1, 4, 1⟩
  | .FLT_CLAIMEXT => ⟨0x00480008, 0x4, 1, 4, 1⟩
  | .FLT_STAT => ⟨0x0048000C, 0x4, 1, 4, 1⟩
  | .FLT_LIVE => ⟨0x00480010, 0x4, 1, 4, 1⟩
  | .FLT_CNT => ⟨0x00480014, 0x4, 1, 4, 1⟩
  | .FLT_CLAIM => ⟨0x00480018, 0x4, 1, 4, 1⟩
  | .FLT_ACK => ⟨0x0048001C, 0x4, 1, 4, 1⟩
  | .FLT_ACKA => ⟨0x00480020, 0x4, 1, 4, 1⟩
  | .FLT_ERR => ⟨0x00480024, 0x4, 1, 4, 1⟩
  | .FLT_HB => ⟨0x00480028, 0x4, 1, 4, 1⟩
  | .FLT_IRQ_EN => ⟨0x00480030, 0x4, 1, 4, 1⟩
  | .FLT_IRQ_STAT => ⟨0x00480034, 0x4, 1, 4, 1⟩
  | .FLT_LATCH_ID => ⟨0x00481000, 0x20, 128, 4, 1⟩
  | .FLT_LATCH_INST => ⟨0x00481004, 0x20, 128, 4, 1⟩
  | .FLT_LATCH_F_LO => ⟨0x00481008, 0x20, 128, 4, 1⟩
  | .FLT_LATCH_F_HI => ⟨0x0048100C, 0x20, 128, 4, 1⟩
  | .FLT_LATCH_L_LO => ⟨0x00481010, 0x20, 128, 4, 1⟩
  | .FLT_LATCH_L_HI => ⟨0x00481014, 0x20, 128, 4, 1⟩
  | .FLT_LATCH_SEQ => ⟨0x00481018, 0x20, 128, 4, 1⟩
  | .FLT_LATCH_ESQ => ⟨0x0048101C, 0x20, 128, 4, 1⟩
  | .REC_CFG => ⟨0x00500000, 0x4, 1, 4, 1⟩
  | .REC_CTL => ⟨0x00500004, 0x4, 1, 4, 1⟩
  | .REC_STAT => ⟨0x00500008, 0x4, 1, 4, 1⟩
  | .REC_AREA => ⟨0x0050000C, 0x4, 1, 4, 1⟩
  | .REC_SEQ => ⟨0x00500010, 0x4, 1, 4, 1⟩
  | .REC_CNT => ⟨0x00500014, 0x4, 1, 4, 1⟩
  | .REC_CLR => ⟨0x00500020, 0x4, 1, 4, 1⟩
  | .REC_MARK_LO => ⟨0x00500030, 0x4, 1, 4, 1⟩
  | .REC_MARK_HI => ⟨0x00500034, 0x4, 1, 4, 1⟩
  | .REC_MARK_GO => ⟨0x00500038, 0x4, 1, 4, 1⟩
  | .REC_RD_SEL => ⟨0x00500040, 0x4, 1, 4, 1⟩
  | .REC_RD_WIN => ⟨0x00500080, 0x4, 16, 4, 1⟩
  | .REC_SNAP_SEL => ⟨0x00500100, 0x40, 32, 4, 1⟩
  | .REC_SNAP_CTL => ⟨0x00500104, 0x40, 32, 4, 1⟩
  | .REC_SNAP_ADDR => ⟨0x00500120, 0x40, 32, 4, 8⟩
  | .BDAC_CFG => ⟨0x00580000, 0x20, 48, 4, 1⟩
  | .BDAC_CODE => ⟨0x00580004, 0x20, 48, 4, 1⟩
  | .BDAC_STAT => ⟨0x00580008, 0x20, 48, 4, 1⟩
  | .BDAC_SPAN => ⟨0x0058000C, 0x20, 48, 4, 1⟩
  | .BDAC_SINE => ⟨0x00580010, 0x20, 48, 4, 1⟩
  | .BDAC_SAMP => ⟨0x00580014, 0x20, 48, 4, 1⟩
  | .BDAC_RB => ⟨0x00580018, 0x20, 48, 4, 1⟩
  | .BDAC_ERR => ⟨0x0058001C, 0x20, 48, 4, 1⟩
  | .BDAC_LOAD0 => ⟨0x00580800, 0x4, 1, 4, 1⟩
  | .BDAC_LOAD1 => ⟨0x00580804, 0x4, 1, 4, 1⟩
  | .BDAC_TT_LO => ⟨0x00580810, 0x4, 1, 4, 1⟩
  | .BDAC_TT_HI => ⟨0x00580814, 0x4, 1, 4, 1⟩
  | .BDAC_TT_CTL => ⟨0x00580818, 0x4, 1, 4, 1⟩
  | .HK_CFG => ⟨0x00600000, 0x4, 1, 4, 1⟩
  | .HK_STAT => ⟨0x00600004, 0x4, 1, 4, 1⟩
  | .HK_ASSIGN => ⟨0x00600040, 0x4, 32, 4, 1⟩
  | .HK_SLOT => ⟨0x00600200, 0x4, 128, 4, 1⟩
  | .THM_CFG => ⟨0x00601000, 0x4, 1, 4, 1⟩
  | .THM_STAT => ⟨0x00601004, 0x4, 1, 4, 1⟩
  | .THM_TMAX => ⟨0x00601008, 0x4, 1, 4, 1⟩
  | .THM_XO => ⟨0x0060100C, 0x4, 1, 4, 1⟩
  | .THM_SENS => ⟨0x00601100, 0x4, 16, 4, 1⟩
  | .THM_TRIM => ⟨0x00601200, 0x4, 16, 4, 1⟩
  | .TOW_PORT_CFG => ⟨0x00680000, 0x10, 2, 4, 1⟩
  | .TOW_PORT_STAT => ⟨0x00680004, 0x10, 2, 4, 1⟩
  | .TOW_LINK_DLY => ⟨0x00680020, 0x4, 1, 4, 1⟩
  | .TOW_ID => ⟨0x00680030, 0x4, 1, 4, 1⟩
  | .TOW_HB_CFG => ⟨0x00680034, 0x4, 1, 4, 1⟩
  | .TOW_CNT => ⟨0x00680038, 0x4, 1, 4, 1⟩
  | .TOW_TIME_CFG => ⟨0x00680100, 0x4, 1, 4, 1⟩
  | .TOW_TIME_STAT => ⟨0x00680104, 0x4, 1, 4, 1⟩
  | .TOW_TIME_LO => ⟨0x00680108, 0x4, 1, 4, 1⟩
  | .TOW_TIME_HI => ⟨0x0068010C, 0x4, 1, 4, 1⟩
  | .TOW_TIME_SET_LO => ⟨0x00680110, 0x4, 1, 4, 1⟩
  | .TOW_TIME_SET_HI => ⟨0x00680114, 0x4, 1, 4, 1⟩
  | .TOW_TIME_SET_GO => ⟨0x00680118, 0x4, 1, 4, 1⟩
  | .TOW_PAIR_CFG => ⟨0x00680200, 0x4, 1, 4, 1⟩
  | .TOW_PAIR_CTL => ⟨0x00680204, 0x4, 1, 4, 1⟩
  | .TOW_PAIR_STAT => ⟨0x00680208, 0x4, 1, 4, 1⟩
  | .TOW_HEAD_CTL => ⟨0x00680400, 0x4, 1, 4, 1⟩
  | .TOW_HEAD_STAT => ⟨0x00680404, 0x4, 1, 4, 1⟩
  | .TOW_HEAD_PROM => ⟨0x00680408, 0x4, 1, 4, 1⟩
  | .TOW_HEAD_MBX => ⟨0x00680410, 0x4, 1, 4, 1⟩
  | .TOW_HEAD_DEAD => ⟨0x00680500, 0x4, 64, 4, 1⟩
  | .TOW_HEAD_SPARE => ⟨0x00680600, 0x4, 32, 4, 1⟩
  | .TOW_HEAD_TX => ⟨0x00681000, 0x4, 68, 4, 1⟩
  | .TOW_HEAD_RX => ⟨0x00682000, 0x4, 68, 4, 1⟩
  | .FIX_STAT => ⟨0x00700000, 0x4, 1, 4, 1⟩
  | .FIX_PMAX => ⟨0x00700010, 0x4, 8, 4, 1⟩
  | .FIX_GMAX => ⟨0x00700030, 0x4, 1, 4, 1⟩
  | .FIX_MARGIN => ⟨0x00700034, 0x4, 1, 4, 1⟩
  | .FIX_UL => ⟨0x00700038, 0x4, 1, 4, 1⟩
  | .FIX_EMIS => ⟨0x0070003C, 0x4, 1, 4, 1⟩
  | .FIX_NRANGE => ⟨0x00700040, 0x4, 1, 4, 1⟩
  | .FIX_RANGE_LO => ⟨0x00700100, 0x100, 2, 8, 32⟩
  | .FIX_RANGE_HI => ⟨0x00700104, 0x100, 2, 8, 32⟩
  | .CAL_CTL => ⟨0x00780000, 0x4, 1, 4, 1⟩
  | .CAL_STAT => ⟨0x00780004, 0x4, 1, 4, 1⟩
  | .CAL_RET_CTL => ⟨0x00780100, 0x4, 1, 4, 1⟩
  | .CAL_RET_STAT => ⟨0x00780104, 0x4, 1, 4, 1⟩
  | .CAL_RET_SEQ => ⟨0x00780108, 0x4, 1, 4, 1⟩
  | .POOL_STAT => ⟨0x00800000, 0x4, 1, 4, 1⟩
  | .POOL_CAP_CFG => ⟨0x00800010, 0x4, 1, 4, 1⟩
  | .POOL_CAP_STAT => ⟨0x00800014, 0x4, 1, 4, 1⟩
  | .POOL_CAP_RD => ⟨0x00800018, 0x4, 1, 4, 1⟩
  | .POOL_CAP_WIN => ⟨0x00801000, 0x4, 1024, 4, 1⟩
  | .SUP_BOOT => ⟨0x00880010, 0x4, 1, 4, 1⟩
  | .SUP_STRAP => ⟨0x00880014, 0x4, 1, 4, 1⟩
  | .SUP_PRM_ID => ⟨0x00880018, 0x4, 1, 4, 1⟩
  | .SUP_PRM_SEQ => ⟨0x0088001C, 0x4, 1, 4, 1⟩
  | .SUP_CTL => ⟨0x00880020, 0x4, 1, 4, 1⟩
  | .SUP_HO_CTL => ⟨0x00880040, 0x4, 1, 4, 1⟩
  | .SUP_HO_STAT => ⟨0x00880044, 0x4, 1, 4, 1⟩
  | .SUP_WR_EN => ⟨0x00880050, 0x4, 1, 4, 1⟩
  | .SUP_AUTH_NONCE_LO => ⟨0x00880060, 0x4, 1, 4, 1⟩
  | .SUP_AUTH_NONCE_HI => ⟨0x00880064, 0x4, 1, 4, 1⟩
  | .SUP_AUTH_CTL => ⟨0x00880068, 0x4, 1, 4, 1⟩
  | .SUP_AUTH_STAT => ⟨0x0088006C, 0x4, 1, 4, 1⟩
  | .SUP_AUTH_WIN => ⟨0x00884000, 0x4, 1024, 4, 1⟩
  | .TST_FINJ => ⟨0x00F00040, 0x4, 1, 4, 1⟩

/-- A field of a register: its lowest bit and its width. -/
structure Fld where
  reg : RegName
  lo : Nat
  len : Nat
deriving DecidableEq, Repr

def GLB_ID.PART : Fld := ⟨.GLB_ID, 16, 16⟩
def GLB_ID.REV : Fld := ⟨.GLB_ID, 8, 8⟩
def GLB_UID_LO.UID : Fld := ⟨.GLB_UID_LO, 0, 32⟩
def GLB_UID_HI.UID : Fld := ⟨.GLB_UID_HI, 0, 32⟩
def GLB_LOCK.LOCK : Fld := ⟨.GLB_LOCK, 0, 1⟩
def LDG_WAKE_CFG.PIN_EN : Fld := ⟨.LDG_WAKE_CFG, 31, 1⟩
def LDG_WAKE_CFG.RF_EN : Fld := ⟨.LDG_WAKE_CFG, 30, 1⟩
def LDG_WAKE_CFG.TOW_EN : Fld := ⟨.LDG_WAKE_CFG, 29, 1⟩
def LDG_WAKE_CFG.RF_DWELL : Fld := ⟨.LDG_WAKE_CFG, 0, 8⟩
def LDG_WAKE_STAT.RF_PINS : Fld := ⟨.LDG_WAKE_STAT, 8, 8⟩
def LDG_WAKE_STAT.CAUSE : Fld := ⟨.LDG_WAKE_STAT, 0, 4⟩
def LDG_RFDET_CFG.EN : Fld := ⟨.LDG_RFDET_CFG, 24, 8⟩
def LDG_RFDET_CFG.TH : Fld := ⟨.LDG_RFDET_CFG, 0, 6⟩
def LDG_RFDET_STAT.SEEN : Fld := ⟨.LDG_RFDET_STAT, 8, 8⟩
def LDG_RFDET_STAT.PRES : Fld := ⟨.LDG_RFDET_STAT, 0, 8⟩
def LDG_WAKE_TMR.SEC : Fld := ⟨.LDG_WAKE_TMR, 0, 32⟩
def LDG_PF.XTAL_OK : Fld := ⟨.LDG_PF, 31, 1⟩
def LDG_PF.PG : Fld := ⟨.LDG_PF, 30, 1⟩
def LDG_PF.PF_CNT : Fld := ⟨.LDG_PF, 0, 8⟩
def LDG_OPT_LO.COUNT_LO : Fld := ⟨.LDG_OPT_LO, 0, 32⟩
def LDG_OPT_HI.COUNT_HI : Fld := ⟨.LDG_OPT_HI, 0, 16⟩
def LDG_PWRCYC.COUNT : Fld := ⟨.LDG_PWRCYC, 0, 32⟩
def PWR_DOM.UP_CNT : Fld := ⟨.PWR_DOM, 16, 8⟩
def PWR_DOM.QUEUED : Fld := ⟨.PWR_DOM, 3, 1⟩
def PWR_DOM.PHASE : Fld := ⟨.PWR_DOM, 0, 3⟩
def PWR_CTL.SLEEP : Fld := ⟨.PWR_CTL, 31, 1⟩
def PWR_STAT.SLEEP_REJ : Fld := ⟨.PWR_STAT, 16, 1⟩
def PWR_STAT.NPOW : Fld := ⟨.PWR_STAT, 8, 8⟩
def PWR_STAT.STATE : Fld := ⟨.PWR_STAT, 0, 2⟩
def PWR_DOZE_CFG.EN : Fld := ⟨.PWR_DOZE_CFG, 31, 1⟩
def PWR_DOZE_CFG.MIN_IDLE : Fld := ⟨.PWR_DOZE_CFG, 0, 16⟩
def PWR_DOZE_STAT.TILES : Fld := ⟨.PWR_DOZE_STAT, 16, 6⟩
def PWR_DOZE_STAT.SLICES : Fld := ⟨.PWR_DOZE_STAT, 0, 8⟩
def PWR_DOZE_MAP.DOZE : Fld := ⟨.PWR_DOZE_MAP, 0, 32⟩
def SYN_FT_CFG.REVERT : Fld := ⟨.SYN_FT_CFG, 24, 8⟩
def SYN_FT_CFG.STEP_TH : Fld := ⟨.SYN_FT_CFG, 16, 8⟩
def SYN_FT_CFG.TD_SEL : Fld := ⟨.SYN_FT_CFG, 12, 3⟩
def SYN_FT_CFG.PRI3 : Fld := ⟨.SYN_FT_CFG, 9, 3⟩
def SYN_FT_CFG.PRI2 : Fld := ⟨.SYN_FT_CFG, 6, 3⟩
def SYN_FT_CFG.PRI1 : Fld := ⟨.SYN_FT_CFG, 3, 3⟩
def SYN_FT_CFG.PRI0 : Fld := ⟨.SYN_FT_CFG, 0, 3⟩
def SYN_FT_STAT.VALID : Fld := ⟨.SYN_FT_STAT, 20, 4⟩
def SYN_FT_STAT.CFG_REJ : Fld := ⟨.SYN_FT_STAT, 16, 1⟩
def SYN_FT_STAT.STEP_CNT : Fld := ⟨.SYN_FT_STAT, 8, 8⟩
def SYN_FT_STAT.HALF_AMBIG : Fld := ⟨.SYN_FT_STAT, 7, 1⟩
def SYN_FT_STAT.SLEWING : Fld := ⟨.SYN_FT_STAT, 6, 1⟩
def SYN_FT_STAT.HOLDOVER : Fld := ⟨.SYN_FT_STAT, 5, 1⟩
def SYN_FT_STAT.ACTIVE : Fld := ⟨.SYN_FT_STAT, 0, 3⟩
def SYN_FT_NOW.FRAME : Fld := ⟨.SYN_FT_NOW, 24, 8⟩
def SYN_FT_NOW.CYCLE : Fld := ⟨.SYN_FT_NOW, 0, 24⟩
def SYN_FT_OFS.OFS : Fld := ⟨.SYN_FT_OFS, 0, 24⟩
def SYN_TD_CFG.EN : Fld := ⟨.SYN_TD_CFG, 31, 1⟩
def SYN_TD_CFG.RAT : Fld := ⟨.SYN_TD_CFG, 29, 2⟩
def SYN_TD_CFG.NID2 : Fld := ⟨.SYN_TD_CFG, 27, 2⟩
def SYN_TD_CFG.SLICE : Fld := ⟨.SYN_TD_CFG, 16, 8⟩
def SYN_TD_CFG.FOFS : Fld := ⟨.SYN_TD_CFG, 0, 14⟩
def SYN_TD_STAT.LOCK : Fld := ⟨.SYN_TD_STAT, 31, 1⟩
def SYN_TD_STAT.NID2_FOUND : Fld := ⟨.SYN_TD_STAT, 29, 2⟩
def SYN_TD_STAT.CFG_REJ : Fld := ⟨.SYN_TD_STAT, 28, 1⟩
def SYN_TD_STAT.MISS_CNT : Fld := ⟨.SYN_TD_STAT, 16, 8⟩
def SYN_TD_STAT.QUAL : Fld := ⟨.SYN_TD_STAT, 0, 16⟩
def SYN_GRP_CTL.REARM : Fld := ⟨.SYN_GRP_CTL, 31, 1⟩
def SYN_GRP_CTL.TX_MASK : Fld := ⟨.SYN_GRP_CTL, 20, 4⟩
def SYN_GRP_CTL.RX_MASK : Fld := ⟨.SYN_GRP_CTL, 16, 4⟩
def SYN_GRP_CTL.TARGET : Fld := ⟨.SYN_GRP_CTL, 8, 3⟩
def SYN_GRP_STAT.TXTO_CNT : Fld := ⟨.SYN_GRP_STAT, 16, 8⟩
def SYN_GRP_STAT.CFG_REJ : Fld := ⟨.SYN_GRP_STAT, 15, 1⟩
def SYN_GRP_STAT.HELD : Fld := ⟨.SYN_GRP_STAT, 14, 1⟩
def SYN_GRP_STAT.CAL : Fld := ⟨.SYN_GRP_STAT, 13, 1⟩
def SYN_GRP_STAT.TX_WAIT : Fld := ⟨.SYN_GRP_STAT, 12, 1⟩
def SYN_GRP_STAT.QUEUED : Fld := ⟨.SYN_GRP_STAT, 11, 1⟩
def SYN_GRP_STAT.TX_LOCK : Fld := ⟨.SYN_GRP_STAT, 10, 1⟩
def SYN_GRP_STAT.RX_LOCK : Fld := ⟨.SYN_GRP_STAT, 9, 1⟩
def SYN_GRP_STAT.PHASE : Fld := ⟨.SYN_GRP_STAT, 6, 2⟩
def SYN_GRP_STAT.TARGET : Fld := ⟨.SYN_GRP_STAT, 3, 3⟩
def SYN_GRP_STAT.STATE : Fld := ⟨.SYN_GRP_STAT, 0, 3⟩
def SYN_LO_FREQ.FREQ : Fld := ⟨.SYN_LO_FREQ, 0, 32⟩
def SYN_LO_STAT.UNLOCK_CNT : Fld := ⟨.SYN_LO_STAT, 16, 8⟩
def SYN_LO_STAT.CACHE_N : Fld := ⟨.SYN_LO_STAT, 11, 5⟩
def SYN_LO_STAT.FREQ_REJ : Fld := ⟨.SYN_LO_STAT, 10, 1⟩
def SYN_LO_STAT.PEND : Fld := ⟨.SYN_LO_STAT, 9, 1⟩
def SYN_LO_STAT.SEARCH : Fld := ⟨.SYN_LO_STAT, 8, 1⟩
def SYN_LO_STAT.RETUNE : Fld := ⟨.SYN_LO_STAT, 1, 1⟩
def SYN_LO_STAT.LOCK : Fld := ⟨.SYN_LO_STAT, 0, 1⟩
def SYN_RFFE_CFG.EN : Fld := ⟨.SYN_RFFE_CFG, 31, 1⟩
def SYN_RFFE_CFG.DIV : Fld := ⟨.SYN_RFFE_CFG, 26, 2⟩
def SYN_RFFE_CFG.GRP : Fld := ⟨.SYN_RFFE_CFG, 24, 2⟩
def SYN_RFFE_CMD.TYPE : Fld := ⟨.SYN_RFFE_CMD, 29, 3⟩
def SYN_RFFE_CMD.BC : Fld := ⟨.SYN_RFFE_CMD, 25, 4⟩
def SYN_RFFE_CMD.USID : Fld := ⟨.SYN_RFFE_CMD, 21, 4⟩
def SYN_RFFE_CMD.ADDR : Fld := ⟨.SYN_RFFE_CMD, 0, 16⟩
def SYN_RFFE_DATA.BYTES : Fld := ⟨.SYN_RFFE_DATA, 0, 32⟩
def SYN_RFFE_STAT.LATE_CNT : Fld := ⟨.SYN_RFFE_STAT, 24, 8⟩
def SYN_RFFE_STAT.FIFO_LVL : Fld := ⟨.SYN_RFFE_STAT, 16, 8⟩
def SYN_RFFE_STAT.PERR : Fld := ⟨.SYN_RFFE_STAT, 3, 1⟩
def SYN_RFFE_STAT.CMD_REJ : Fld := ⟨.SYN_RFFE_STAT, 2, 1⟩
def SYN_RFFE_STAT.OVF : Fld := ⟨.SYN_RFFE_STAT, 1, 1⟩
def SYN_RFFE_STAT.BUSY : Fld := ⟨.SYN_RFFE_STAT, 0, 1⟩
def SYN_RFFE_RD.VALID : Fld := ⟨.SYN_RFFE_RD, 8, 1⟩
def SYN_RFFE_RD.DATA : Fld := ⟨.SYN_RFFE_RD, 0, 8⟩
def SYN_TGPIO_CFG.EN : Fld := ⟨.SYN_TGPIO_CFG, 31, 1⟩
def SYN_TGPIO_CFG.MODE : Fld := ⟨.SYN_TGPIO_CFG, 29, 2⟩
def SYN_TGPIO_CFG.SAFE : Fld := ⟨.SYN_TGPIO_CFG, 28, 1⟩
def SYN_TGPIO_CFG.GRP : Fld := ⟨.SYN_TGPIO_CFG, 25, 2⟩
def SYN_TGPIO_CFG.FSEL : Fld := ⟨.SYN_TGPIO_CFG, 22, 3⟩
def SYN_TGPIO_CFG.INV : Fld := ⟨.SYN_TGPIO_CFG, 21, 1⟩
def SYN_TGPIO_CFG.DLY : Fld := ⟨.SYN_TGPIO_CFG, 0, 16⟩
def SYN_TGPIO_OUT.LEVEL : Fld := ⟨.SYN_TGPIO_OUT, 0, 32⟩
def SYN_TGPIO_IN.PIN : Fld := ⟨.SYN_TGPIO_IN, 0, 32⟩
def RXC_CFG.DC_TRK : Fld := ⟨.RXC_CFG, 31, 1⟩
def RXC_CFG.IQ_TRK : Fld := ⟨.RXC_CFG, 30, 1⟩
def RXC_CFG.CLIP_TH : Fld := ⟨.RXC_CFG, 16, 8⟩
def RXC_CFG.VGA : Fld := ⟨.RXC_CFG, 0, 6⟩
def RXC_STAT.CLIP_CNT : Fld := ⟨.RXC_STAT, 16, 16⟩
def RXC_STAT.CFG_REJ : Fld := ⟨.RXC_STAT, 7, 1⟩
def RXC_STAT.COARSE : Fld := ⟨.RXC_STAT, 6, 1⟩
def RXC_STAT.STALE : Fld := ⟨.RXC_STAT, 5, 1⟩
def RXC_STAT.CAL : Fld := ⟨.RXC_STAT, 0, 2⟩
def RXC_PWR.PWR : Fld := ⟨.RXC_PWR, 0, 16⟩
def TXC_CFG.TRK_EN : Fld := ⟨.TXC_CFG, 31, 1⟩
def TXC_CFG.ATT : Fld := ⟨.TXC_CFG, 0, 6⟩
def TXC_STAT.ATT_REJ : Fld := ⟨.TXC_STAT, 7, 1⟩
def TXC_STAT.COARSE : Fld := ⟨.TXC_STAT, 6, 1⟩
def TXC_STAT.STALE : Fld := ⟨.TXC_STAT, 5, 1⟩
def TXC_STAT.NO_TAP : Fld := ⟨.TXC_STAT, 4, 1⟩
def TXC_STAT.CAL : Fld := ⟨.TXC_STAT, 0, 2⟩
def TXC_ORX_STAT.PREEMPT_CNT : Fld := ⟨.TXC_ORX_STAT, 24, 8⟩
def TXC_ORX_STAT.ATT : Fld := ⟨.TXC_ORX_STAT, 16, 5⟩
def TXC_ORX_STAT.TAP : Fld := ⟨.TXC_ORX_STAT, 8, 3⟩
def TXC_ORX_STAT.SELF_OK : Fld := ⟨.TXC_ORX_STAT, 3, 1⟩
def TXC_ORX_STAT.OWNER : Fld := ⟨.TXC_ORX_STAT, 0, 3⟩
def SLC_CFG0.DIR : Fld := ⟨.SLC_CFG0, 31, 1⟩
def SLC_CFG0.SRC : Fld := ⟨.SLC_CFG0, 28, 3⟩
def SLC_CFG0.SINK : Fld := ⟨.SLC_CFG0, 24, 3⟩
def SLC_CFG0.CLASS : Fld := ⟨.SLC_CFG0, 20, 3⟩
def SLC_CFG0.WIDTH : Fld := ⟨.SLC_CFG0, 16, 2⟩
def SLC_CFG0.MSET : Fld := ⟨.SLC_CFG0, 8, 8⟩
def SLC_CFG0.BRANCH : Fld := ⟨.SLC_CFG0, 4, 2⟩
def SLC_CFG0.PRIO : Fld := ⟨.SLC_CFG0, 0, 3⟩
def SLC_CFG1.FLEN : Fld := ⟨.SLC_CFG1, 0, 8⟩
def SLC_NCO_RX.OFS : Fld := ⟨.SLC_NCO_RX, 0, 32⟩
def SLC_NCO_TX.OFS : Fld := ⟨.SLC_NCO_TX, 0, 32⟩
def SLC_GAIN.GAIN : Fld := ⟨.SLC_GAIN, 0, 16⟩
def SLC_SYSG.SYSG : Fld := ⟨.SLC_SYSG, 0, 16⟩
def SLC_DET.PRES_TH : Fld := ⟨.SLC_DET, 24, 8⟩
def SLC_DET.HANG : Fld := ⟨.SLC_DET, 16, 8⟩
def SLC_CTL.EN : Fld := ⟨.SLC_CTL, 31, 1⟩
def SLC_CTL.FMUTE : Fld := ⟨.SLC_CTL, 30, 1⟩
def SLC_STAT.PHYS : Fld := ⟨.SLC_STAT, 8, 8⟩
def SLC_STAT.SPARE : Fld := ⟨.SLC_STAT, 7, 1⟩
def SLC_STAT.SET_WAIT : Fld := ⟨.SLC_STAT, 6, 1⟩
def SLC_STAT.RANGE_HOLD : Fld := ⟨.SLC_STAT, 5, 1⟩
def SLC_STAT.PRES : Fld := ⟨.SLC_STAT, 4, 1⟩
def SLC_STAT.MUTE : Fld := ⟨.SLC_STAT, 3, 1⟩
def SLC_STAT.STATE : Fld := ⟨.SLC_STAT, 0, 3⟩
def SLC_ERR.GAIN_REJ : Fld := ⟨.SLC_ERR, 7, 1⟩
def SLC_ERR.BANK_LIVE : Fld := ⟨.SLC_ERR, 6, 1⟩
def SLC_ERR.STATE : Fld := ⟨.SLC_ERR, 5, 1⟩
def SLC_ERR.SET : Fld := ⟨.SLC_ERR, 4, 1⟩
def SLC_ERR.POOL : Fld := ⟨.SLC_ERR, 3, 1⟩
def SLC_ERR.SU : Fld := ⟨.SLC_ERR, 2, 1⟩
def SLC_ERR.RANGE : Fld := ⟨.SLC_ERR, 1, 1⟩
def SLC_ERR.DIR : Fld := ⟨.SLC_ERR, 0, 1⟩
def SLC_RMS.VALID : Fld := ⟨.SLC_RMS, 31, 1⟩
def SLC_RMS.SEQ : Fld := ⟨.SLC_RMS, 16, 8⟩
def SLC_RMS.PWR : Fld := ⟨.SLC_RMS, 0, 16⟩
def SLC_PEAK.VALID : Fld := ⟨.SLC_PEAK, 31, 1⟩
def SLC_PEAK.SEQ : Fld := ⟨.SLC_PEAK, 16, 8⟩
def SLC_PEAK.PWR : Fld := ⟨.SLC_PEAK, 0, 16⟩
def SLC_LATINFO.FILL : Fld := ⟨.SLC_LATINFO, 20, 12⟩
def SLC_LATINFO.MINLAT : Fld := ⟨.SLC_LATINFO, 0, 20⟩
def SLC_DLY.DPRES : Fld := ⟨.SLC_DLY, 20, 12⟩
def SLC_DLY.DMEAS : Fld := ⟨.SLC_DLY, 0, 20⟩
def SLC_SETTLE.CAUSE : Fld := ⟨.SLC_SETTLE, 16, 3⟩
def SLC_SETTLE.REM : Fld := ⟨.SLC_SETTLE, 0, 16⟩
def SLC_GLZ_CTL.SWAP : Fld := ⟨.SLC_GLZ_CTL, 31, 1⟩
def SLC_GLZ_CTL.SET : Fld := ⟨.SLC_GLZ_CTL, 30, 1⟩
def SLC_GLZ_CTL.LEN : Fld := ⟨.SLC_GLZ_CTL, 0, 13⟩
def SLC_GLZ_STAT.PEND_LOST : Fld := ⟨.SLC_GLZ_STAT, 24, 8⟩
def SLC_GLZ_STAT.WAIT : Fld := ⟨.SLC_GLZ_STAT, 16, 1⟩
def SLC_GLZ_STAT.LIVE : Fld := ⟨.SLC_GLZ_STAT, 15, 1⟩
def SLC_GLZ_STAT.FADING : Fld := ⟨.SLC_GLZ_STAT, 14, 1⟩
def SLC_GLZ_STAT.PEND : Fld := ⟨.SLC_GLZ_STAT, 13, 1⟩
def SLC_GLZ_STAT.POS : Fld := ⟨.SLC_GLZ_STAT, 0, 13⟩
def SLC_COEF_A.C_ODD : Fld := ⟨.SLC_COEF_A, 16, 16⟩
def SLC_COEF_A.C_EVEN : Fld := ⟨.SLC_COEF_A, 0, 16⟩
def SLC_COEF_B.C_ODD : Fld := ⟨.SLC_COEF_B, 16, 16⟩
def SLC_COEF_B.C_EVEN : Fld := ⟨.SLC_COEF_B, 0, 16⟩
def SLC_ARRAY_STAT.SPARE_FREE : Fld := ⟨.SLC_ARRAY_STAT, 24, 4⟩
def SLC_ARRAY_STAT.ENABLED : Fld := ⟨.SLC_ARRAY_STAT, 16, 8⟩
def SLC_ARRAY_STAT.SU_USED : Fld := ⟨.SLC_ARRAY_STAT, 0, 11⟩
def SLC_LAT.REJ_RANGE : Fld := ⟨.SLC_LAT, 31, 1⟩
def SLC_LAT.REJ_POOL : Fld := ⟨.SLC_LAT, 30, 1⟩
def SLC_LAT.LAT : Fld := ⟨.SLC_LAT, 0, 11⟩
def SLC_SPARE_CTL.GO : Fld := ⟨.SLC_SPARE_CTL, 31, 1⟩
def SLC_SPARE_CTL.RET : Fld := ⟨.SLC_SPARE_CTL, 30, 1⟩
def SLC_SPARE_CTL.SLICE : Fld := ⟨.SLC_SPARE_CTL, 0, 8⟩
def SLC_SPARE_STAT.BUSY : Fld := ⟨.SLC_SPARE_STAT, 31, 1⟩
def SLC_SPARE_STAT.REJ : Fld := ⟨.SLC_SPARE_STAT, 30, 1⟩
def SLC_SPARE_STAT.OOS : Fld := ⟨.SLC_SPARE_STAT, 16, 8⟩
def SLC_SPARE_STAT.WAIT : Fld := ⟨.SLC_SPARE_STAT, 12, 4⟩
def SLC_SPARE_STAT.LAST : Fld := ⟨.SLC_SPARE_STAT, 0, 8⟩
def CNL_CFG.REFMASK : Fld := ⟨.CNL_CFG, 24, 4⟩
def CNL_CFG.TAPS : Fld := ⟨.CNL_CFG, 10, 10⟩
def CNL_CFG.MU_EXP : Fld := ⟨.CNL_CFG, 5, 5⟩
def CNL_CFG.LEAK_EXP : Fld := ⟨.CNL_CFG, 0, 5⟩
def CNL_BULK.BULK3 : Fld := ⟨.CNL_BULK, 24, 8⟩
def CNL_BULK.BULK2 : Fld := ⟨.CNL_BULK, 16, 8⟩
def CNL_BULK.BULK1 : Fld := ⟨.CNL_BULK, 8, 8⟩
def CNL_BULK.BULK0 : Fld := ⟨.CNL_BULK, 0, 8⟩
def CNL_CTL.CLR : Fld := ⟨.CNL_CTL, 31, 1⟩
def CNL_CTL.FREEZE : Fld := ⟨.CNL_CTL, 29, 1⟩
def CNL_CTL.SUB : Fld := ⟨.CNL_CTL, 28, 1⟩
def CNL_CTL.HOLD_T : Fld := ⟨.CNL_CTL, 20, 8⟩
def CNL_CTL.MARGIN : Fld := ⟨.CNL_CTL, 8, 8⟩
def CNL_CTL.ISO_ASSUME : Fld := ⟨.CNL_CTL, 0, 8⟩
def CNL_ISO.VALID : Fld := ⟨.CNL_ISO, 31, 1⟩
def CNL_ISO.SEQ : Fld := ⟨.CNL_ISO, 16, 8⟩
def CNL_ISO.I_PHYS : Fld := ⟨.CNL_ISO, 0, 16⟩
def CNL_DEPTH.SHORT : Fld := ⟨.CNL_DEPTH, 16, 16⟩
def CNL_DEPTH.D : Fld := ⟨.CNL_DEPTH, 0, 16⟩
def CNL_EFF.ISO_CEIL : Fld := ⟨.CNL_EFF, 16, 16⟩
def CNL_EFF.I_EFF : Fld := ⟨.CNL_EFF, 0, 16⟩
def CNL_PWR.P_IN : Fld := ⟨.CNL_PWR, 16, 16⟩
def CNL_PWR.P_OUT : Fld := ⟨.CNL_PWR, 0, 16⟩
def CNL_STAT.DIV_CNT : Fld := ⟨.CNL_STAT, 24, 8⟩
def CNL_STAT.TAPS_EFF : Fld := ⟨.CNL_STAT, 14, 10⟩
def CNL_STAT.REF_OOR : Fld := ⟨.CNL_STAT, 10, 4⟩
def CNL_STAT.REF_ABS : Fld := ⟨.CNL_STAT, 6, 4⟩
def CNL_STAT.PRB_LIM : Fld := ⟨.CNL_STAT, 5, 1⟩
def CNL_STAT.AUTO_FRZ : Fld := ⟨.CNL_STAT, 4, 1⟩
def CNL_STAT.SNAP : Fld := ⟨.CNL_STAT, 3, 1⟩
def CNL_STAT.STATE : Fld := ⟨.CNL_STAT, 0, 3⟩
def CNL_ERR.MARGIN : Fld := ⟨.CNL_ERR, 2, 1⟩
def CNL_ERR.POOL : Fld := ⟨.CNL_ERR, 1, 1⟩
def CNL_ERR.CFG : Fld := ⟨.CNL_ERR, 0, 1⟩
def CNL_PRB_CFG.AUTO : Fld := ⟨.CNL_PRB_CFG, 31, 1⟩
def CNL_PRB_CFG.MODE : Fld := ⟨.CNL_PRB_CFG, 30, 1⟩
def CNL_PRB_CFG.FMUL : Fld := ⟨.CNL_PRB_CFG, 27, 3⟩
def CNL_PRB_CFG.DUR : Fld := ⟨.CNL_PRB_CFG, 23, 4⟩
def CNL_PRB_CFG.BDAC : Fld := ⟨.CNL_PRB_CFG, 16, 6⟩
def CNL_PRB_CFG.SLICE : Fld := ⟨.CNL_PRB_CFG, 8, 8⟩
def CNL_PRB_CFG.DEPTH : Fld := ⟨.CNL_PRB_CFG, 0, 8⟩
def CNL_PRB_CTL.START : Fld := ⟨.CNL_PRB_CTL, 31, 1⟩
def CNL_PRB_CTL.ABORT : Fld := ⟨.CNL_PRB_CTL, 30, 1⟩
def CNL_PRB_CTL.DISC_TH : Fld := ⟨.CNL_PRB_CTL, 16, 8⟩
def CNL_PRB_CTL.INTERVAL : Fld := ⟨.CNL_PRB_CTL, 0, 16⟩
def CNL_PRB_STAT.BUSY : Fld := ⟨.CNL_PRB_STAT, 31, 1⟩
def CNL_PRB_STAT.REJ : Fld := ⟨.CNL_PRB_STAT, 30, 1⟩
def CNL_PRB_STAT.INVALID : Fld := ⟨.CNL_PRB_STAT, 29, 1⟩
def CNL_PRB_STAT.DONE : Fld := ⟨.CNL_PRB_STAT, 28, 1⟩
def CNL_PRB_STAT.SLICE : Fld := ⟨.CNL_PRB_STAT, 16, 8⟩
def CNL_PRB_STAT.COUNT : Fld := ⟨.CNL_PRB_STAT, 0, 16⟩
def CNL_PRB_RES0.VALID : Fld := ⟨.CNL_PRB_RES0, 31, 1⟩
def CNL_PRB_RES0.MODE : Fld := ⟨.CNL_PRB_RES0, 30, 1⟩
def CNL_PRB_RES0.I_PHYS_P : Fld := ⟨.CNL_PRB_RES0, 0, 16⟩
def CNL_PRB_RES1.I_EFF_P : Fld := ⟨.CNL_PRB_RES1, 0, 16⟩
def CNL_COEF_SEL.EXP : Fld := ⟨.CNL_COEF_SEL, 12, 4⟩
def CNL_COEF_SEL.REF : Fld := ⟨.CNL_COEF_SEL, 8, 2⟩
def CNL_COEF_SEL.SLICE : Fld := ⟨.CNL_COEF_SEL, 0, 8⟩
def CNL_COEF_WIN.I : Fld := ⟨.CNL_COEF_WIN, 16, 16⟩
def CNL_COEF_WIN.Q : Fld := ⟨.CNL_COEF_WIN, 0, 16⟩
def LOOP_CTL.MODE : Fld := ⟨.LOOP_CTL, 0, 2⟩
def LOOP_CFG.NEG : Fld := ⟨.LOOP_CFG, 31, 1⟩
def LOOP_CFG.STN : Fld := ⟨.LOOP_CFG, 30, 1⟩
def LOOP_CFG.LUT_SEL : Fld := ⟨.LOOP_CFG, 24, 5⟩
def LOOP_CFG.KSH : Fld := ⟨.LOOP_CFG, 20, 3⟩
def LOOP_CFG.ESTEP : Fld := ⟨.LOOP_CFG, 0, 16⟩
def LOOP_SRC.MSRC : Fld := ⟨.LOOP_SRC, 30, 2⟩
def LOOP_SRC.MIDX : Fld := ⟨.LOOP_SRC, 16, 8⟩
def LOOP_SRC.PER : Fld := ⟨.LOOP_SRC, 8, 8⟩
def LOOP_SRC.BDAC : Fld := ⟨.LOOP_SRC, 0, 6⟩
def LOOP_SP.SP : Fld := ⟨.LOOP_SP, 0, 16⟩
def LOOP_LIM.UCEIL : Fld := ⟨.LOOP_LIM, 16, 16⟩
def LOOP_LIM.FLOOR : Fld := ⟨.LOOP_LIM, 0, 16⟩
def LOOP_MAN.VAL : Fld := ⟨.LOOP_MAN, 0, 16⟩
def LOOP_SUP.FE_N : Fld := ⟨.LOOP_SUP, 24, 8⟩
def LOOP_SUP.FE_TH : Fld := ⟨.LOOP_SUP, 16, 8⟩
def LOOP_SUP.HOLD_TO : Fld := ⟨.LOOP_SUP, 0, 16⟩
def LOOP_OUT.OUT : Fld := ⟨.LOOP_OUT, 0, 16⟩
def LOOP_LIMS.HI : Fld := ⟨.LOOP_LIMS, 16, 16⟩
def LOOP_LIMS.LO : Fld := ⟨.LOOP_LIMS, 0, 16⟩
def LOOP_ERR.GSP : Fld := ⟨.LOOP_ERR, 16, 16⟩
def LOOP_ERR.E : Fld := ⟨.LOOP_ERR, 0, 16⟩
def LOOP_ISTAT.MISS_CNT : Fld := ⟨.LOOP_ISTAT, 24, 8⟩
def LOOP_ISTAT.HOLD_CNT : Fld := ⟨.LOOP_ISTAT, 16, 8⟩
def LOOP_ISTAT.SHED_AUTO : Fld := ⟨.LOOP_ISTAT, 12, 1⟩
def LOOP_ISTAT.FE : Fld := ⟨.LOOP_ISTAT, 11, 1⟩
def LOOP_ISTAT.TIMEOUT : Fld := ⟨.LOOP_ISTAT, 10, 1⟩
def LOOP_ISTAT.CAUSE : Fld := ⟨.LOOP_ISTAT, 8, 2⟩
def LOOP_ISTAT.LIMIT : Fld := ⟨.LOOP_ISTAT, 7, 1⟩
def LOOP_ISTAT.FLOORED : Fld := ⟨.LOOP_ISTAT, 6, 1⟩
def LOOP_ISTAT.FRZ : Fld := ⟨.LOOP_ISTAT, 5, 1⟩
def LOOP_ISTAT.CFG_REJ : Fld := ⟨.LOOP_ISTAT, 4, 1⟩
def LOOP_ISTAT.VALID : Fld := ⟨.LOOP_ISTAT, 3, 1⟩
def LOOP_ISTAT.MODE : Fld := ⟨.LOOP_ISTAT, 0, 2⟩
def LOOP_GLD_VMAX.VMAX : Fld := ⟨.LOOP_GLD_VMAX, 0, 24⟩
def LOOP_GLD_AMAX.AMAX : Fld := ⟨.LOOP_GLD_AMAX, 0, 24⟩
def LOOP_GLD_JMAX.JMAX : Fld := ⟨.LOOP_GLD_JMAX, 0, 32⟩
def LOOP_GLD_POS.POS : Fld := ⟨.LOOP_GLD_POS, 0, 32⟩
def LOOP_GLD_VEL.VEL : Fld := ⟨.LOOP_GLD_VEL, 0, 32⟩
def LOOP_GLD_STAT.REST : Fld := ⟨.LOOP_GLD_STAT, 31, 1⟩
def LOOP_GLD_STAT.SHAPE : Fld := ⟨.LOOP_GLD_STAT, 29, 2⟩
def LOOP_GLD_STAT.FOLLOW_LO : Fld := ⟨.LOOP_GLD_STAT, 28, 1⟩
def LOOP_GLD_STAT.TGT : Fld := ⟨.LOOP_GLD_STAT, 0, 16⟩
def LOOP_STAT.OVR_CNT : Fld := ⟨.LOOP_STAT, 24, 8⟩
def LOOP_STAT.LUT_REJ : Fld := ⟨.LOOP_STAT, 19, 1⟩
def LOOP_STAT.OVR_RUN : Fld := ⟨.LOOP_STAT, 16, 3⟩
def LOOP_STAT.LOAD_PK : Fld := ⟨.LOOP_STAT, 8, 8⟩
def LOOP_STAT.LOAD : Fld := ⟨.LOOP_STAT, 0, 8⟩
def LOOP_GCTL.REARM_OVR : Fld := ⟨.LOOP_GCTL, 31, 1⟩
def LOOP_LUT.C : Fld := ⟨.LOOP_LUT, 0, 16⟩
def STN_CFG.EN : Fld := ⟨.STN_CFG, 31, 1⟩
def STN_CFG.SLICE : Fld := ⟨.STN_CFG, 16, 8⟩
def STN_CFG.NP : Fld := ⟨.STN_CFG, 0, 8⟩
def STN_CTL.RESTART : Fld := ⟨.STN_CTL, 31, 1⟩
def STN_CTL.FGT : Fld := ⟨.STN_CTL, 24, 4⟩
def STN_CTL.ACT_REL : Fld := ⟨.STN_CTL, 8, 8⟩
def STN_STAT.ARM_CNT : Fld := ⟨.STN_STAT, 24, 8⟩
def STN_STAT.EDGE_OVF : Fld := ⟨.STN_STAT, 23, 1⟩
def STN_STAT.EDGES : Fld := ⟨.STN_STAT, 17, 6⟩
def STN_STAT.WITHDRAWN : Fld := ⟨.STN_STAT, 16, 1⟩
def STN_STAT.RL_CNT : Fld := ⟨.STN_STAT, 8, 7⟩
def STN_STAT.RUN : Fld := ⟨.STN_STAT, 3, 5⟩
def STN_STAT.STATE : Fld := ⟨.STN_STAT, 0, 3⟩
def STN_ERR.STATE : Fld := ⟨.STN_ERR, 3, 1⟩
def STN_ERR.ATTACH : Fld := ⟨.STN_ERR, 2, 1⟩
def STN_ERR.POOL : Fld := ⟨.STN_ERR, 1, 1⟩
def STN_ERR.CFG : Fld := ⟨.STN_ERR, 0, 1⟩
def STN_ANCHOR.FRAME : Fld := ⟨.STN_ANCHOR, 24, 8⟩
def STN_ANCHOR.PCNT : Fld := ⟨.STN_ANCHOR, 0, 24⟩
def STN_EDGE.VALID : Fld := ⟨.STN_EDGE, 31, 1⟩
def STN_EDGE.TYPE : Fld := ⟨.STN_EDGE, 30, 1⟩
def STN_EDGE.OFS : Fld := ⟨.STN_EDGE, 0, 25⟩
def STN_BIN.CLASS : Fld := ⟨.STN_BIN, 31, 1⟩
def STN_BIN.EDGE : Fld := ⟨.STN_BIN, 30, 1⟩
def STN_BIN.LVL : Fld := ⟨.STN_BIN, 0, 16⟩
def CRV_CTL.EN : Fld := ⟨.CRV_CTL, 31, 1⟩
def CRV_CTL.FLUSH : Fld := ⟨.CRV_CTL, 30, 1⟩
def CRV_CTL.HORIZON : Fld := ⟨.CRV_CTL, 0, 10⟩
def CRV_STAT.OPEN_EP : Fld := ⟨.CRV_STAT, 23, 9⟩
def CRV_STAT.FREE : Fld := ⟨.CRV_STAT, 0, 13⟩
def CRV_CNT0.CONF_CNT : Fld := ⟨.CRV_CNT0, 16, 16⟩
def CRV_CNT0.CONTRA_CNT : Fld := ⟨.CRV_CNT0, 0, 16⟩
def CRV_CNT1.SKIP_FULL : Fld := ⟨.CRV_CNT1, 24, 8⟩
def CRV_CNT1.SKIP_LATE : Fld := ⟨.CRV_CNT1, 16, 8⟩
def CRV_CNT1.DISCARD : Fld := ⟨.CRV_CNT1, 8, 8⟩
def CRV_CNT1.INV_SKIP : Fld := ⟨.CRV_CNT1, 0, 8⟩
def CRV_ERR.DIR_REJ : Fld := ⟨.CRV_ERR, 5, 1⟩
def CRV_ERR.TPL_LIVE : Fld := ⟨.CRV_ERR, 4, 1⟩
def CRV_ERR.NO_INV : Fld := ⟨.CRV_ERR, 3, 1⟩
def CRV_ERR.GATE : Fld := ⟨.CRV_ERR, 2, 1⟩
def CRV_ERR.RANGE : Fld := ⟨.CRV_ERR, 1, 1⟩
def CRV_ERR.CFG : Fld := ⟨.CRV_ERR, 0, 1⟩
def CRV_DIR_TIME.FRAME : Fld := ⟨.CRV_DIR_TIME, 24, 8⟩
def CRV_DIR_TIME.CYCLE : Fld := ⟨.CRV_DIR_TIME, 0, 24⟩
def CRV_DIR_A.GATED : Fld := ⟨.CRV_DIR_A, 31, 1⟩
def CRV_DIR_A.HAS_INV : Fld := ⟨.CRV_DIR_A, 30, 1⟩
def CRV_DIR_A.TYPE : Fld := ⟨.CRV_DIR_A, 28, 2⟩
def CRV_DIR_A.OFS : Fld := ⟨.CRV_DIR_A, 0, 18⟩
def CRV_DIR_B.MST : Fld := ⟨.CRV_DIR_B, 24, 2⟩
def CRV_DIR_B.USID : Fld := ⟨.CRV_DIR_B, 20, 4⟩
def CRV_DIR_B.XW : Fld := ⟨.CRV_DIR_B, 19, 1⟩
def CRV_DIR_B.IDX : Fld := ⟨.CRV_DIR_B, 0, 16⟩
def CRV_DIR_C.INV : Fld := ⟨.CRV_DIR_C, 16, 16⟩
def CRV_DIR_C.VAL : Fld := ⟨.CRV_DIR_C, 0, 16⟩
def CRV_DIR_GO.GO : Fld := ⟨.CRV_DIR_GO, 31, 1⟩
def CRV_TPL_CFG.EN : Fld := ⟨.CRV_TPL_CFG, 31, 1⟩
def CRV_TPL_CFG.SRC : Fld := ⟨.CRV_TPL_CFG, 30, 1⟩
def CRV_TPL_CFG.KIND : Fld := ⟨.CRV_TPL_CFG, 29, 1⟩
def CRV_TPL_CFG.SETCONF : Fld := ⟨.CRV_TPL_CFG, 28, 1⟩
def CRV_TPL_CFG.STN_GATE : Fld := ⟨.CRV_TPL_CFG, 27, 1⟩
def CRV_TPL_CFG.STN : Fld := ⟨.CRV_TPL_CFG, 22, 5⟩
def CRV_TPL_CFG.CSLICE : Fld := ⟨.CRV_TPL_CFG, 14, 8⟩
def CRV_TPL_CFG.FIRST : Fld := ⟨.CRV_TPL_CFG, 4, 10⟩
def CRV_TPL_CFG.NACT : Fld := ⟨.CRV_TPL_CFG, 0, 4⟩
def CRV_TPL_WIN.W_OPEN : Fld := ⟨.CRV_TPL_WIN, 16, 16⟩
def CRV_TPL_WIN.W_CLOSE : Fld := ⟨.CRV_TPL_WIN, 0, 16⟩
def CRV_TPL_AUX.FALL_N : Fld := ⟨.CRV_TPL_AUX, 26, 6⟩
def CRV_TPL_AUX.FSEL : Fld := ⟨.CRV_TPL_AUX, 24, 2⟩
def CRV_TPL_AUX.FOFS : Fld := ⟨.CRV_TPL_AUX, 0, 24⟩
def CRV_TPL_STAT.CONTRA_RUN : Fld := ⟨.CRV_TPL_STAT, 24, 8⟩
def CRV_TPL_STAT.EPOCHS : Fld := ⟨.CRV_TPL_STAT, 0, 16⟩
def CRV_ACT_A.GATED : Fld := ⟨.CRV_ACT_A, 31, 1⟩
def CRV_ACT_A.HAS_INV : Fld := ⟨.CRV_ACT_A, 30, 1⟩
def CRV_ACT_A.TYPE : Fld := ⟨.CRV_ACT_A, 28, 2⟩
def CRV_ACT_A.OFS : Fld := ⟨.CRV_ACT_A, 0, 18⟩
def CRV_ACT_B.MST : Fld := ⟨.CRV_ACT_B, 24, 2⟩
def CRV_ACT_B.USID : Fld := ⟨.CRV_ACT_B, 20, 4⟩
def CRV_ACT_B.XW : Fld := ⟨.CRV_ACT_B, 19, 1⟩
def CRV_ACT_B.IDX : Fld := ⟨.CRV_ACT_B, 0, 16⟩
def CRV_ACT_C.INV : Fld := ⟨.CRV_ACT_C, 16, 16⟩
def CRV_ACT_C.VAL : Fld := ⟨.CRV_ACT_C, 0, 16⟩
def PTL_CFG.ISO_MUTE : Fld := ⟨.PTL_CFG, 24, 8⟩
def PTL_CFG.TRIM_HEAD : Fld := ⟨.PTL_CFG, 16, 8⟩
def PTL_CFG.OSC_TRIM : Fld := ⟨.PTL_CFG, 8, 8⟩
def PTL_CFG.ISO_N : Fld := ⟨.PTL_CFG, 4, 4⟩
def PTL_CFG.NS_AUTOREL : Fld := ⟨.PTL_CFG, 3, 1⟩
def PTL_CFG.BDAC_PARK : Fld := ⟨.PTL_CFG, 2, 1⟩
def PTL_OSC.GROW : Fld := ⟨.PTL_OSC, 24, 8⟩
def PTL_OSC.OSC_N : Fld := ⟨.PTL_OSC, 20, 4⟩
def PTL_OSC.LINE_N : Fld := ⟨.PTL_OSC, 16, 4⟩
def PTL_OSC.LINE_TH : Fld := ⟨.PTL_OSC, 8, 8⟩
def PTL_OSC.GUARD : Fld := ⟨.PTL_OSC, 0, 8⟩
def PTL_TIME.OSC_WIN : Fld := ⟨.PTL_TIME, 24, 8⟩
def PTL_TIME.OSC_REL : Fld := ⟨.PTL_TIME, 16, 8⟩
def PTL_TIME.DLOSS_T : Fld := ⟨.PTL_TIME, 8, 8⟩
def PTL_TIME.DLOSS_REL : Fld := ⟨.PTL_TIME, 0, 8⟩
def PTL_SWEEP.SWP_INT : Fld := ⟨.PTL_SWEEP, 24, 8⟩
def PTL_SWEEP.DUTY_HYST : Fld := ⟨.PTL_SWEEP, 16, 8⟩
def PTL_CTL.STOP : Fld := ⟨.PTL_CTL, 31, 1⟩
def PTL_CTL.SREL : Fld := ⟨.PTL_CTL, 30, 1⟩
def PTL_CTL.SLICE : Fld := ⟨.PTL_CTL, 0, 8⟩
def PTL_REL.REL_STOP : Fld := ⟨.PTL_REL, 31, 1⟩
def PTL_REL.REL_DL : Fld := ⟨.PTL_REL, 30, 1⟩
def PTL_REL.REL_UL : Fld := ⟨.PTL_REL, 29, 1⟩
def PTL_STAT.STOP_PH : Fld := ⟨.PTL_STAT, 30, 2⟩
def PTL_STAT.REL_PEND : Fld := ⟨.PTL_STAT, 29, 1⟩
def PTL_STAT.STOP_CAUSE : Fld := ⟨.PTL_STAT, 18, 6⟩
def PTL_STAT.DL_CAUSE : Fld := ⟨.PTL_STAT, 8, 4⟩
def PTL_STAT.UL_CAUSE : Fld := ⟨.PTL_STAT, 0, 4⟩
def PTL_CNT.TRIM_CNT : Fld := ⟨.PTL_CNT, 24, 8⟩
def PTL_CNT.MSL_CNT : Fld := ⟨.PTL_CNT, 16, 8⟩
def PTL_CNT.MDIR_CNT : Fld := ⟨.PTL_CNT, 8, 8⟩
def PTL_CNT.STOP_CNT : Fld := ⟨.PTL_CNT, 0, 8⟩
def PTL_DUTY.DUTY : Fld := ⟨.PTL_DUTY, 0, 32⟩
def PTL_SLC.MUTE : Fld := ⟨.PTL_SLC, 31, 1⟩
def PTL_SLC.MCAUSE : Fld := ⟨.PTL_SLC, 28, 3⟩
def PTL_SLC.TRIM : Fld := ⟨.PTL_SLC, 27, 1⟩
def PTL_SLC.TCAUSE : Fld := ⟨.PTL_SLC, 24, 3⟩
def PTL_SLC.MARGIN : Fld := ⟨.PTL_SLC, 0, 16⟩
def PTL_TRIM.LIM : Fld := ⟨.PTL_TRIM, 0, 16⟩
def FLT_CFG.SHADOW : Fld := ⟨.FLT_CFG, 0, 8⟩
def FLT_RUNOUT.DEVICE : Fld := ⟨.FLT_RUNOUT, 16, 8⟩
def FLT_RUNOUT.GROUP : Fld := ⟨.FLT_RUNOUT, 8, 8⟩
def FLT_RUNOUT.SLICE : Fld := ⟨.FLT_RUNOUT, 0, 8⟩
def FLT_CLAIMEXT.DEVICE : Fld := ⟨.FLT_CLAIMEXT, 16, 8⟩
def FLT_CLAIMEXT.GROUP : Fld := ⟨.FLT_CLAIMEXT, 8, 8⟩
def FLT_CLAIMEXT.SLICE : Fld := ⟨.FLT_CLAIMEXT, 0, 8⟩
def FLT_STAT.ALIVE_RUN : Fld := ⟨.FLT_STAT, 31, 1⟩
def FLT_STAT.HB_OK : Fld := ⟨.FLT_STAT, 30, 1⟩
def FLT_STAT.FIRST_V : Fld := ⟨.FLT_STAT, 23, 1⟩
def FLT_STAT.FIRST : Fld := ⟨.FLT_STAT, 16, 7⟩
def FLT_STAT.LOST : Fld := ⟨.FLT_STAT, 8, 8⟩
def FLT_STAT.USED : Fld := ⟨.FLT_STAT, 0, 8⟩
def FLT_LIVE.SAFETY : Fld := ⟨.FLT_LIVE, 28, 4⟩
def FLT_LIVE.DEVICE : Fld := ⟨.FLT_LIVE, 24, 4⟩
def FLT_LIVE.GROUP : Fld := ⟨.FLT_LIVE, 16, 8⟩
def FLT_LIVE.SLICE : Fld := ⟨.FLT_LIVE, 8, 8⟩
def FLT_LIVE.MINOR : Fld := ⟨.FLT_LIVE, 0, 8⟩
def FLT_CNT.NOTE_CNT : Fld := ⟨.FLT_CNT, 16, 16⟩
def FLT_CNT.CONSEQ_CNT : Fld := ⟨.FLT_CNT, 8, 8⟩
def FLT_CNT.ESC_CNT : Fld := ⟨.FLT_CNT, 0, 8⟩
def FLT_CLAIM.CLAIM : Fld := ⟨.FLT_CLAIM, 31, 1⟩
def FLT_CLAIM.IDX : Fld := ⟨.FLT_CLAIM, 0, 7⟩
def FLT_ACK.ACK : Fld := ⟨.FLT_ACK, 31, 1⟩
def FLT_ACK.ALL : Fld := ⟨.FLT_ACK, 30, 1⟩
def FLT_ACK.IDX : Fld := ⟨.FLT_ACK, 0, 7⟩
def FLT_ACKA.ACK : Fld := ⟨.FLT_ACKA, 31, 1⟩
def FLT_ACKA.IDX : Fld := ⟨.FLT_ACKA, 0, 7⟩
def FLT_ERR.IDX : Fld := ⟨.FLT_ERR, 4, 1⟩
def FLT_ERR.CFG_REJ : Fld := ⟨.FLT_ERR, 3, 1⟩
def FLT_ERR.CLAIM_REJ : Fld := ⟨.FLT_ERR, 2, 1⟩
def FLT_ERR.ACK_SAFE : Fld := ⟨.FLT_ERR, 1, 1⟩
def FLT_ERR.ACK_LIVE : Fld := ⟨.FLT_ERR, 0, 1⟩
def FLT_HB.BEAT : Fld := ⟨.FLT_HB, 0, 1⟩
def FLT_IRQ_EN.LOST : Fld := ⟨.FLT_IRQ_EN, 6, 1⟩
def FLT_IRQ_EN.ESC : Fld := ⟨.FLT_IRQ_EN, 5, 1⟩
def FLT_IRQ_EN.SAFETY : Fld := ⟨.FLT_IRQ_EN, 4, 1⟩
def FLT_IRQ_EN.DEVICE : Fld := ⟨.FLT_IRQ_EN, 3, 1⟩
def FLT_IRQ_EN.GROUP : Fld := ⟨.FLT_IRQ_EN, 2, 1⟩
def FLT_IRQ_EN.SLICE : Fld := ⟨.FLT_IRQ_EN, 1, 1⟩
def FLT_IRQ_EN.MINOR : Fld := ⟨.FLT_IRQ_EN, 0, 1⟩
def FLT_IRQ_STAT.LOST : Fld := ⟨.FLT_IRQ_STAT, 6, 1⟩
def FLT_IRQ_STAT.ESC : Fld := ⟨.FLT_IRQ_STAT, 5, 1⟩
def FLT_IRQ_STAT.SAFETY : Fld := ⟨.FLT_IRQ_STAT, 4, 1⟩
def FLT_IRQ_STAT.DEVICE : Fld := ⟨.FLT_IRQ_STAT, 3, 1⟩
def FLT_IRQ_STAT.GROUP : Fld := ⟨.FLT_IRQ_STAT, 2, 1⟩
def FLT_IRQ_STAT.SLICE : Fld := ⟨.FLT_IRQ_STAT, 1, 1⟩
def FLT_IRQ_STAT.MINOR : Fld := ⟨.FLT_IRQ_STAT, 0, 1⟩
def FLT_LATCH_ID.VALID : Fld := ⟨.FLT_LATCH_ID, 31, 1⟩
def FLT_LATCH_ID.LIVE : Fld := ⟨.FLT_LATCH_ID, 30, 1⟩
def FLT_LATCH_ID.TRANSIENT : Fld := ⟨.FLT_LATCH_ID, 29, 1⟩
def FLT_LATCH_ID.CLAIMED : Fld := ⟨.FLT_LATCH_ID, 28, 1⟩
def FLT_LATCH_ID.ESC : Fld := ⟨.FLT_LATCH_ID, 27, 1⟩
def FLT_LATCH_ID.CONSEQ : Fld := ⟨.FLT_LATCH_ID, 26, 1⟩
def FLT_LATCH_ID.RUNOUT : Fld := ⟨.FLT_LATCH_ID, 25, 1⟩
def FLT_LATCH_ID.INJ : Fld := ⟨.FLT_LATCH_ID, 24, 1⟩
def FLT_LATCH_ID.CLASS : Fld := ⟨.FLT_LATCH_ID, 21, 3⟩
def FLT_LATCH_ID.CODE : Fld := ⟨.FLT_LATCH_ID, 0, 16⟩
def REC_CFG.COAL : Fld := ⟨.REC_CFG, 24, 8⟩
def REC_CFG.FLUSH_INT : Fld := ⟨.REC_CFG, 16, 8⟩
def REC_CFG.FLUSH_LVL : Fld := ⟨.REC_CFG, 8, 8⟩
def REC_CTL.FLUSH : Fld := ⟨.REC_CTL, 31, 1⟩
def REC_STAT.DROP : Fld := ⟨.REC_STAT, 16, 16⟩
def REC_STAT.V_FULL : Fld := ⟨.REC_STAT, 15, 1⟩
def REC_STAT.FLUSHING : Fld := ⟨.REC_STAT, 14, 1⟩
def REC_STAT.CLR_BUSY : Fld := ⟨.REC_STAT, 13, 1⟩
def REC_STAT.COMMIT_OK : Fld := ⟨.REC_STAT, 12, 1⟩
def REC_STAT.STG : Fld := ⟨.REC_STAT, 0, 7⟩
def REC_AREA.V_USED : Fld := ⟨.REC_AREA, 16, 13⟩
def REC_AREA.P_HEAD : Fld := ⟨.REC_AREA, 0, 13⟩
def REC_SEQ.NEXT : Fld := ⟨.REC_SEQ, 0, 32⟩
def REC_CNT.V_DROP : Fld := ⟨.REC_CNT, 24, 8⟩
def REC_CNT.TORN : Fld := ⟨.REC_CNT, 16, 8⟩
def REC_CNT.BADSLOT : Fld := ⟨.REC_CNT, 8, 8⟩
def REC_CNT.WAIT : Fld := ⟨.REC_CNT, 0, 8⟩
def REC_CLR.CLR_V : Fld := ⟨.REC_CLR, 31, 1⟩
def REC_CLR.CLR_P : Fld := ⟨.REC_CLR, 30, 1⟩
def REC_MARK_LO.MARK : Fld := ⟨.REC_MARK_LO, 0, 32⟩
def REC_MARK_HI.MARK : Fld := ⟨.REC_MARK_HI, 0, 32⟩
def REC_MARK_GO.GO : Fld := ⟨.REC_MARK_GO, 31, 1⟩
def REC_RD_SEL.AREA : Fld := ⟨.REC_RD_SEL, 30, 2⟩
def REC_RD_SEL.EMPTY : Fld := ⟨.REC_RD_SEL, 29, 1⟩
def REC_RD_SEL.SLOT : Fld := ⟨.REC_RD_SEL, 0, 13⟩
def REC_RD_WIN.DATA : Fld := ⟨.REC_RD_WIN, 0, 32⟩
def REC_SNAP_SEL.MASK : Fld := ⟨.REC_SNAP_SEL, 16, 16⟩
def REC_SNAP_SEL.CODE : Fld := ⟨.REC_SNAP_SEL, 0, 16⟩
def REC_SNAP_CTL.EN : Fld := ⟨.REC_SNAP_CTL, 31, 1⟩
def REC_SNAP_CTL.N : Fld := ⟨.REC_SNAP_CTL, 0, 4⟩
def REC_SNAP_ADDR.ADDR : Fld := ⟨.REC_SNAP_ADDR, 0, 32⟩
def BDAC_CFG.EN : Fld := ⟨.BDAC_CFG, 31, 1⟩
def BDAC_CFG.MODE : Fld := ⟨.BDAC_CFG, 30, 1⟩
def BDAC_CFG.UPD : Fld := ⟨.BDAC_CFG, 28, 2⟩
def BDAC_CFG.SPAN : Fld := ⟨.BDAC_CFG, 26, 2⟩
def BDAC_CFG.GRP : Fld := ⟨.BDAC_CFG, 24, 2⟩
def BDAC_CFG.SDIV : Fld := ⟨.BDAC_CFG, 22, 2⟩
def BDAC_CFG.SLEW : Fld := ⟨.BDAC_CFG, 12, 8⟩
def BDAC_CFG.PARK : Fld := ⟨.BDAC_CFG, 0, 12⟩
def BDAC_CODE.PCODE : Fld := ⟨.BDAC_CODE, 16, 12⟩
def BDAC_CODE.CODE : Fld := ⟨.BDAC_CODE, 0, 12⟩
def BDAC_STAT.OUT : Fld := ⟨.BDAC_STAT, 20, 12⟩
def BDAC_STAT.PCAUSE : Fld := ⟨.BDAC_STAT, 15, 5⟩
def BDAC_STAT.QUEUED : Fld := ⟨.BDAC_STAT, 14, 1⟩
def BDAC_STAT.PEND : Fld := ⟨.BDAC_STAT, 13, 1⟩
def BDAC_STAT.SLEWING : Fld := ⟨.BDAC_STAT, 12, 1⟩
def BDAC_STAT.SIN_ON : Fld := ⟨.BDAC_STAT, 11, 1⟩
def BDAC_STAT.OWNED : Fld := ⟨.BDAC_STAT, 10, 1⟩
def BDAC_STAT.MULTI : Fld := ⟨.BDAC_STAT, 9, 1⟩
def BDAC_STAT.STATE : Fld := ⟨.BDAC_STAT, 0, 3⟩
def BDAC_SPAN.GO : Fld := ⟨.BDAC_SPAN, 31, 1⟩
def BDAC_SPAN.SPAN : Fld := ⟨.BDAC_SPAN, 24, 2⟩
def BDAC_SPAN.PARK_NEW : Fld := ⟨.BDAC_SPAN, 12, 12⟩
def BDAC_SPAN.CODE_NEW : Fld := ⟨.BDAC_SPAN, 0, 12⟩
def BDAC_SINE.RUN : Fld := ⟨.BDAC_SINE, 31, 1⟩
def BDAC_SINE.FREQ : Fld := ⟨.BDAC_SINE, 0, 17⟩
def BDAC_SAMP.AMP : Fld := ⟨.BDAC_SAMP, 0, 11⟩
def BDAC_RB.RB_TOL : Fld := ⟨.BDAC_RB, 24, 8⟩
def BDAC_RB.VALID : Fld := ⟨.BDAC_RB, 23, 1⟩
def BDAC_RB.MISM : Fld := ⟨.BDAC_RB, 22, 1⟩
def BDAC_RB.MV : Fld := ⟨.BDAC_RB, 0, 16⟩
def BDAC_ERR.STATE : Fld := ⟨.BDAC_ERR, 4, 1⟩
def BDAC_ERR.SINE_SLEW : Fld := ⟨.BDAC_ERR, 3, 1⟩
def BDAC_ERR.OWNED : Fld := ⟨.BDAC_ERR, 2, 1⟩
def BDAC_ERR.SPAN : Fld := ⟨.BDAC_ERR, 1, 1⟩
def BDAC_ERR.CFG : Fld := ⟨.BDAC_ERR, 0, 1⟩
def BDAC_LOAD0.BIT : Fld := ⟨.BDAC_LOAD0, 0, 32⟩
def BDAC_LOAD1.ALL : Fld := ⟨.BDAC_LOAD1, 31, 1⟩
def BDAC_LOAD1.BIT : Fld := ⟨.BDAC_LOAD1, 0, 16⟩
def BDAC_TT_LO.TIME : Fld := ⟨.BDAC_TT_LO, 0, 32⟩
def BDAC_TT_HI.TIME : Fld := ⟨.BDAC_TT_HI, 0, 32⟩
def BDAC_TT_CTL.ARM : Fld := ⟨.BDAC_TT_CTL, 31, 1⟩
def BDAC_TT_CTL.DONE : Fld := ⟨.BDAC_TT_CTL, 30, 1⟩
def BDAC_TT_CTL.LATE : Fld := ⟨.BDAC_TT_CTL, 29, 1⟩
def HK_CFG.SUP_TOL : Fld := ⟨.HK_CFG, 24, 8⟩
def HK_STAT.SEQ : Fld := ⟨.HK_STAT, 24, 8⟩
def HK_STAT.CHK_FAIL : Fld := ⟨.HK_STAT, 23, 1⟩
def HK_ASSIGN.EN : Fld := ⟨.HK_ASSIGN, 31, 1⟩
def HK_ASSIGN.SRC : Fld := ⟨.HK_ASSIGN, 0, 6⟩
def HK_SLOT.VALID : Fld := ⟨.HK_SLOT, 31, 1⟩
def HK_SLOT.KIND : Fld := ⟨.HK_SLOT, 28, 3⟩
def HK_SLOT.CODE : Fld := ⟨.HK_SLOT, 16, 12⟩
def HK_SLOT.VALUE : Fld := ⟨.HK_SLOT, 0, 16⟩
def THM_CFG.WARN : Fld := ⟨.THM_CFG, 24, 8⟩
def THM_CFG.THROTTLE : Fld := ⟨.THM_CFG, 16, 8⟩
def THM_CFG.CRITICAL : Fld := ⟨.THM_CFG, 8, 8⟩
def THM_CFG.SHED_INT : Fld := ⟨.THM_CFG, 4, 4⟩
def THM_CFG.KEEP_PRIO : Fld := ⟨.THM_CFG, 0, 3⟩
def THM_STAT.SD : Fld := ⟨.THM_STAT, 31, 1⟩
def THM_STAT.CRIT : Fld := ⟨.THM_STAT, 30, 1⟩
def THM_STAT.THROT : Fld := ⟨.THM_STAT, 29, 1⟩
def THM_STAT.WARN : Fld := ⟨.THM_STAT, 28, 1⟩
def THM_STAT.CFG_REJ : Fld := ⟨.THM_STAT, 27, 1⟩
def THM_STAT.NVALID : Fld := ⟨.THM_STAT, 16, 5⟩
def THM_STAT.DEPTH : Fld := ⟨.THM_STAT, 8, 8⟩
def THM_TMAX.TMAX : Fld := ⟨.THM_TMAX, 0, 16⟩
def THM_XO.CORR : Fld := ⟨.THM_XO, 0, 16⟩
def THM_SENS.VALID : Fld := ⟨.THM_SENS, 31, 1⟩
def THM_SENS.BROKEN : Fld := ⟨.THM_SENS, 30, 1⟩
def THM_SENS.TEMP : Fld := ⟨.THM_SENS, 0, 16⟩
def THM_TRIM.SLOPE : Fld := ⟨.THM_TRIM, 16, 16⟩
def THM_TRIM.OFS : Fld := ⟨.THM_TRIM, 0, 16⟩
def TOW_PORT_CFG.EN : Fld := ⟨.TOW_PORT_CFG, 31, 1⟩
def TOW_PORT_CFG.IDLE_FILL : Fld := ⟨.TOW_PORT_CFG, 30, 1⟩
def TOW_PORT_CFG.QUIET : Fld := ⟨.TOW_PORT_CFG, 29, 1⟩
def TOW_PORT_CFG.OPT : Fld := ⟨.TOW_PORT_CFG, 28, 1⟩
def TOW_PORT_CFG.ASYM : Fld := ⟨.TOW_PORT_CFG, 0, 16⟩
def TOW_PORT_STAT.LINK : Fld := ⟨.TOW_PORT_STAT, 30, 2⟩
def TOW_PORT_STAT.DOWN_CNT : Fld := ⟨.TOW_PORT_STAT, 16, 8⟩
def TOW_PORT_STAT.CRC_ERR : Fld := ⟨.TOW_PORT_STAT, 0, 16⟩
def TOW_LINK_DLY.VALID : Fld := ⟨.TOW_LINK_DLY, 31, 1⟩
def TOW_LINK_DLY.DLY : Fld := ⟨.TOW_LINK_DLY, 0, 24⟩
def TOW_ID.STATE : Fld := ⟨.TOW_ID, 30, 2⟩
def TOW_ID.ADDR_V : Fld := ⟨.TOW_ID, 29, 1⟩
def TOW_ID.TAIL : Fld := ⟨.TOW_ID, 28, 1⟩
def TOW_ID.ADDR : Fld := ⟨.TOW_ID, 16, 11⟩
def TOW_ID.EPOCH : Fld := ⟨.TOW_ID, 0, 16⟩
def TOW_HB_CFG.EVT_CLASS : Fld := ⟨.TOW_HB_CFG, 16, 3⟩
def TOW_HB_CFG.PER : Fld := ⟨.TOW_HB_CFG, 0, 14⟩
def TOW_CNT.FENCED : Fld := ⟨.TOW_CNT, 24, 8⟩
def TOW_CNT.DROP : Fld := ⟨.TOW_CNT, 16, 8⟩
def TOW_CNT.EPOCH_REJ : Fld := ⟨.TOW_CNT, 8, 8⟩
def TOW_CNT.EVT_LOST : Fld := ⟨.TOW_CNT, 0, 8⟩
def TOW_TIME_CFG.STEP_TH : Fld := ⟨.TOW_TIME_CFG, 16, 16⟩
def TOW_TIME_CFG.SYNC_INT : Fld := ⟨.TOW_TIME_CFG, 8, 8⟩
def TOW_TIME_STAT.LOCKED : Fld := ⟨.TOW_TIME_STAT, 31, 1⟩
def TOW_TIME_STAT.STEP_CNT : Fld := ⟨.TOW_TIME_STAT, 16, 8⟩
def TOW_TIME_STAT.OFS : Fld := ⟨.TOW_TIME_STAT, 0, 16⟩
def TOW_TIME_LO.TIME : Fld := ⟨.TOW_TIME_LO, 0, 32⟩
def TOW_TIME_HI.TIME : Fld := ⟨.TOW_TIME_HI, 0, 32⟩
def TOW_TIME_SET_LO.TIME : Fld := ⟨.TOW_TIME_SET_LO, 0, 32⟩
def TOW_TIME_SET_HI.TIME : Fld := ⟨.TOW_TIME_SET_HI, 0, 32⟩
def TOW_TIME_SET_GO.GO : Fld := ⟨.TOW_TIME_SET_GO, 31, 1⟩
def TOW_PAIR_CFG.START_BENCH : Fld := ⟨.TOW_PAIR_CFG, 31, 1⟩
def TOW_PAIR_CFG.SIDE : Fld := ⟨.TOW_PAIR_CFG, 30, 1⟩
def TOW_PAIR_CTL.REL : Fld := ⟨.TOW_PAIR_CTL, 31, 1⟩
def TOW_PAIR_STAT.HOLD : Fld := ⟨.TOW_PAIR_STAT, 31, 1⟩
def TOW_PAIR_STAT.LINE : Fld := ⟨.TOW_PAIR_STAT, 30, 1⟩
def TOW_PAIR_STAT.WAITING : Fld := ⟨.TOW_PAIR_STAT, 29, 1⟩
def TOW_PAIR_STAT.GATE : Fld := ⟨.TOW_PAIR_STAT, 28, 1⟩
def TOW_PAIR_STAT.ACQ_CNT : Fld := ⟨.TOW_PAIR_STAT, 0, 8⟩
def TOW_HEAD_CTL.ENUM : Fld := ⟨.TOW_HEAD_CTL, 31, 1⟩
def TOW_HEAD_STAT.NEXT_FREE : Fld := ⟨.TOW_HEAD_STAT, 16, 11⟩
def TOW_HEAD_STAT.EPOCH_CTR : Fld := ⟨.TOW_HEAD_STAT, 0, 16⟩
def TOW_HEAD_PROM.GO : Fld := ⟨.TOW_HEAD_PROM, 31, 1⟩
def TOW_HEAD_PROM.SPARE : Fld := ⟨.TOW_HEAD_PROM, 16, 11⟩
def TOW_HEAD_PROM.TARGET : Fld := ⟨.TOW_HEAD_PROM, 0, 11⟩
def TOW_HEAD_MBX.SEND : Fld := ⟨.TOW_HEAD_MBX, 31, 1⟩
def TOW_HEAD_MBX.POP : Fld := ⟨.TOW_HEAD_MBX, 30, 1⟩
def TOW_HEAD_MBX.RX_LVL : Fld := ⟨.TOW_HEAD_MBX, 16, 8⟩
def TOW_HEAD_MBX.RX_LOST : Fld := ⟨.TOW_HEAD_MBX, 8, 8⟩
def TOW_HEAD_MBX.TX_BUSY : Fld := ⟨.TOW_HEAD_MBX, 0, 1⟩
def TOW_HEAD_DEAD.DEAD : Fld := ⟨.TOW_HEAD_DEAD, 0, 32⟩
def TOW_HEAD_SPARE.EN : Fld := ⟨.TOW_HEAD_SPARE, 31, 1⟩
def TOW_HEAD_SPARE.AUTO : Fld := ⟨.TOW_HEAD_SPARE, 30, 1⟩
def TOW_HEAD_SPARE.SPARE : Fld := ⟨.TOW_HEAD_SPARE, 16, 11⟩
def TOW_HEAD_SPARE.ACTIVE : Fld := ⟨.TOW_HEAD_SPARE, 0, 11⟩
def TOW_HEAD_TX.DATA : Fld := ⟨.TOW_HEAD_TX, 0, 32⟩
def TOW_HEAD_RX.DATA : Fld := ⟨.TOW_HEAD_RX, 0, 32⟩
def FIX_STAT.VALID : Fld := ⟨.FIX_STAT, 31, 1⟩
def FIX_STAT.VERSION : Fld := ⟨.FIX_STAT, 0, 16⟩
def FIX_PMAX.PMAX : Fld := ⟨.FIX_PMAX, 0, 16⟩
def FIX_GMAX.UL : Fld := ⟨.FIX_GMAX, 16, 16⟩
def FIX_GMAX.DL : Fld := ⟨.FIX_GMAX, 0, 16⟩
def FIX_MARGIN.MIN_MARGIN : Fld := ⟨.FIX_MARGIN, 0, 16⟩
def FIX_UL.NOISE_MAX : Fld := ⟨.FIX_UL, 16, 16⟩
def FIX_UL.DUTY : Fld := ⟨.FIX_UL, 0, 16⟩
def FIX_EMIS.OOR_MAX : Fld := ⟨.FIX_EMIS, 0, 16⟩
def FIX_NRANGE.UL : Fld := ⟨.FIX_NRANGE, 8, 6⟩
def FIX_NRANGE.DL : Fld := ⟨.FIX_NRANGE, 0, 6⟩
def FIX_RANGE_LO.FREQ : Fld := ⟨.FIX_RANGE_LO, 0, 23⟩
def FIX_RANGE_HI.FREQ : Fld := ⟨.FIX_RANGE_HI, 0, 23⟩
def CAL_CTL.REQ_D : Fld := ⟨.CAL_CTL, 31, 1⟩
def CAL_CTL.REQ_S : Fld := ⟨.CAL_CTL, 30, 1⟩
def CAL_CTL.BG_TX_EN : Fld := ⟨.CAL_CTL, 8, 8⟩
def CAL_CTL.BG_RX_EN : Fld := ⟨.CAL_CTL, 0, 8⟩
def CAL_STAT.BG_CNT : Fld := ⟨.CAL_STAT, 16, 16⟩
def CAL_STAT.BG_ACT : Fld := ⟨.CAL_STAT, 13, 1⟩
def CAL_STAT.BG_KIND : Fld := ⟨.CAL_STAT, 12, 1⟩
def CAL_STAT.BG_IDX : Fld := ⟨.CAL_STAT, 8, 3⟩
def CAL_STAT.REQ_REJ : Fld := ⟨.CAL_STAT, 3, 1⟩
def CAL_STAT.PEND_S : Fld := ⟨.CAL_STAT, 1, 1⟩
def CAL_STAT.PEND_D : Fld := ⟨.CAL_STAT, 0, 1⟩
def CAL_RET_CTL.DISCARD : Fld := ⟨.CAL_RET_CTL, 31, 1⟩
def CAL_RET_CTL.COMMIT : Fld := ⟨.CAL_RET_CTL, 30, 1⟩
def CAL_RET_CTL.COMMIT_INT : Fld := ⟨.CAL_RET_CTL, 0, 8⟩
def CAL_RET_STAT.CFG_VA : Fld := ⟨.CAL_RET_STAT, 15, 1⟩
def CAL_RET_STAT.CFG_VB : Fld := ⟨.CAL_RET_STAT, 14, 1⟩
def CAL_RET_STAT.LDG_VA : Fld := ⟨.CAL_RET_STAT, 13, 1⟩
def CAL_RET_STAT.LDG_VB : Fld := ⟨.CAL_RET_STAT, 12, 1⟩
def CAL_RET_STAT.CFG_SEL : Fld := ⟨.CAL_RET_STAT, 11, 1⟩
def CAL_RET_STAT.LDG_SEL : Fld := ⟨.CAL_RET_STAT, 10, 1⟩
def CAL_RET_STAT.COMMITTING : Fld := ⟨.CAL_RET_STAT, 9, 1⟩
def CAL_RET_STAT.DISC_PEND : Fld := ⟨.CAL_RET_STAT, 8, 1⟩
def CAL_RET_STAT.FAIL_CNT : Fld := ⟨.CAL_RET_STAT, 0, 8⟩
def CAL_RET_SEQ.SEQ : Fld := ⟨.CAL_RET_SEQ, 0, 32⟩
def POOL_STAT.FREE : Fld := ⟨.POOL_STAT, 16, 13⟩
def POOL_STAT.FAIL_CNT : Fld := ⟨.POOL_STAT, 8, 8⟩
def POOL_CAP_CFG.ARM : Fld := ⟨.POOL_CAP_CFG, 31, 1⟩
def POOL_CAP_CFG.REL : Fld := ⟨.POOL_CAP_CFG, 30, 1⟩
def POOL_CAP_CFG.POINT : Fld := ⟨.POOL_CAP_CFG, 28, 2⟩
def POOL_CAP_CFG.TRIG : Fld := ⟨.POOL_CAP_CFG, 26, 2⟩
def POOL_CAP_CFG.SLICE : Fld := ⟨.POOL_CAP_CFG, 16, 8⟩
def POOL_CAP_CFG.BLOCKS : Fld := ⟨.POOL_CAP_CFG, 0, 12⟩
def POOL_CAP_STAT.DONE : Fld := ⟨.POOL_CAP_STAT, 31, 1⟩
def POOL_CAP_STAT.ARMED : Fld := ⟨.POOL_CAP_STAT, 30, 1⟩
def POOL_CAP_STAT.REJ : Fld := ⟨.POOL_CAP_STAT, 29, 1⟩
def POOL_CAP_STAT.FILLED : Fld := ⟨.POOL_CAP_STAT, 0, 12⟩
def POOL_CAP_RD.BLK : Fld := ⟨.POOL_CAP_RD, 0, 12⟩
def POOL_CAP_WIN.I : Fld := ⟨.POOL_CAP_WIN, 16, 16⟩
def POOL_CAP_WIN.Q : Fld := ⟨.POOL_CAP_WIN, 0, 16⟩
def SUP_BOOT.REJ_CNT : Fld := ⟨.SUP_BOOT, 24, 8⟩
def SUP_BOOT.SKIP_CNT : Fld := ⟨.SUP_BOOT, 16, 8⟩
def SUP_BOOT.IMAGE : Fld := ⟨.SUP_BOOT, 10, 2⟩
def SUP_BOOT.CFG_SRC : Fld := ⟨.SUP_BOOT, 8, 2⟩
def SUP_BOOT.WARM : Fld := ⟨.SUP_BOOT, 7, 1⟩
def SUP_BOOT.QUAD : Fld := ⟨.SUP_BOOT, 6, 1⟩
def SUP_BOOT.ADDR4 : Fld := ⟨.SUP_BOOT, 5, 1⟩
def SUP_BOOT.PHASE : Fld := ⟨.SUP_BOOT, 0, 3⟩
def SUP_STRAP.TEST : Fld := ⟨.SUP_STRAP, 4, 1⟩
def SUP_STRAP.PAIR_EN : Fld := ⟨.SUP_STRAP, 3, 1⟩
def SUP_STRAP.OPT_DN : Fld := ⟨.SUP_STRAP, 2, 1⟩
def SUP_STRAP.OPT_UP : Fld := ⟨.SUP_STRAP, 1, 1⟩
def SUP_STRAP.HEAD : Fld := ⟨.SUP_STRAP, 0, 1⟩
def SUP_PRM_ID.VALUE : Fld := ⟨.SUP_PRM_ID, 0, 32⟩
def SUP_PRM_SEQ.VALUE : Fld := ⟨.SUP_PRM_SEQ, 0, 32⟩
def SUP_CTL.WARM : Fld := ⟨.SUP_CTL, 31, 1⟩
def SUP_HO_CTL.GO : Fld := ⟨.SUP_HO_CTL, 31, 1⟩
def SUP_HO_STAT.HO_CNT : Fld := ⟨.SUP_HO_STAT, 24, 8⟩
def SUP_HO_STAT.HO_REJ : Fld := ⟨.SUP_HO_STAT, 23, 1⟩
def SUP_HO_STAT.HO_PEND : Fld := ⟨.SUP_HO_STAT, 22, 1⟩
def SUP_HO_STAT.STATE_B : Fld := ⟨.SUP_HO_STAT, 4, 3⟩
def SUP_HO_STAT.STATE_A : Fld := ⟨.SUP_HO_STAT, 0, 3⟩
def SUP_WR_EN.DIS_CNT : Fld := ⟨.SUP_WR_EN, 24, 8⟩
def SUP_WR_EN.DEBUG : Fld := ⟨.SUP_WR_EN, 2, 1⟩
def SUP_WR_EN.SPI : Fld := ⟨.SUP_WR_EN, 1, 1⟩
def SUP_WR_EN.TOW : Fld := ⟨.SUP_WR_EN, 0, 1⟩
def SUP_AUTH_NONCE_LO.NONCE : Fld := ⟨.SUP_AUTH_NONCE_LO, 0, 32⟩
def SUP_AUTH_NONCE_HI.NONCE : Fld := ⟨.SUP_AUTH_NONCE_HI, 0, 32⟩
def SUP_AUTH_CTL.OPEN : Fld := ⟨.SUP_AUTH_CTL, 31, 1⟩
def SUP_AUTH_CTL.SUBMIT : Fld := ⟨.SUP_AUTH_CTL, 30, 1⟩
def SUP_AUTH_CTL.ABORT : Fld := ⟨.SUP_AUTH_CTL, 29, 1⟩
def SUP_AUTH_CTL.BLK : Fld := ⟨.SUP_AUTH_CTL, 8, 8⟩
def SUP_AUTH_CTL.LEN : Fld := ⟨.SUP_AUTH_CTL, 0, 8⟩
def SUP_AUTH_STAT.BUSY : Fld := ⟨.SUP_AUTH_STAT, 31, 1⟩
def SUP_AUTH_STAT.BUF : Fld := ⟨.SUP_AUTH_STAT, 30, 1⟩
def SUP_AUTH_STAT.LOCK : Fld := ⟨.SUP_AUTH_STAT, 29, 1⟩
def SUP_AUTH_STAT.FAIL_CNT : Fld := ⟨.SUP_AUTH_STAT, 16, 8⟩
def SUP_AUTH_STAT.REJ_CNT : Fld := ⟨.SUP_AUTH_STAT, 8, 8⟩
def SUP_AUTH_STAT.RESULT : Fld := ⟨.SUP_AUTH_STAT, 0, 4⟩
def SUP_AUTH_WIN.DATA : Fld := ⟨.SUP_AUTH_WIN, 0, 32⟩
def TST_FINJ.GO : Fld := ⟨.TST_FINJ, 31, 1⟩
def TST_FINJ.MODE : Fld := ⟨.TST_FINJ, 24, 2⟩
def TST_FINJ.INST : Fld := ⟨.TST_FINJ, 16, 8⟩
def TST_FINJ.CODE : Fld := ⟨.TST_FINJ, 0, 16⟩

/-- The access codes of R16 that let a write do something; a bit under no listed field is RO or reserved. -/
inductive Acc where
  | rw | w1c | wo | rwo | rwl | rwa
deriving DecidableEq, Repr

/-- The writable fields of each register with their access codes. -/
def RegName.fields : RegName → List (Fld × Acc)
  | .GLB_ID => []
  | .GLB_UID_LO => []
  | .GLB_UID_HI => []
  | .GLB_LOCK => [(GLB_LOCK.LOCK, .rwl)]
  | .LDG_WAKE_CFG => [(LDG_WAKE_CFG.PIN_EN, .rw), (LDG_WAKE_CFG.RF_EN, .rw), (LDG_WAKE_CFG.TOW_EN, .rw), (LDG_WAKE_CFG.RF_DWELL, .rw)]
  | .LDG_WAKE_STAT => []
  | .LDG_RFDET_CFG => [(LDG_RFDET_CFG.EN, .rw), (LDG_RFDET_CFG.TH, .rw)]
  | .LDG_RFDET_STAT => [(LDG_RFDET_STAT.SEEN, .w1c)]
  | .LDG_WAKE_TMR => [(LDG_WAKE_TMR.SEC, .rw)]
  | .LDG_PF => []
  | .LDG_OPT_LO => []
  | .LDG_OPT_HI => []
  | .LDG_PWRCYC => []
  | .PWR_DOM => []
  | .PWR_CTL => [(PWR_CTL.SLEEP, .wo)]
  | .PWR_STAT => [(PWR_STAT.SLEEP_REJ, .w1c)]
  | .PWR_DOZE_CFG => [(PWR_DOZE_CFG.EN, .rw), (PWR_DOZE_CFG.MIN_IDLE, .rw)]
  | .PWR_DOZE_STAT => []
  | .PWR_DOZE_MAP => []
  | .SYN_FT_CFG => [(SYN_FT_CFG.REVERT, .rw), (SYN_FT_CFG.STEP_TH, .rw), (SYN_FT_CFG.TD_SEL, .rw), (SYN_FT_CFG.PRI3, .rw), (SYN_FT_CFG.PRI2, .rw), (SYN_FT_CFG.PRI1, .rw), (SYN_FT_CFG.PRI0, .rw)]
  | .SYN_FT_STAT => [(SYN_FT_STAT.CFG_REJ, .w1c)]
  | .SYN_FT_NOW => []
  | .SYN_FT_OFS => [(SYN_FT_OFS.OFS, .rw)]
  | .SYN_TD_CFG => [(SYN_TD_CFG.EN, .rw), (SYN_TD_CFG.RAT, .rw), (SYN_TD_CFG.NID2, .rw), (SYN_TD_CFG.SLICE, .rw), (SYN_TD_CFG.FOFS, .rw)]
  | .SYN_TD_STAT => [(SYN_TD_STAT.CFG_REJ, .w1c)]
  | .SYN_GRP_CTL => [(SYN_GRP_CTL.REARM, .wo), (SYN_GRP_CTL.TX_MASK, .rw), (SYN_GRP_CTL.RX_MASK, .rw), (SYN_GRP_CTL.TARGET, .rw)]
  | .SYN_GRP_STAT => [(SYN_GRP_STAT.CFG_REJ, .w1c)]
  | .SYN_LO_FREQ => [(SYN_LO_FREQ.FREQ, .rw)]
  | .SYN_LO_STAT => [(SYN_LO_STAT.FREQ_REJ, .w1c)]
  | .SYN_RFFE_CFG => [(SYN_RFFE_CFG.EN, .rw), (SYN_RFFE_CFG.DIV, .rw), (SYN_RFFE_CFG.GRP, .rw)]
  | .SYN_RFFE_CMD => [(SYN_RFFE_CMD.TYPE, .wo), (SYN_RFFE_CMD.BC, .wo), (SYN_RFFE_CMD.USID, .wo), (SYN_RFFE_CMD.ADDR, .wo)]
  | .SYN_RFFE_DATA => [(SYN_RFFE_DATA.BYTES, .rw)]
  | .SYN_RFFE_STAT => [(SYN_RFFE_STAT.PERR, .w1c), (SYN_RFFE_STAT.CMD_REJ, .w1c), (SYN_RFFE_STAT.OVF, .w1c)]
  | .SYN_RFFE_RD => []
  | .SYN_TGPIO_CFG => [(SYN_TGPIO_CFG.EN, .rw), (SYN_TGPIO_CFG.MODE, .rw), (SYN_TGPIO_CFG.SAFE, .rw), (SYN_TGPIO_CFG.GRP, .rw), (SYN_TGPIO_CFG.FSEL, .rw), (SYN_TGPIO_CFG.INV, .rw), (SYN_TGPIO_CFG.DLY, .rw)]
  | .SYN_TGPIO_OUT => [(SYN_TGPIO_OUT.LEVEL, .rw)]
  | .SYN_TGPIO_IN => []
  | .RXC_CFG => [(RXC_CFG.DC_TRK, .rw), (RXC_CFG.IQ_TRK, .rw), (RXC_CFG.CLIP_TH, .rw), (RXC_CFG.VGA, .rw)]
  | .RXC_STAT => [(RXC_STAT.CFG_REJ, .w1c)]
  | .RXC_PWR => []
  | .TXC_CFG => [(TXC_CFG.TRK_EN, .rw), (TXC_CFG.ATT, .rwo)]
  | .TXC_STAT => [(TXC_STAT.ATT_REJ, .w1c)]
  | .TXC_ORX_STAT => []
  | .SLC_CFG0 => [(SLC_CFG0.DIR, .rw), (SLC_CFG0.SRC, .rw), (SLC_CFG0.SINK, .rw), (SLC_CFG0.CLASS, .rw), (SLC_CFG0.WIDTH, .rw), (SLC_CFG0.MSET, .rw), (SLC_CFG0.BRANCH, .rw), (SLC_CFG0.PRIO, .rw)]
  | .SLC_CFG1 => [(SLC_CFG1.FLEN, .rw)]
  | .SLC_NCO_RX => [(SLC_NCO_RX.OFS, .rw)]
  | .SLC_NCO_TX => [(SLC_NCO_TX.OFS, .rw)]
  | .SLC_GAIN => [(SLC_GAIN.GAIN, .rwo)]
  | .SLC_SYSG => []
  | .SLC_DET => [(SLC_DET.PRES_TH, .rw), (SLC_DET.HANG, .rw)]
  | .SLC_CTL => [(SLC_CTL.EN, .rw), (SLC_CTL.FMUTE, .rw)]
  | .SLC_STAT => []
  | .SLC_ERR => [(SLC_ERR.GAIN_REJ, .w1c), (SLC_ERR.BANK_LIVE, .w1c), (SLC_ERR.STATE, .w1c), (SLC_ERR.SET, .w1c), (SLC_ERR.POOL, .w1c), (SLC_ERR.SU, .w1c), (SLC_ERR.RANGE, .w1c), (SLC_ERR.DIR, .w1c)]
  | .SLC_RMS => []
  | .SLC_PEAK => []
  | .SLC_LATINFO => []
  | .SLC_DLY => []
  | .SLC_SETTLE => []
  | .SLC_GLZ_CTL => [(SLC_GLZ_CTL.SWAP, .wo), (SLC_GLZ_CTL.SET, .wo), (SLC_GLZ_CTL.LEN, .rw)]
  | .SLC_GLZ_STAT => []
  | .SLC_COEF_A => [(SLC_COEF_A.C_ODD, .rw), (SLC_COEF_A.C_EVEN, .rw)]
  | .SLC_COEF_B => [(SLC_COEF_B.C_ODD, .rw), (SLC_COEF_B.C_EVEN, .rw)]
  | .SLC_ARRAY_STAT => []
  | .SLC_LAT => [(SLC_LAT.REJ_RANGE, .w1c), (SLC_LAT.REJ_POOL, .w1c), (SLC_LAT.LAT, .rw)]
  | .SLC_SPARE_CTL => [(SLC_SPARE_CTL.GO, .wo), (SLC_SPARE_CTL.RET, .wo), (SLC_SPARE_CTL.SLICE, .rw)]
  | .SLC_SPARE_STAT => [(SLC_SPARE_STAT.REJ, .w1c)]
  | .CNL_CFG => [(CNL_CFG.REFMASK, .rw), (CNL_CFG.TAPS, .rw), (CNL_CFG.MU_EXP, .rw), (CNL_CFG.LEAK_EXP, .rw)]
  | .CNL_BULK => [(CNL_BULK.BULK3, .rw), (CNL_BULK.BULK2, .rw), (CNL_BULK.BULK1, .rw), (CNL_BULK.BULK0, .rw)]
  | .CNL_CTL => [(CNL_CTL.CLR, .wo), (CNL_CTL.FREEZE, .rw), (CNL_CTL.SUB, .rw), (CNL_CTL.HOLD_T, .rw), (CNL_CTL.MARGIN, .rw), (CNL_CTL.ISO_ASSUME, .rw)]
  | .CNL_ISO => []
  | .CNL_DEPTH => []
  | .CNL_EFF => []
  | .CNL_PWR => []
  | .CNL_STAT => []
  | .CNL_ERR => [(CNL_ERR.MARGIN, .w1c), (CNL_ERR.POOL, .w1c), (CNL_ERR.CFG, .w1c)]
  | .CNL_PRB_CFG => [(CNL_PRB_CFG.AUTO, .rw), (CNL_PRB_CFG.MODE, .rw), (CNL_PRB_CFG.FMUL, .rw), (CNL_PRB_CFG.DUR, .rw), (CNL_PRB_CFG.BDAC, .rw), (CNL_PRB_CFG.SLICE, .rw), (CNL_PRB_CFG.DEPTH, .rw)]
  | .CNL_PRB_CTL => [(CNL_PRB_CTL.START, .wo), (CNL_PRB_CTL.ABORT, .wo), (CNL_PRB_CTL.DISC_TH, .rw), (CNL_PRB_CTL.INTERVAL, .rw)]
  | .CNL_PRB_STAT => [(CNL_PRB_STAT.REJ, .w1c), (CNL_PRB_STAT.INVALID, .w1c)]
  | .CNL_PRB_RES0 => []
  | .CNL_PRB_RES1 => []
  | .CNL_COEF_SEL => [(CNL_COEF_SEL.REF, .rw), (CNL_COEF_SEL.SLICE, .rw)]
  | .CNL_COEF_WIN => []
  | .LOOP_CTL => [(LOOP_CTL.MODE, .rw)]
  | .LOOP_CFG => [(LOOP_CFG.NEG, .rwo), (LOOP_CFG.STN, .rwo), (LOOP_CFG.LUT_SEL, .rwo), (LOOP_CFG.KSH, .rwo), (LOOP_CFG.ESTEP, .rwo)]
  | .LOOP_SRC => [(LOOP_SRC.MSRC, .rwo), (LOOP_SRC.MIDX, .rwo), (LOOP_SRC.PER, .rwo), (LOOP_SRC.BDAC, .rwo)]
  | .LOOP_SP => [(LOOP_SP.SP, .rw)]
  | .LOOP_LIM => [(LOOP_LIM.UCEIL, .rw), (LOOP_LIM.FLOOR, .rw)]
  | .LOOP_MAN => [(LOOP_MAN.VAL, .rwo)]
  | .LOOP_SUP => [(LOOP_SUP.FE_N, .rw), (LOOP_SUP.FE_TH, .rw), (LOOP_SUP.HOLD_TO, .rw)]
  | .LOOP_OUT => []
  | .LOOP_LIMS => []
  | .LOOP_ERR => []
  | .LOOP_ISTAT => [(LOOP_ISTAT.CFG_REJ, .w1c)]
  | .LOOP_GLD_VMAX => [(LOOP_GLD_VMAX.VMAX, .rw)]
  | .LOOP_GLD_AMAX => [(LOOP_GLD_AMAX.AMAX, .rw)]
  | .LOOP_GLD_JMAX => [(LOOP_GLD_JMAX.JMAX, .rw)]
  | .LOOP_GLD_POS => []
  | .LOOP_GLD_VEL => []
  | .LOOP_GLD_STAT => []
  | .LOOP_STAT => [(LOOP_STAT.LUT_REJ, .w1c)]
  | .LOOP_GCTL => [(LOOP_GCTL.REARM_OVR, .wo)]
  | .LOOP_LUT => [(LOOP_LUT.C, .rwo)]
  | .STN_CFG => [(STN_CFG.EN, .rw), (STN_CFG.SLICE, .rw), (STN_CFG.NP, .rw)]
  | .STN_CTL => [(STN_CTL.RESTART, .wo), (STN_CTL.FGT, .rw), (STN_CTL.ACT_REL, .rw)]
  | .STN_STAT => []
  | .STN_ERR => [(STN_ERR.STATE, .w1c), (STN_ERR.ATTACH, .w1c), (STN_ERR.POOL, .w1c), (STN_ERR.CFG, .w1c)]
  | .STN_ANCHOR => []
  | .STN_EDGE => []
  | .STN_BIN => []
  | .CRV_CTL => [(CRV_CTL.EN, .rw), (CRV_CTL.FLUSH, .wo), (CRV_CTL.HORIZON, .rw)]
  | .CRV_STAT => []
  | .CRV_CNT0 => []
  | .CRV_CNT1 => []
  | .CRV_ERR => [(CRV_ERR.DIR_REJ, .w1c), (CRV_ERR.TPL_LIVE, .w1c), (CRV_ERR.NO_INV, .w1c), (CRV_ERR.GATE, .w1c), (CRV_ERR.RANGE, .w1c), (CRV_ERR.CFG, .w1c)]
  | .CRV_DIR_TIME => [(CRV_DIR_TIME.FRAME, .rw), (CRV_DIR_TIME.CYCLE, .rw)]
  | .CRV_DIR_A => [(CRV_DIR_A.GATED, .rw), (CRV_DIR_A.HAS_INV, .rw), (CRV_DIR_A.TYPE, .rw), (CRV_DIR_A.OFS, .rw)]
  | .CRV_DIR_B => [(CRV_DIR_B.MST, .rw), (CRV_DIR_B.USID, .rw), (CRV_DIR_B.XW, .rw), (CRV_DIR_B.IDX, .rw)]
  | .CRV_DIR_C => [(CRV_DIR_C.INV, .rw), (CRV_DIR_C.VAL, .rw)]
  | .CRV_DIR_GO => [(CRV_DIR_GO.GO, .wo)]
  | .CRV_TPL_CFG => [(CRV_TPL_CFG.EN, .rw), (CRV_TPL_CFG.SRC, .rw), (CRV_TPL_CFG.KIND, .rw), (CRV_TPL_CFG.SETCONF, .rw), (CRV_TPL_CFG.STN_GATE, .rw), (CRV_TPL_CFG.STN, .rw), (CRV_TPL_CFG.CSLICE, .rw), (CRV_TPL_CFG.FIRST, .rw), (CRV_TPL_CFG.NACT, .rw)]
  | .CRV_TPL_WIN => [(CRV_TPL_WIN.W_OPEN, .rw), (CRV_TPL_WIN.W_CLOSE, .rw)]
  | .CRV_TPL_AUX => [(CRV_TPL_AUX.FALL_N, .rw), (CRV_TPL_AUX.FSEL, .rw), (CRV_TPL_AUX.FOFS, .rw)]
  | .CRV_TPL_STAT => []
  | .CRV_ACT_A => [(CRV_ACT_A.GATED, .rw), (CRV_ACT_A.HAS_INV, .rw), (CRV_ACT_A.TYPE, .rw), (CRV_ACT_A.OFS, .rw)]
  | .CRV_ACT_B => [(CRV_ACT_B.MST, .rw), (CRV_ACT_B.USID, .rw), (CRV_ACT_B.XW, .rw), (CRV_ACT_B.IDX, .rw)]
  | .CRV_ACT_C => [(CRV_ACT_C.INV, .rw), (CRV_ACT_C.VAL, .rw)]
  | .PTL_CFG => [(PTL_CFG.ISO_MUTE, .rw), (PTL_CFG.TRIM_HEAD, .rw), (PTL_CFG.OSC_TRIM, .rw), (PTL_CFG.ISO_N, .rw), (PTL_CFG.NS_AUTOREL, .rwl), (PTL_CFG.BDAC_PARK, .rwl)]
  | .PTL_OSC => [(PTL_OSC.GROW, .rw), (PTL_OSC.OSC_N, .rw), (PTL_OSC.LINE_N, .rw), (PTL_OSC.LINE_TH, .rw), (PTL_OSC.GUARD, .rw)]
  | .PTL_TIME => [(PTL_TIME.OSC_WIN, .rw), (PTL_TIME.OSC_REL, .rw), (PTL_TIME.DLOSS_T, .rw), (PTL_TIME.DLOSS_REL, .rw)]
  | .PTL_SWEEP => [(PTL_SWEEP.SWP_INT, .rw), (PTL_SWEEP.DUTY_HYST, .rw)]
  | .PTL_CTL => [(PTL_CTL.STOP, .wo), (PTL_CTL.SREL, .wo), (PTL_CTL.SLICE, .rw)]
  | .PTL_REL => [(PTL_REL.REL_STOP, .rwa), (PTL_REL.REL_DL, .rwa), (PTL_REL.REL_UL, .rwa)]
  | .PTL_STAT => []
  | .PTL_CNT => []
  | .PTL_DUTY => []
  | .PTL_SLC => []
  | .PTL_TRIM => []
  | .FLT_CFG => [(FLT_CFG.SHADOW, .rw)]
  | .FLT_RUNOUT => [(FLT_RUNOUT.DEVICE, .rw), (FLT_RUNOUT.GROUP, .rw), (FLT_RUNOUT.SLICE, .rw)]
  | .FLT_CLAIMEXT => [(FLT_CLAIMEXT.DEVICE, .rw), (FLT_CLAIMEXT.GROUP, .rw), (FLT_CLAIMEXT.SLICE, .rw)]
  | .FLT_STAT => []
  | .FLT_LIVE => []
  | .FLT_CNT => []
  | .FLT_CLAIM => [(FLT_CLAIM.CLAIM, .wo), (FLT_CLAIM.IDX, .rw)]
  | .FLT_ACK => [(FLT_ACK.ACK, .wo), (FLT_ACK.ALL, .wo), (FLT_ACK.IDX, .rw)]
  | .FLT_ACKA => [(FLT_ACKA.ACK, .rwa), (FLT_ACKA.IDX, .rwa)]
  | .FLT_ERR => [(FLT_ERR.IDX, .w1c), (FLT_ERR.CFG_REJ, .w1c), (FLT_ERR.CLAIM_REJ, .w1c), (FLT_ERR.ACK_SAFE, .w1c), (FLT_ERR.ACK_LIVE, .w1c)]
  | .FLT_HB => [(FLT_HB.BEAT, .wo)]
  | .FLT_IRQ_EN => [(FLT_IRQ_EN.LOST, .rw), (FLT_IRQ_EN.ESC, .rw), (FLT_IRQ_EN.SAFETY, .rw), (FLT_IRQ_EN.DEVICE, .rw), (FLT_IRQ_EN.GROUP, .rw), (FLT_IRQ_EN.SLICE, .rw), (FLT_IRQ_EN.MINOR, .rw)]
  | .FLT_IRQ_STAT => [(FLT_IRQ_STAT.LOST, .w1c), (FLT_IRQ_STAT.ESC, .w1c), (FLT_IRQ_STAT.SAFETY, .w1c), (FLT_IRQ_STAT.DEVICE, .w1c), (FLT_IRQ_STAT.GROUP, .w1c), (FLT_IRQ_STAT.SLICE, .w1c), (FLT_IRQ_STAT.MINOR, .w1c)]
  | .FLT_LATCH_ID => []
  | .FLT_LATCH_INST => []
  | .FLT_LATCH_F_LO => []
  | .FLT_LATCH_F_HI => []
  | .FLT_LATCH_L_LO => []
  | .FLT_LATCH_L_HI => []
  | .FLT_LATCH_SEQ => []
  | .FLT_LATCH_ESQ => []
  | .REC_CFG => [(REC_CFG.COAL, .rw), (REC_CFG.FLUSH_INT, .rw), (REC_CFG.FLUSH_LVL, .rw)]
  | .REC_CTL => [(REC_CTL.FLUSH, .wo)]
  | .REC_STAT => []
  | .REC_AREA => []
  | .REC_SEQ => []
  | .REC_CNT => []
  | .REC_CLR => [(REC_CLR.CLR_V, .rwa), (REC_CLR.CLR_P, .rwa)]
  | .REC_MARK_LO => [(REC_MARK_LO.MARK, .rw)]
  | .REC_MARK_HI => [(REC_MARK_HI.MARK, .rw)]
  | .REC_MARK_GO => [(REC_MARK_GO.GO, .wo)]
  | .REC_RD_SEL => [(REC_RD_SEL.AREA, .rw), (REC_RD_SEL.SLOT, .rw)]
  | .REC_RD_WIN => []
  | .REC_SNAP_SEL => [(REC_SNAP_SEL.MASK, .rw), (REC_SNAP_SEL.CODE, .rw)]
  | .REC_SNAP_CTL => [(REC_SNAP_CTL.EN, .rw), (REC_SNAP_CTL.N, .rw)]
  | .REC_SNAP_ADDR => [(REC_SNAP_ADDR.ADDR, .rw)]
  | .BDAC_CFG => [(BDAC_CFG.EN, .rw), (BDAC_CFG.MODE, .rw), (BDAC_CFG.UPD, .rw), (BDAC_CFG.GRP, .rw), (BDAC_CFG.SDIV, .rw), (BDAC_CFG.SLEW, .rw), (BDAC_CFG.PARK, .rw)]
  | .BDAC_CODE => [(BDAC_CODE.CODE, .rw)]
  | .BDAC_STAT => []
  | .BDAC_SPAN => [(BDAC_SPAN.GO, .wo), (BDAC_SPAN.SPAN, .rw), (BDAC_SPAN.PARK_NEW, .rw), (BDAC_SPAN.CODE_NEW, .rw)]
  | .BDAC_SINE => [(BDAC_SINE.RUN, .rw), (BDAC_SINE.FREQ, .rw)]
  | .BDAC_SAMP => [(BDAC_SAMP.AMP, .rw)]
  | .BDAC_RB => [(BDAC_RB.RB_TOL, .rw)]
  | .BDAC_ERR => [(BDAC_ERR.STATE, .w1c), (BDAC_ERR.SINE_SLEW, .w1c), (BDAC_ERR.OWNED, .w1c), (BDAC_ERR.SPAN, .w1c), (BDAC_ERR.CFG, .w1c)]
  | .BDAC_LOAD0 => [(BDAC_LOAD0.BIT, .wo)]
  | .BDAC_LOAD1 => [(BDAC_LOAD1.ALL, .wo), (BDAC_LOAD1.BIT, .wo)]
  | .BDAC_TT_LO => [(BDAC_TT_LO.TIME, .rw)]
  | .BDAC_TT_HI => [(BDAC_TT_HI.TIME, .rw)]
  | .BDAC_TT_CTL => [(BDAC_TT_CTL.ARM, .rw), (BDAC_TT_CTL.LATE, .w1c)]
  | .HK_CFG => [(HK_CFG.SUP_TOL, .rw)]
  | .HK_STAT => []
  | .HK_ASSIGN => [(HK_ASSIGN.EN, .rw), (HK_ASSIGN.SRC, .rw)]
  | .HK_SLOT => []
  | .THM_CFG => [(THM_CFG.WARN, .rw), (THM_CFG.THROTTLE, .rw), (THM_CFG.CRITICAL, .rw), (THM_CFG.SHED_INT, .rw), (THM_CFG.KEEP_PRIO, .rw)]
  | .THM_STAT => [(THM_STAT.CFG_REJ, .w1c)]
  | .THM_TMAX => []
  | .THM_XO => []
  | .THM_SENS => []
  | .THM_TRIM => []
  | .TOW_PORT_CFG => [(TOW_PORT_CFG.EN, .rw), (TOW_PORT_CFG.IDLE_FILL, .rw), (TOW_PORT_CFG.QUIET, .rw), (TOW_PORT_CFG.ASYM, .rw)]
  | .TOW_PORT_STAT => []
  | .TOW_LINK_DLY => []
  | .TOW_ID => []
  | .TOW_HB_CFG => [(TOW_HB_CFG.EVT_CLASS, .rw), (TOW_HB_CFG.PER, .rw)]
  | .TOW_CNT => []
  | .TOW_TIME_CFG => [(TOW_TIME_CFG.STEP_TH, .rw), (TOW_TIME_CFG.SYNC_INT, .rw)]
  | .TOW_TIME_STAT => []
  | .TOW_TIME_LO => []
  | .TOW_TIME_HI => []
  | .TOW_TIME_SET_LO => [(TOW_TIME_SET_LO.TIME, .rw)]
  | .TOW_TIME_SET_HI => [(TOW_TIME_SET_HI.TIME, .rw)]
  | .TOW_TIME_SET_GO => [(TOW_TIME_SET_GO.GO, .wo)]
  | .TOW_PAIR_CFG => [(TOW_PAIR_CFG.START_BENCH, .rwl), (TOW_PAIR_CFG.SIDE, .rwl)]
  | .TOW_PAIR_CTL => [(TOW_PAIR_CTL.REL, .wo)]
  | .TOW_PAIR_STAT => []
  | .TOW_HEAD_CTL => [(TOW_HEAD_CTL.ENUM, .wo)]
  | .TOW_HEAD_STAT => []
  | .TOW_HEAD_PROM => [(TOW_HEAD_PROM.GO, .wo), (TOW_HEAD_PROM.SPARE, .rw), (TOW_HEAD_PROM.TARGET, .rw)]
  | .TOW_HEAD_MBX => [(TOW_HEAD_MBX.SEND, .wo), (TOW_HEAD_MBX.POP, .wo)]
  | .TOW_HEAD_DEAD => []
  | .TOW_HEAD_SPARE => [(TOW_HEAD_SPARE.EN, .rw), (TOW_HEAD_SPARE.AUTO, .rw), (TOW_HEAD_SPARE.SPARE, .rw), (TOW_HEAD_SPARE.ACTIVE, .rw)]
  | .TOW_HEAD_TX => [(TOW_HEAD_TX.DATA, .rw)]
  | .TOW_HEAD_RX => []
  | .FIX_STAT => []
  | .FIX_PMAX => []
  | .FIX_GMAX => []
  | .FIX_MARGIN => []
  | .FIX_UL => []
  | .FIX_EMIS => []
  | .FIX_NRANGE => []
  | .FIX_RANGE_LO => []
  | .FIX_RANGE_HI => []
  | .CAL_CTL => [(CAL_CTL.REQ_D, .wo), (CAL_CTL.REQ_S, .wo), (CAL_CTL.BG_TX_EN, .rw), (CAL_CTL.BG_RX_EN, .rw)]
  | .CAL_STAT => [(CAL_STAT.REQ_REJ, .w1c)]
  | .CAL_RET_CTL => [(CAL_RET_CTL.DISCARD, .rwa), (CAL_RET_CTL.COMMIT, .wo), (CAL_RET_CTL.COMMIT_INT, .rw)]
  | .CAL_RET_STAT => []
  | .CAL_RET_SEQ => []
  | .POOL_STAT => []
  | .POOL_CAP_CFG => [(POOL_CAP_CFG.ARM, .rw), (POOL_CAP_CFG.REL, .wo), (POOL_CAP_CFG.POINT, .rw), (POOL_CAP_CFG.TRIG, .rw), (POOL_CAP_CFG.SLICE, .rw), (POOL_CAP_CFG.BLOCKS, .rw)]
  | .POOL_CAP_STAT => [(POOL_CAP_STAT.REJ, .w1c)]
  | .POOL_CAP_RD => [(POOL_CAP_RD.BLK, .rw)]
  | .POOL_CAP_WIN => []
  | .SUP_BOOT => []
  | .SUP_STRAP => []
  | .SUP_PRM_ID => []
  | .SUP_PRM_SEQ => []
  | .SUP_CTL => [(SUP_CTL.WARM, .rwa)]
  | .SUP_HO_CTL => [(SUP_HO_CTL.GO, .rwa)]
  | .SUP_HO_STAT => [(SUP_HO_STAT.HO_REJ, .w1c)]
  | .SUP_WR_EN => [(SUP_WR_EN.DEBUG, .rwa), (SUP_WR_EN.SPI, .rwa), (SUP_WR_EN.TOW, .rwa)]
  | .SUP_AUTH_NONCE_LO => []
  | .SUP_AUTH_NONCE_HI => []
  | .SUP_AUTH_CTL => [(SUP_AUTH_CTL.OPEN, .wo), (SUP_AUTH_CTL.SUBMIT, .wo), (SUP_AUTH_CTL.ABORT, .wo), (SUP_AUTH_CTL.BLK, .rw), (SUP_AUTH_CTL.LEN, .rw)]
  | .SUP_AUTH_STAT => []
  | .SUP_AUTH_WIN => [(SUP_AUTH_WIN.DATA, .rw)]
  | .TST_FINJ => [(TST_FINJ.GO, .wo), (TST_FINJ.MODE, .rw), (TST_FINJ.INST, .rw), (TST_FINJ.CODE, .rw)]

/-- The registers of one block, by the block's source code (address bits [31:16] of its base, R278, R486). -/
def blockRegs : Nat → List RegName
  | 0x00 => [.GLB_ID, .GLB_UID_LO, .GLB_UID_HI, .GLB_LOCK]
  | 0x01 => [.LDG_WAKE_CFG, .LDG_WAKE_STAT, .LDG_RFDET_CFG, .LDG_RFDET_STAT, .LDG_WAKE_TMR, .LDG_PF, .LDG_OPT_LO, .LDG_OPT_HI, .LDG_PWRCYC]
  | 0x02 => [.PWR_DOM, .PWR_CTL, .PWR_STAT, .PWR_DOZE_CFG, .PWR_DOZE_STAT, .PWR_DOZE_MAP]
  | 0x03 => [.SYN_FT_CFG, .SYN_FT_STAT, .SYN_FT_NOW, .SYN_FT_OFS, .SYN_TD_CFG, .SYN_TD_STAT, .SYN_GRP_CTL, .SYN_GRP_STAT, .SYN_LO_FREQ, .SYN_LO_STAT, .SYN_RFFE_CFG, .SYN_RFFE_CMD, .SYN_RFFE_DATA, .SYN_RFFE_STAT, .SYN_RFFE_RD, .SYN_TGPIO_CFG, .SYN_TGPIO_OUT, .SYN_TGPIO_IN]
  | 0x04 => [.RXC_CFG, .RXC_STAT, .RXC_PWR]
  | 0x05 => [.TXC_CFG, .TXC_STAT, .TXC_ORX_STAT]
  | 0x10 => [.SLC_CFG0, .SLC_CFG1, .SLC_NCO_RX, .SLC_NCO_TX, .SLC_GAIN, .SLC_SYSG, .SLC_DET, .SLC_CTL, .SLC_STAT, .SLC_ERR, .SLC_RMS, .SLC_PEAK, .SLC_LATINFO, .SLC_DLY, .SLC_SETTLE, .SLC_GLZ_CTL, .SLC_GLZ_STAT, .SLC_COEF_A, .SLC_COEF_B, .SLC_ARRAY_STAT, .SLC_LAT, .SLC_SPARE_CTL, .SLC_SPARE_STAT]
  | 0x20 => [.CNL_CFG, .CNL_BULK, .CNL_CTL, .CNL_ISO, .CNL_DEPTH, .CNL_EFF, .CNL_PWR, .CNL_STAT, .CNL_ERR, .CNL_PRB_CFG, .CNL_PRB_CTL, .CNL_PRB_STAT, .CNL_PRB_RES0, .CNL_PRB_RES1, .CNL_COEF_SEL, .CNL_COEF_WIN]
  | 0x30 => [.LOOP_CTL, .LOOP_CFG, .LOOP_SRC, .LOOP_SP, .LOOP_LIM, .LOOP_MAN, .LOOP_SUP, .LOOP_OUT, .LOOP_LIMS, .LOOP_ERR, .LOOP_ISTAT, .LOOP_GLD_VMAX, .LOOP_GLD_AMAX, .LOOP_GLD_JMAX, .LOOP_GLD_POS, .LOOP_GLD_VEL, .LOOP_GLD_STAT, .LOOP_STAT, .LOOP_GCTL, .LOOP_LUT]
  | 0x38 => [.STN_CFG, .STN_CTL, .STN_STAT, .STN_ERR, .STN_ANCHOR, .STN_EDGE, .STN_BIN]
  | 0x3C => [.CRV_CTL, .CRV_STAT, .CRV_CNT0, .CRV_CNT1, .CRV_ERR, .CRV_DIR_TIME, .CRV_DIR_A, .CRV_DIR_B, .CRV_DIR_C, .CRV_DIR_GO, .CRV_TPL_CFG, .CRV_TPL_WIN, .CRV_TPL_AUX, .CRV_TPL_STAT, .CRV_ACT_A, .CRV_ACT_B, .CRV_ACT_C]
  | 0x40 => [.PTL_CFG, .PTL_OSC, .PTL_TIME, .PTL_SWEEP, .PTL_CTL, .PTL_REL, .PTL_STAT, .PTL_CNT, .PTL_DUTY, .PTL_SLC, .PTL_TRIM]
  | 0x48 => [.FLT_CFG, .FLT_RUNOUT, .FLT_CLAIMEXT, .FLT_STAT, .FLT_LIVE, .FLT_CNT, .FLT_CLAIM, .FLT_ACK, .FLT_ACKA, .FLT_ERR, .FLT_HB, .FLT_IRQ_EN, .FLT_IRQ_STAT, .FLT_LATCH_ID, .FLT_LATCH_INST, .FLT_LATCH_F_LO, .FLT_LATCH_F_HI, .FLT_LATCH_L_LO, .FLT_LATCH_L_HI, .FLT_LATCH_SEQ, .FLT_LATCH_ESQ]
  | 0x50 => [.REC_CFG, .REC_CTL, .REC_STAT, .REC_AREA, .REC_SEQ, .REC_CNT, .REC_CLR, .REC_MARK_LO, .REC_MARK_HI, .REC_MARK_GO, .REC_RD_SEL, .REC_RD_WIN, .REC_SNAP_SEL, .REC_SNAP_CTL, .REC_SNAP_ADDR]
  | 0x58 => [.BDAC_CFG, .BDAC_CODE, .BDAC_STAT, .BDAC_SPAN, .BDAC_SINE, .BDAC_SAMP, .BDAC_RB, .BDAC_ERR, .BDAC_LOAD0, .BDAC_LOAD1, .BDAC_TT_LO, .BDAC_TT_HI, .BDAC_TT_CTL]
  | 0x60 => [.HK_CFG, .HK_STAT, .HK_ASSIGN, .HK_SLOT, .THM_CFG, .THM_STAT, .THM_TMAX, .THM_XO, .THM_SENS, .THM_TRIM]
  | 0x68 => [.TOW_PORT_CFG, .TOW_PORT_STAT, .TOW_LINK_DLY, .TOW_ID, .TOW_HB_CFG, .TOW_CNT, .TOW_TIME_CFG, .TOW_TIME_STAT, .TOW_TIME_LO, .TOW_TIME_HI, .TOW_TIME_SET_LO, .TOW_TIME_SET_HI, .TOW_TIME_SET_GO, .TOW_PAIR_CFG, .TOW_PAIR_CTL, .TOW_PAIR_STAT, .TOW_HEAD_CTL, .TOW_HEAD_STAT, .TOW_HEAD_PROM, .TOW_HEAD_MBX, .TOW_HEAD_DEAD, .TOW_HEAD_SPARE, .TOW_HEAD_TX, .TOW_HEAD_RX]
  | 0x70 => [.FIX_STAT, .FIX_PMAX, .FIX_GMAX, .FIX_MARGIN, .FIX_UL, .FIX_EMIS, .FIX_NRANGE, .FIX_RANGE_LO, .FIX_RANGE_HI]
  | 0x78 => [.CAL_CTL, .CAL_STAT, .CAL_RET_CTL, .CAL_RET_STAT, .CAL_RET_SEQ]
  | 0x80 => [.POOL_STAT, .POOL_CAP_CFG, .POOL_CAP_STAT, .POOL_CAP_RD, .POOL_CAP_WIN]
  | 0x88 => [.SUP_BOOT, .SUP_STRAP, .SUP_PRM_ID, .SUP_PRM_SEQ, .SUP_CTL, .SUP_HO_CTL, .SUP_HO_STAT, .SUP_WR_EN, .SUP_AUTH_NONCE_LO, .SUP_AUTH_NONCE_HI, .SUP_AUTH_CTL, .SUP_AUTH_STAT, .SUP_AUTH_WIN]
  | 0xF0 => [.TST_FINJ]
  | _ => []

/-- The fixed part of a register's reset word, where the register summary gives a number; registers whose reset
depends on the instance are in `RegName.resetWord` below. -/
def RegName.resetBase : RegName → Nat
  | .GLB_ID => 0x4192A000
  | .LDG_WAKE_CFG => 0xA0000004
  | .LDG_RFDET_CFG => 0xFF00000A
  | .PWR_STAT => 0x00000001
  | .PWR_DOZE_CFG => 0x80000014
  | .SYN_FT_CFG => 0x0A4008D1
  | .SYN_FT_STAT => 0x00000020
  | .SYN_GRP_CTL => 0x00FF0000
  | .SYN_RFFE_CFG => 0x02000000
  | .SYN_TGPIO_CFG => 0x04000000
  | .RXC_CFG => 0xC00A000C
  | .RXC_PWR => 0x00008000
  | .TXC_CFG => 0x8000003F
  | .SLC_CFG0 => 0x04000000
  | .SLC_CFG1 => 0x00000001
  | .SLC_GAIN => 0x0000F448
  | .SLC_SYSG => 0x00008000
  | .SLC_DET => 0x9C040000
  | .SLC_STAT => 0x00000008
  | .SLC_RMS => 0x00008000
  | .SLC_PEAK => 0x00008000
  | .SLC_LATINFO => 0x0000121C
  | .SLC_DLY => 0x8FF008FF
  | .SLC_GLZ_CTL => 0x00000400
  | .SLC_ARRAY_STAT => 0x08000000
  | .SLC_LAT => 0x0000012C
  | .CNL_CFG => 0x0F028158
  | .CNL_CTL => 0x1A007828
  | .CNL_EFF => 0x0AF00FA0
  | .CNL_PWR => 0x80008000
  | .CNL_PRB_CFG => 0x09800005
  | .CNL_PRB_CTL => 0x003C0064
  | .LOOP_CFG => 0x40000064
  | .LOOP_SP => 0x00008000
  | .LOOP_LIM => 0x0000F448
  | .LOOP_MAN => 0x0000F060
  | .LOOP_SUP => 0x401E00A0
  | .LOOP_OUT => 0x0000F448
  | .LOOP_ERR => 0x80000000
  | .LOOP_GLD_VMAX => 0x000003E8
  | .LOOP_GLD_AMAX => 0x00002710
  | .LOOP_GLD_STAT => 0x80000000
  | .STN_CFG => 0x000000A0
  | .STN_CTL => 0x04001400
  | .STN_BIN => 0x00008000
  | .CRV_CTL => 0x00000040
  | .CRV_STAT => 0x00001000
  | .CRV_TPL_AUX => 0x04000000
  | .PTL_CFG => 0x1E143C3C
  | .PTL_OSC => 0x3268140A
  | .PTL_TIME => 0x08641464
  | .PTL_SWEEP => 0x08320000
  | .PTL_SLC => 0x00008000
  | .PTL_TRIM => 0x00007FFF
  | .FLT_CFG => 0x00000004
  | .FLT_RUNOUT => 0x00140A04
  | .FLT_CLAIMEXT => 0x00502810
  | .FLT_IRQ_EN => 0x0000007F
  | .REC_CFG => 0x08043000
  | .REC_RD_WIN => 0xFFFFFFFF
  | .BDAC_CFG => 0x02401000
  | .BDAC_SINE => 0x00001F40
  | .BDAC_SAMP => 0x00000010
  | .BDAC_RB => 0x0A000000
  | .HK_CFG => 0x0A000000
  | .THM_CFG => 0x64696E47
  | .THM_TMAX => 0x00008000
  | .THM_SENS => 0x00008000
  | .TOW_PORT_CFG => 0x80000000
  | .TOW_HB_CFG => 0x00010064
  | .TOW_TIME_CFG => 0x04000A00
  | .TOW_HEAD_STAT => 0x00010001
  | .CAL_CTL => 0x0000FFFF
  | .CAL_RET_CTL => 0x00000004
  | .POOL_STAT => 0x10000000
  | .SUP_HO_STAT => 0x00000010
  | .SUP_WR_EN => 0x00000007
  | _ => 0

end Sys2Proof.Machine
end

