-- ==== Sys2Proof/Machine/FaultCodes.lean ====
section
/-! DEFINITION. Event codes and fault classes (R278, R279), from the "Faults raised here" tables of the chapters and
the recorder's own codes (R303). -/
namespace Sys2Proof.Machine

/-- The fault classes of R279. -/
inductive Cls where
  | note | minor | slice | group | device | safety
deriving DecidableEq, Repr

/-- The class codes of R279. -/
def Cls.code : Cls → Nat
  | .note => 0 | .minor => 1 | .slice => 2 | .group => 3 | .device => 4 | .safety => 5

/-- The instance of a fault that has none (R278). -/
def noInst : Nat := 0xFF

/-- The NOTE fault ADDR_UNMAPPED of the block with source code `src` (R18, R278: cause 0x01). -/
def Ev.addrUnmapped (src : Nat) : Nat := src * 256 + 1

def Ev.FT_STEP : Nat := 0x0330
def Ev.FT_HOLDOVER : Nat := 0x0331
def Ev.TX_LOCK_TIMEOUT : Nat := 0x0310
def Ev.LO_UNLOCK : Nat := 0x0311
def Ev.LO_LOCK_FAIL : Nat := 0x0312
def Ev.RFFE_LATE : Nat := 0x0320
def Ev.RFFE_PARITY : Nat := 0x0321
def Ev.RFFE_OVF : Nat := 0x0322
def Ev.RX_CLIP : Nat := 0x0410
def Ev.RX_CAL_FAIL : Nat := 0x0411
def Ev.TX_CAL_FAIL : Nat := 0x0510
def Ev.TX_NO_TAP_CAL : Nat := 0x0511
def Ev.ORX_CAL_FAIL : Nat := 0x0512
def Ev.CAL_STALE : Nat := 0x7810
def Ev.USERCAL_INVALID : Nat := 0x7811
def Ev.SLICE_CHECK : Nat := 0x1010
def Ev.SLICE_NO_SPARE : Nat := 0x1011
def Ev.POOL_DENIED : Nat := 0x8010
def Ev.CNL_DIVERGE : Nat := 0x2010
def Ev.CNL_UNSTABLE : Nat := 0x2011
def Ev.ISO_DISAGREE : Nat := 0x2012
def Ev.CNL_CHECK : Nat := 0x2013
def Ev.PRB_INVALID : Nat := 0x2014
def Ev.LOOP_HOLD_TO : Nat := 0x3010
def Ev.LOOP_HOLD : Nat := 0x3011
def Ev.LOOP_FOLLOW : Nat := 0x3012
def Ev.LOOP_OVERRUN : Nat := 0x3013
def Ev.LOOP_OVR : Nat := 0x3014
def Ev.STN_DISARM : Nat := 0x3810
def Ev.STN_NO_PATTERN : Nat := 0x3811
def Ev.CRV_FULL : Nat := 0x3C10
def Ev.CRV_LATE : Nat := 0x3C11
def Ev.CRV_CONTRA_RUN : Nat := 0x3C12
def Ev.CRV_CHECK : Nat := 0x3C13
def Ev.PTL_TRIM : Nat := 0x4010
def Ev.PTL_MUTE_SLICE : Nat := 0x4011
def Ev.PTL_MUTE_DIR : Nat := 0x4012
def Ev.PTL_STOP : Nat := 0x4013
def Ev.PTL_SELFTEST : Nat := 0x4014
def Ev.PTL_FIX_INVALID : Nat := 0x4015
def Ev.FLT_ESCALATE : Nat := 0x4810
def Ev.FLT_EVICT : Nat := 0x4811
def Ev.FLT_HB_LOST : Nat := 0x4812
def Ev.CHANGE : Nat := 0x5040
def Ev.TABLE : Nat := 0x5041
def Ev.TIME_MARK : Nat := 0x5042
def Ev.CLEAR : Nat := 0x5043
def Ev.POWER_FAIL : Nat := 0x5044
def Ev.START : Nat := 0x5045
def Ev.REC_DROP : Nat := 0x5010
def Ev.REC_TORN : Nat := 0x5011
def Ev.REC_VARNISH_FULL : Nat := 0x5012
def Ev.REC_WRITE_FAIL : Nat := 0x5013
def Ev.BDAC_RB_MISMATCH : Nat := 0x5810
def Ev.BDAC_ILIM : Nat := 0x5811
def Ev.HK_CHECK : Nat := 0x6010
def Ev.HK_SUPPLY : Nat := 0x6011
def Ev.THM_SENSOR : Nat := 0x6012
def Ev.THM_WARN : Nat := 0x6013
def Ev.THM_THROTTLE : Nat := 0x6014
def Ev.THM_CRITICAL : Nat := 0x6015
def Ev.THM_SHUTDOWN : Nat := 0x6016
def Ev.THM_BLIND : Nat := 0x6017
def Ev.PWR_DOMAIN_FAIL : Nat := 0x0210
def Ev.LDG_XTAL : Nat := 0x0110
def Ev.PRM_INVALID : Nat := 0x8810
def Ev.PRM_SECONDARY : Nat := 0x8811
def Ev.PRM_WRITE_REJ : Nat := 0x8812
def Ev.PRM_SKIP : Nat := 0x8813
def Ev.RET_INVALID : Nat := 0x7820
def Ev.RET_TABLE_DIFF : Nat := 0x7821
def Ev.RET_COMMIT_FAIL : Nat := 0x7822
def Ev.SUP_HO_FAIL : Nat := 0x8820
def Ev.SUP_LOCKSTEP : Nat := 0x8821
def Ev.SUP_NO_STANDBY : Nat := 0x8822
def Ev.SUP_AUTH_LOCK : Nat := 0x8823
def Ev.SUP_AUTH_FAIL : Nat := 0x8824
def Ev.TOW_LINK_DOWN : Nat := 0x6810
def Ev.TOW_LINK_UP : Nat := 0x6811
def Ev.TOW_TIME_LOST : Nat := 0x6812
def Ev.TOW_FENCED : Nat := 0x6813
def Ev.TOW_BENCHED : Nat := 0x6814
def Ev.TOW_TOKEN_FAULT : Nat := 0x6815
def Ev.TOW_DEAD : Nat := 0x6816
def Ev.TOW_DROP : Nat := 0x6817
def Ev.TOW_NOADDR : Nat := 0x6818

/-- The class of a fault identity (R279). LOOP_HOLD_TO's depends on the instance (R217); the class of FLT_ESCALATE is
that of the escalated fault and is given where it is recorded (R298). Every code not listed is a NOTE: the
ADDR_UNMAPPED codes and the recorder's own records. -/
def Ev.cls (code inst : Nat) : Cls :=
  if code = Ev.LOOP_HOLD_TO then (if inst < 192 then .slice else if inst < 200 then .group else .minor)
  else if code ∈ [Ev.FT_STEP, Ev.FT_HOLDOVER, Ev.RFFE_LATE, Ev.RFFE_PARITY, Ev.RX_CLIP, Ev.CAL_STALE, Ev.USERCAL_INVALID, Ev.SLICE_NO_SPARE, Ev.CNL_DIVERGE, Ev.CNL_UNSTABLE, Ev.ISO_DISAGREE, Ev.LOOP_FOLLOW, Ev.STN_NO_PATTERN, Ev.CRV_CONTRA_RUN, Ev.PTL_MUTE_SLICE, Ev.PTL_MUTE_DIR, Ev.PTL_STOP, Ev.REC_TORN, Ev.REC_VARNISH_FULL, Ev.REC_WRITE_FAIL, Ev.BDAC_RB_MISMATCH, Ev.BDAC_ILIM, Ev.HK_SUPPLY, Ev.THM_SENSOR, Ev.THM_WARN, Ev.THM_THROTTLE, Ev.THM_CRITICAL, Ev.LDG_XTAL, Ev.PRM_INVALID, Ev.RET_COMMIT_FAIL, Ev.SUP_HO_FAIL, Ev.SUP_LOCKSTEP, Ev.SUP_AUTH_LOCK, Ev.TOW_LINK_DOWN, Ev.TOW_TIME_LOST, Ev.TOW_BENCHED, Ev.TOW_DEAD, Ev.TOW_NOADDR] then .minor
  else if code ∈ [Ev.SLICE_CHECK, Ev.CNL_CHECK] then .slice
  else if code ∈ [Ev.TX_LOCK_TIMEOUT, Ev.LO_UNLOCK, Ev.LO_LOCK_FAIL, Ev.RX_CAL_FAIL, Ev.TX_CAL_FAIL, Ev.TX_NO_TAP_CAL] then .group
  else if code ∈ [Ev.ORX_CAL_FAIL, Ev.LOOP_OVERRUN, Ev.CRV_CHECK, Ev.FLT_HB_LOST, Ev.HK_CHECK, Ev.PWR_DOMAIN_FAIL, Ev.SUP_NO_STANDBY] then .device
  else if code ∈ [Ev.PTL_SELFTEST, Ev.PTL_FIX_INVALID, Ev.THM_SHUTDOWN, Ev.THM_BLIND, Ev.TOW_TOKEN_FAULT] then .safety
  else .note

/-- The fault identities: the codes that a fault injection may name (R297). -/
def Ev.identities : List Nat :=
  [Ev.FT_STEP, Ev.FT_HOLDOVER, Ev.TX_LOCK_TIMEOUT, Ev.LO_UNLOCK, Ev.LO_LOCK_FAIL, Ev.RFFE_LATE, Ev.RFFE_PARITY, Ev.RFFE_OVF,
   Ev.RX_CLIP, Ev.RX_CAL_FAIL, Ev.TX_CAL_FAIL, Ev.TX_NO_TAP_CAL, Ev.ORX_CAL_FAIL, Ev.CAL_STALE, Ev.USERCAL_INVALID, Ev.SLICE_CHECK,
   Ev.SLICE_NO_SPARE, Ev.POOL_DENIED, Ev.CNL_DIVERGE, Ev.CNL_UNSTABLE, Ev.ISO_DISAGREE, Ev.CNL_CHECK, Ev.PRB_INVALID, Ev.LOOP_HOLD_TO,
   Ev.LOOP_HOLD, Ev.LOOP_FOLLOW, Ev.LOOP_OVERRUN, Ev.LOOP_OVR, Ev.STN_DISARM, Ev.STN_NO_PATTERN, Ev.CRV_FULL, Ev.CRV_LATE,
   Ev.CRV_CONTRA_RUN, Ev.CRV_CHECK, Ev.PTL_TRIM, Ev.PTL_MUTE_SLICE, Ev.PTL_MUTE_DIR, Ev.PTL_STOP, Ev.PTL_SELFTEST, Ev.PTL_FIX_INVALID,
   Ev.FLT_ESCALATE, Ev.FLT_EVICT, Ev.FLT_HB_LOST, Ev.REC_DROP, Ev.REC_TORN, Ev.REC_VARNISH_FULL, Ev.REC_WRITE_FAIL, Ev.BDAC_RB_MISMATCH,
   Ev.BDAC_ILIM, Ev.HK_CHECK, Ev.HK_SUPPLY, Ev.THM_SENSOR, Ev.THM_WARN, Ev.THM_THROTTLE, Ev.THM_CRITICAL, Ev.THM_SHUTDOWN,
   Ev.THM_BLIND, Ev.PWR_DOMAIN_FAIL, Ev.LDG_XTAL, Ev.PRM_INVALID, Ev.PRM_SECONDARY, Ev.PRM_WRITE_REJ, Ev.PRM_SKIP, Ev.RET_INVALID,
   Ev.RET_TABLE_DIFF, Ev.RET_COMMIT_FAIL, Ev.SUP_HO_FAIL, Ev.SUP_LOCKSTEP, Ev.SUP_NO_STANDBY, Ev.SUP_AUTH_LOCK, Ev.SUP_AUTH_FAIL, Ev.TOW_LINK_DOWN,
   Ev.TOW_LINK_UP, Ev.TOW_TIME_LOST, Ev.TOW_FENCED, Ev.TOW_BENCHED, Ev.TOW_TOKEN_FAULT, Ev.TOW_DEAD, Ev.TOW_DROP, Ev.TOW_NOADDR]

/-- The identities that are event only: they report an occurrence and are never live (the fault tables; R282). -/
def Ev.eventOnly (code : Nat) : Bool :=
  code % 256 == 1 || decide (code ∈
    [Ev.FT_STEP, Ev.RFFE_LATE, Ev.RFFE_PARITY, Ev.RFFE_OVF, Ev.RX_CLIP, Ev.SLICE_NO_SPARE, Ev.POOL_DENIED, Ev.CNL_DIVERGE, Ev.PRB_INVALID,
     Ev.LOOP_HOLD, Ev.LOOP_OVR, Ev.STN_DISARM, Ev.CRV_FULL, Ev.CRV_LATE, Ev.PTL_TRIM, Ev.FLT_ESCALATE, Ev.FLT_EVICT, Ev.REC_DROP, Ev.REC_TORN,
     Ev.REC_WRITE_FAIL, Ev.BDAC_ILIM, Ev.PRM_SECONDARY, Ev.PRM_WRITE_REJ, Ev.PRM_SKIP, Ev.RET_INVALID, Ev.RET_TABLE_DIFF, Ev.SUP_HO_FAIL,
     Ev.SUP_LOCKSTEP, Ev.SUP_AUTH_FAIL, Ev.TOW_LINK_UP, Ev.TOW_FENCED, Ev.TOW_DROP])

/-- Whether a code names a fault identity: one of the listed causes, or the ADDR_UNMAPPED of a block (R278). -/
def Ev.isIdentity (code : Nat) : Bool :=
  decide (code ∈ Ev.identities) ||
    (code % 256 == 1 && decide (code / 256 ∈ [0x00, 0x01, 0x02, 0x03, 0x04, 0x05, 0x10, 0x20, 0x30, 0x38, 0x3C, 0x40, 0x48, 0x50, 0x58,
      0x60, 0x68, 0x70, 0x78, 0x80, 0x88, 0xF0, 0xFF]))

end Sys2Proof.Machine
end

