-- ==== Sys2Proof/Machine/State.lean ====
section
/-! DEFINITION. The state of the block: every register, queue, counter, mode and pin the manual gives it, as plain data.
Registers that software reads and writes whole live in the sparse register file `Dev.regs`; what an engine keeps lives
in typed structures, and the status registers are views of them (Sys2Proof/Machine/View.lean). -/
namespace Sys2Proof.Machine

/-! ### Recorder (chapter 13) -/

/-- A triple of a CHANGE record (R303). -/
structure Triple where
  addr : Nat
  old : Nat
  new : Nat
deriving DecidableEq, Repr

/-- What a record holds beyond the fields every record has (R302, R303). -/
inductive RecBody where
  /-- An event record: repeat count, last-occurrence delta, SNAP[0..7], SLIST, INST, AUX. -/
  | event (rep delta : Nat) (snap : List Nat) (slist inst aux : Nat)
  /-- A CHANGE record: batch number, index in the batch, one to three triples. -/
  | change (batch idx : Nat) (triples : List Triple)
  /-- A TABLE record: batch number, first and last byte address, CRC-32 of the new content. -/
  | table (batch first last crc : Nat)
deriving DecidableEq, Repr

/-- A recorder record (R301). -/
structure Record where
  seq : Nat
  opt : Nat
  pwrcyc : Nat
  code : Nat
  cls : Cls
  conseq : Bool
  overflow : Bool
  backward : Bool
  more : Bool
  varnish : Bool
  /-- Origin code, role code and Tow source address (R301). -/
  origin : Nat
  role : Nat
  addr : Nat
  /-- The parent's sequence number of a consequential record (R292, R306); 0 otherwise. -/
  parent : Nat
  body : RecBody
deriving DecidableEq, Repr

/-- The five states of a staging slot. -/
inductive StgState where
  | free | new | writing | clean | dirty
deriving DecidableEq, Repr

/-- The two areas of the recorder memory (R299). -/
inductive Area where
  | varnish | palette
deriving DecidableEq, Repr

/-- A staging slot (chapter 13, "Staging and repeats"). -/
structure Stg where
  st : StgState
  r : Record
  /-- Operating time of the last occurrence. -/
  last : Nat
  /-- Rewrites in place so far (R306). -/
  rewrites : Nat
  /-- The memory slot the record holds once written. -/
  place : Option (Area × Nat)
  /-- A repeat fell on the record while it was being written. -/
  touched : Bool
deriving DecidableEq, Repr

/-- A 64-byte slot of the recorder memory (R313, R314); an unlisted slot is empty. The bytes of a torn slot are a free
value, which `key` names. -/
inductive MemSlot where
  | blank
  | valid (r : Record)
  | torn (key : Nat)
deriving DecidableEq, Repr

/-- A record write in progress (R308 to R312). -/
structure RecWrite where
  stg : Nat
  area : Area
  slot : Nat
  /-- What is being written: the staging copy as it stood when the write started. -/
  image : Record
  /-- The write rewrites a slot in place. -/
  rewrite : Bool
  retried : Bool
deriving DecidableEq, Repr

/-- The recorder. -/
structure Recorder where
  /-- The 64 staging slots in the Lodge; an unlisted slot is FREE. -/
  stg : List (Nat × Stg) := []
  varnish : List (Nat × MemSlot) := []
  palette : List (Nat × MemSlot) := []
  vUsed : Nat := 0
  pHead : Nat := 0
  next : Nat := 1
  drop : Nat := 0
  vDrop : Nat := 0
  /-- Losses since the previous REC_DROP record (R307). -/
  lost : Nat := 0
  torn : Nat := 0
  /-- Palette slots skipped under R312. -/
  bad : List Nat := []
  commitOk : Bool := true
  /-- A flush is in progress, and the records, by number, that it still rewrites in place (R309). -/
  flushing : Bool := false
  inPlace : List Nat := []
  /-- The flush of R310 ignores the token bucket. -/
  pfail : Bool := false
  /-- The first record staged after SHUTDOWN was decided; from it on records stay in the Lodge (R311). -/
  heldFrom : Nat := 0
  wr : Option RecWrite := none
  /-- Palette tokens (R309). -/
  tokens : Nat := 256
  /-- Sequence number of the latest CLEAR record of each area (R313), and clears since manufacture. -/
  clrSeqV : Nat := 0
  clrSeqP : Nat := 0
  clrCntV : Nat := 0
  clrCntP : Nat := 0
  /-- The areas whose background erases run (R319). -/
  clrBusy : List Area := []
  /-- The clears that wait for the flush before them (R319 step 1), and who asked for each. -/
  clrWait : List (Area × By) := []
  /-- Batch number of the change journal, and the accepted writes of the operation in hand (R316). -/
  batch : Nat := 0
  jl : List Triple := []
  /-- New records that may send a Tow EVENT frame once the step ends (R438). -/
  announce : List Nat := []
  /-- Records staged in this step whose snapshot list is still to be read (R305): record and list. -/
  snapDue : List (Nat × Nat) := []
  /-- The previous time mark and its record (R318). -/
  markVal : Nat := 0
  markSeq : Nat := 0
deriving DecidableEq, Repr

/-! ### Fault collector (chapter 12) -/

/-- What runs on a latch entry (R285, R287). -/
inductive RunPhase where
  | none | runout | extension
deriving DecidableEq, Repr

/-- A valid latch entry (R282). -/
structure Latch where
  code : Nat
  inst : Nat
  cls : Cls
  live : Bool
  claimed : Bool := false
  esc : Bool := false
  /-- It has been escalated since its fault became live (R288). -/
  spent : Bool := false
  conseq : Bool := false
  run : RunPhase := .none
  inj : Bool := false
  count : Nat := 1
  first : Nat
  last : Nat
  seq : Nat := 0
  esq : Nat := 0
deriving DecidableEq, Repr

/-- The reactions that open a shadow (R291). -/
inductive Reaction where
  | spare (s : Nat)
  | failed (s : Nat)
  | group (g : Nat)
  | shed (mset : Nat)
deriving DecidableEq, Repr

/-- An open reaction shadow (R291 to R293). -/
structure Shadow where
  by_ : Reaction
  parent : Nat
  /-- The reaction has completed; the shadow closes FLT_CFG.SHADOW later. -/
  done : Bool
  /-- Faults raised inside the shadow (code, instance). -/
  inside : List (Nat × Nat)
deriving DecidableEq, Repr

/-- The fault collector. -/
structure Faults where
  /-- Latch entries 0 to 127; an unlisted entry is free. -/
  latch : List (Nat × Latch) := []
  /-- The entries with an occurrence in the core cycle of the acknowledgement in hand (R283). -/
  same : List Nat := []
  /-- Live fault identities: code and instance (R281: the live status belongs to the source), and those of them that were
  injected (R297). -/
  live : List (Nat × Nat) := []
  injected : List (Nat × Nat) := []
  shadows : List Shadow := []
  /-- The parent record of each shadowed block (a slice, or 192 + a group): that of the reaction whose shadow opened on
  it first (R292). -/
  blkPar : List (Nat × Nat) := []
  lost : Nat := 0
  noteCnt : Nat := 0
  conseqCnt : Nat := 0
  escCnt : Nat := 0
  /-- Escalations decided but not yet carried out in this step: class, code, instance, FLT_ESCALATE record. -/
  due : List (Cls × Nat × Nat × Nat) := []
  /-- The ALIVE pin and whether it toggles (R294). -/
  alive : Bool := false
  aliveRun : Bool := false
  hbOk : Bool := false
  hbArmed : Bool := false
  /-- FLT_HB was written since the previous toggle instant. -/
  beat : Bool := false
deriving DecidableEq, Repr

/-! ### Power domains and the Lodge (chapter 16) -/

/-- The phases of a power domain (R355, R356). -/
inductive DomPhase where
  | off | powering | on | draining | offing | wait
deriving DecidableEq, Repr

/-- The phase codes of PWR_DOM. -/
def DomPhase.code : DomPhase → Nat
  | .off => 0 | .powering => 1 | .on => 2 | .draining => 3 | .offing => 4 | .wait => 5

/-- One switched domain. -/
structure Dom where
  phase : DomPhase := .off
  queued : Bool := false
  /-- The owner requests the domain, and the number of that request in the order of requests (R356). -/
  req : Bool := false
  ord : Nat := 0
  /-- It has failed to power up and stays OFF (R356): a domain of a group's step. -/
  failed : Bool := false
  upCnt : Nat := 0
deriving DecidableEq, Repr

/-- The device's own sleep sequence (R360). -/
inductive SleepSt where
  | awake | entering | asleep
deriving DecidableEq, Repr

/-- The power block and the Lodge's wake logic. -/
structure Power where
  doms : List (Nat × Dom) := []
  /-- Requests for domains made so far: the next request's number. -/
  reqNo : Nat := 0
  /-- Domains in WAIT, in the order of their requests (R356). -/
  waiting : List Nat := []
  sleep : SleepSt := .awake
  /-- How far the sleep sequence has come (R360): groups, channels and tiles, commit and flush. -/
  stage : Nat := 0
  /-- A wake cause held during ENTERING: cause bits and RF pins (R360). -/
  heldWake : Option (Nat × Nat) := none
  mainEn : Bool := true
  pwrGood : Bool := true
  /-- The internal reset waits for PWR_GOOD high for 10 ms. -/
  relWait : Bool := false
  xtalOk : Bool := true
  wakeCause : Nat := 0
  wakePins : Nat := 0
  pfCnt : Nat := 0
  rfPres : Nat := 0
  /-- Consecutive windows with energy per RX pin. -/
  rfRun : List (Nat × Nat) := []
  /-- RESET_N is held low. -/
  inReset : Bool := false
  /-- The power-fail comparator has tripped and the device waits for its supplies. -/
  failed : Bool := false
  /-- The Lodge has been without its supply since the last cold start: what it kept is gone (R53, R383). -/
  lodgeLost : Bool := false
deriving DecidableEq, Repr

/-! ### Radio groups, synthesisers, RFFE, TGPIO (chapter 3) -/

/-- The states of a radio group (R57). -/
inductive GSt where
  | sleep | standby | synth | rx | tx | duplex
deriving DecidableEq, Repr

/-- The state codes of R57. -/
def GSt.code : GSt → Nat
  | .sleep => 0 | .standby => 1 | .synth => 2 | .rx => 3 | .tx => 4 | .duplex => 5

/-- The state a code names; the codes 0b110 and 0b111 name none. -/
def GSt.ofCode : Nat → Option GSt
  | 0 => some .sleep | 1 => some .standby | 2 => some .synth | 3 => some .rx | 4 => some .tx | 5 => some .duplex
  | _ => none

/-- The phases of SYN_GRP_STAT.PHASE. -/
inductive GPhase where
  | steady | moving | draining | offing
deriving DecidableEq, Repr

/-- The phase codes of SYN_GRP_STAT. -/
def GPhase.code : GPhase → Nat
  | .steady => 0 | .moving => 1 | .draining => 2 | .offing => 3

/-- A group sequencer. -/
structure Group where
  state : GSt := .sleep
  target : GSt := .sleep
  phase : GPhase := .steady
  /-- The state the step in progress ends in. -/
  step : GSt := .sleep
  /-- A drain that reverses to the state it was leaving (R64). -/
  reversing : Bool := false
  queued : Bool := false
  held : Bool := false
  cal : Bool := false
  /-- The latest request held by a calibration (R77). -/
  heldReq : Option GSt := none
  /-- The target that a start-up calibration holds the sequencer from (R102). -/
  aim : Option GSt := none
  txWait : Bool := false
  /-- The nominal time of STANDBY → SYNTH has ended and the step waits for lock (R72, R74). -/
  nominal : Bool := false
  /-- The group has just reached SYNTH: a start-up calibration that is due comes before its next step (R102). -/
  fresh : Bool := false
  /-- The latest request held by CRITICAL (R349). -/
  critReq : Option GSt := none
  txtoCnt : Nat := 0
  /-- Absolute core cycle at which the step in progress began (R60). -/
  stepAt : Nat := 0
deriving DecidableEq, Repr

/-- A VCO band cache entry (R68): VCO frequency (in SYN_LO_FREQ units), band, die temperature (0.01 °C; none where the synthesiser's
sensors gave none). -/
structure BandEntry where
  vco : Nat
  band : Nat
  temp : Option Int
deriving DecidableEq, Repr

/-- A synthesiser. -/
structure Synth where
  on : Bool := false
  lock : Bool := false
  /-- The frequency in use, and the one that the chains' tables are loaded for since the last lock (units of R67; 0 before a
  lock; R109). -/
  freq : Nat := 0
  tables : Nat := 0
  retune : Bool := false
  /-- A write whose retune starts at the next boundary, or a pending frequency (R70). -/
  start : Option Nat := none
  pend : Option Nat := none
  search : Bool := false
  /-- A loss of lock, or a retune that failed, closed the group's TX lock gate until lock has held (R75). -/
  shut : Bool := false
  /-- Lock was lost since it was last declared: slices of an RX synthesiser stay muted (R75). -/
  lost : Bool := false
  /-- Absolute core cycle of the last declaration of lock. -/
  lockAt : Nat := 0
  /-- Most recently used first. -/
  cache : List BandEntry := []
  unlockCnt : Nat := 0
deriving DecidableEq, Repr

/-- A command or timed write of an RFFE master (R8, R82, R83). -/
structure RffeCmd where
  /-- 0 Register Write, 1 Extended Register Write, 2 Extended Register Write Long, 3 Register Read. -/
  typ : Nat
  usid : Nat
  addr : Nat
  data : List Nat
deriving DecidableEq, Repr

/-- A timed write of Carve waiting for the bus (R82, R249). -/
structure RffeTimed where
  cmd : RffeCmd
  /-- Execution time in frame time, and queue order. -/
  at_ : Nat
  ord : Nat
  /-- The epoch and action index it executes; none for an inverse. -/
  act : Option (Nat × Nat)
deriving DecidableEq, Repr

/-- An RFFE master. -/
structure Rffe where
  fifo : List RffeCmd := []
  timed : List RffeTimed := []
  /-- The sequence on the bus and whether it is a timed write. -/
  bus : Option RffeCmd := none
  lateCnt : Nat := 0
  rdValid : Bool := false
  rdData : Nat := 0
  /-- The last sequence driven onto SCLK and SDATA. -/
  lastSeq : Option RffeCmd := none
deriving DecidableEq, Repr

/-- Why a TGPIO is held at SAFE (R88) or a bias DAC channel at PARK (R327); a GROUP escalation by its group. -/
inductive HoldCause where
  | stop | bench | shutdown | warm
  | group (g : Nat)
deriving DecidableEq, Repr

/-- A timed general-purpose output. -/
structure Tgpio where
  /-- The driven level; none is high-impedance. -/
  drive : Option Bool := none
  /-- Delayed edges still to come on a FOLLOW pin, oldest first. -/
  edges : List Bool := []
  hold : List HoldCause := []
  /-- The assigned group while the pin is held: one written during the hold waits for the release (R89). -/
  heldGrp : Option Nat := none
deriving DecidableEq, Repr

/-! ### Bias DACs (chapter 14) -/

/-- The channel states (R325). -/
inductive BSt where
  | off | drive | parking | parked | offing | span
deriving DecidableEq, Repr

/-- The state codes of BDAC_STAT. -/
def BSt.code : BSt → Nat
  | .off => 0 | .drive => 1 | .parking => 2 | .parked => 3 | .offing => 4 | .span => 5

/-- The values of a span change in hand (R334). -/
structure SpanChg where
  span : Nat
  park : Nat
  code : Nat
deriving DecidableEq, Repr

/-- A bias DAC channel. -/
structure Bdac where
  st : BSt := .off
  /-- The output stage powers up (2 µs) or waits for the bank. -/
  starting : Bool := false
  /-- The output drives the pin (R324). -/
  driven : Bool := false
  t : Nat := 0
  out : Nat := 0
  pcode : Nat := 0
  pend : Bool := false
  /-- A code that reaches T at the next update tick. -/
  imm : Option Nat := none
  /-- Carve has set T: the core cycle of the update tick that this belongs to (R329). -/
  carved : Option Nat := none
  pcause : List HoldCause := []
  queued : Bool := false
  span : Nat := 0
  chg : Option SpanChg := none
  /-- The slew back to T after a park or a span change has not ended (R328, R334). -/
  back : Bool := false
  /-- At the last boundary the loop that drives the channel took its record with VALID = 0 for R328. -/
  held : Bool := false
  sineOn : Bool := false
  sineStop : Bool := false
  acc : Nat := 0
  /-- Sine code at the last tick, before clamping to the string, for the zero crossing. -/
  probe : Option Nat := none
  rbValid : Bool := false
  rbMv : Int := 0
  mism : Bool := false
  /-- Consecutive misses and consecutive hits of the read-back comparison (R336). -/
  miss : Nat := 0
  hit : Nat := 0
  /-- T, slewing or state changed since the last reading. -/
  moved : Bool := false
  /-- The span that the restored configuration holds, for a channel that a warm restart keeps at PARK (R327). -/
  restore : Option Nat := none
deriving DecidableEq, Repr

/-- The bank-wide state of the bias DACs. -/
structure BdacBank where
  ch : List (Nat × Bdac) := []
  /-- Channels that a strobe or the timer loads at the next update tick (R331, R332). -/
  load : List Nat := []
  ttDone : Bool := false
deriving DecidableEq, Repr

/-! ### Carve (chapter 10) -/

/-- Targets of actions (R238, R248). -/
inductive Target where
  | tgpio (n : Nat)
  | rffe (m usid addr : Nat)
  | bdac (c : Nat)
  | group (g : Nat)
deriving DecidableEq, Repr

/-- Action states (R242). -/
inductive ActSt where
  | pending | deferred | executed | cancelled | discarded | onBus
deriving DecidableEq, Repr

/-- A queued action. -/
structure CAct where
  target : Target
  xw : Bool
  val : Nat
  inv : Option Nat
  gated : Bool
  /-- Frame time of execution (modulo 256 frames). -/
  time : Nat
  st : ActSt
  /-- Execution order. -/
  ord : Nat
deriving DecidableEq, Repr

/-- An open epoch (R242). -/
structure Epoch where
  /-- Epoch number 0–255. -/
  num : Nat
  /-- Order in which epochs entered the queue. -/
  ord : Nat
  /-- Its template; none for a FIXED epoch. -/
  tpl : Option Nat
  confirmed : Bool
  rise : Bool
  setconf : Bool
  cslice : Nat
  wOpen : Nat
  wClose : Nat
  fallN : Nat
  windowOpen : Bool
  windowShut : Bool
  acts : List CAct
deriving DecidableEq, Repr

/-- An execution on a target while epochs are open (R248, R250). -/
structure CrvExec where
  target : Target
  /-- The epoch's order, and the execution order. -/
  ord : Nat
  n : Nat
  /-- The core cycle of the execution, and what was written. -/
  core : Nat
  xw : Bool
  val : Nat
deriving DecidableEq, Repr

/-- Carve. -/
structure Carve where
  epochs : List Epoch := []
  /-- Executions on each target while epochs are open (R248). -/
  log : List CrvExec := []
  execCtr : Nat := 0
  ordCtr : Nat := 0
  confCnt : Nat := 0
  contraCnt : Nat := 0
  skipFull : Nat := 0
  skipLate : Nat := 0
  discard : Nat := 0
  invSkip : Nat := 0
  /-- Per template: contradicted run and epochs opened. -/
  tplRun : List (Nat × Nat) := []
  tplCnt : List (Nat × Nat) := []
  /-- Edges that a template has taken and that lie ahead or less than a bin back: template, source of the edge and frame time (R244). -/
  taken : List (Nat × Nat × Nat) := []
deriving DecidableEq, Repr

/-! ### Slices (chapters 5 and 6) -/

/-- The states of a slice (R138). -/
inductive SlSt where
  | idle | queued | powering | settling | active | draining | shed | failed
deriving DecidableEq, Repr

/-- The state codes of R138. -/
def SlSt.code : SlSt → Nat
  | .idle => 0 | .queued => 1 | .powering => 2 | .settling => 3 | .active => 4 | .draining => 5 | .shed => 6 | .failed => 7

/-- The slice mute (R136). -/
inductive MuteSt where
  | closed | opening | open_ | closing
deriving DecidableEq, Repr

/-- What a suppressed slice waits for before its settle count starts (R154). -/
inductive Await where
  | counting | boundary
  /-- The lock of the RX synthesiser, of the TX synthesiser, or of both. -/
  | lock (rx tx : Bool)
  | cal | range | set | spare
deriving DecidableEq, Repr

/-- The configuration in effect: class, source, sink and NCO words (R123, R124). -/
structure SlEff where
  cls : Nat := 0
  src : Nat := 0
  sink : Nat := 4
  rx : Nat := 0
  tx : Nat := 0
deriving DecidableEq, Repr

/-- The record a slice closed at the last boundary (R137, R193). -/
structure Meas where
  seq : Nat := 0
  valid : Bool := false
  /-- 0.01 dBm at the input plane; none reads 0x8000. -/
  rms : Option Int := none
  peak : Option Int := none
  raw : Nat := 0
  /-- The presence detector reported signal in the period. -/
  pres : Bool := false
  /-- Frame time at which the measured samples began to cross the RX pin (R152). -/
  start : Nat := 0
  sysg : Option Int := none
  /-- The gains in effect in the period: digital and composite (R195). -/
  gain : Int := 0
  comp : Int := 0
deriving DecidableEq, Repr

/-- The glaze of a slice (R159 to R165): false is bank A. -/
structure Glaze where
  live : Bool := false
  /-- LEN of a request that waits for its boundary, of the fade that runs, and of the pending request. -/
  wait : Option Nat := none
  fade : Option Nat := none
  pend : Option Nat := none
  lost : Nat := 0
  /-- Core cycle at which the running fade began, and at which the waiting request was accepted. -/
  since : Nat := 0
  reqAt : Nat := 0
deriving DecidableEq, Repr

/-- A ramp of the slice mute (R136): the detector time of the first sample it acts on, the level it starts from in steps of 1/32, and
its direction. -/
structure MuteRamp where
  at_ : Nat
  from_ : Nat
  up : Bool
deriving DecidableEq, Repr

/-- A logical slice. -/
structure Slice where
  st : SlSt := .idle
  /-- The spare that carries the slice; none when it runs on its own physical slice. -/
  phys : Option Nat := none
  setWait : Bool := false
  rangeHold : Bool := false
  eff : SlEff := {}
  /-- An accepted change of CLASS, SRC, SINK or an NCO word takes effect at the next boundary. -/
  chg : Bool := false
  /-- The presence detector reports signal, and presence windows without signal in a row (R135). -/
  pres : Bool := false
  noSig : Nat := 0
  /-- Core cycle of the last presence report (R245). -/
  presAt : Nat := 0
  /-- Signal was reported in the present period. -/
  seen : Bool := false
  mute : MuteSt := .closed
  /-- The ramps of the mute since it was last open or closed, newest first (R136). -/
  ramps : List MuteRamp := []
  /-- Core cycles at which the RX and TX NCO phases were zero (R123). -/
  rxAt : Nat := 0
  txAt : Nat := 0
  /-- The branches of its set start their NCO phases together with the next settle count (R123). -/
  phaseDue : Bool := false
  suppressed : Bool := false
  /-- Suppression has been in force in the present period (R156). -/
  supHit : Bool := false
  await : Await := .boundary
  cause : Nat := 0
  /-- The settle count: core cycle of its start and its samples (R155); 0 when not counting. -/
  setFrom : Nat := 0
  setCnt : Nat := 0
  /-- A DRAINING slice drains for a shed; its ramp has been skipped or ended (R141, R158). -/
  forShed : Bool := false
  flushOnly : Bool := false
  /-- The closing ramp under way is the one the drain started (R34, R140). -/
  drainRamp : Bool := false
  /-- Charged SU and pool blocks (R120, R143). -/
  su : Nat := 0
  dlBlk : Nat := 0
  cnlBlk : Nat := 0
  gz : Glaze := {}
  doze : Bool := false
  meas : Meas := {}
  /-- The bin powers of the last period (linear), none where missing or invalid (R227). -/
  bins : List (Option Rat) := []
deriving DecidableEq, Repr

/-- An IQ capture (R145). -/
structure Capture where
  /-- Blocks held. -/
  blocks : Nat := 0
  armed : Bool := false
  running : Bool := false
  done : Bool := false
  /-- The samples recorded, as words of I and Q. -/
  samples : List Nat := []
deriving DecidableEq, Repr

/-- The shared pool and the latency of each direction in effect. -/
structure Pool where
  failCnt : Nat := 0
  cap : Capture := {}
  /-- N_lat registers in effect (SLC_LAT), 0.01 µs. -/
  latDl : Nat := 300
  latUl : Nat := 300
  /-- An accepted latency write takes effect at the next boundary, per direction. -/
  chgDl : Bool := false
  chgUl : Bool := false
deriving DecidableEq, Repr

/-! ### The loop engine, Glide and Stencil (chapters 8 and 9) -/

/-- The modes of a loop (R206, R208). -/
inductive LMode where
  | open_ | manual | auto | hold
deriving DecidableEq, Repr

/-- The mode codes of R206. -/
def LMode.code : LMode → Nat
  | .open_ => 0 | .manual => 1 | .auto => 2 | .hold => 3

/-- What a Glide profile shapes (R218). -/
inductive Shape where
  | stopped | setPoint | output
deriving DecidableEq, Repr

/-- A Glide profile: position, velocity and acceleration in 2^-16 of the shaped unit; the target in units. -/
structure Glide where
  pos : Int := 0
  vel : Int := 0
  acc : Int := 0
  tgt : Int := 0
  shape : Shape := .stopped
  followLo : Bool := false
deriving DecidableEq, Repr

/-- The record a loop finds at a boundary (R193, R195, R197). -/
structure LRec where
  seq : Nat
  raw : Nat
  y : Int
  /-- Usable for the integrator. -/
  valid : Bool
  /-- May count as frozen: VALID = 1 with signal or active samples, and a source with frozen detection (R211). -/
  frz : Bool
  /-- The pin-plane start time of R152; 0 for a record that carries none. -/
  start : Nat := 0
deriving DecidableEq, Repr

/-- The HOLD causes of LOOP_ISTAT. -/
inductive LCause where
  | none_ | miss | frozen | ovr
deriving DecidableEq, Repr

/-- The cause codes of LOOP_ISTAT. -/
def LCause.code : LCause → Nat
  | .none_ => 0 | .miss => 1 | .frozen => 2 | .ovr => 3

/-- A loop instance. -/
structure Loop where
  mode : LMode := .open_
  /-- An accepted MODE write, a restore (R208) or a re-arm (R215) that takes effect at the next boundary. -/
  want : Option LMode := none
  /-- The change that waits is a return to AUTO after a shed (R208). -/
  back : Bool := false
  /-- The manual value of a slice loop last accepted, and an accepted manual value that becomes the output of an OPEN
  loop at the next boundary (R207). -/
  man : Option Int := none
  manGo : Bool := false
  /-- The integrator with 8 fractional bits (R201), the output in effect and the staged one. -/
  u : Int := 0
  out : Int := 0
  staged : Option Int := none
  /-- The output before its last change, and the core cycle of the change: the gain ramps between them (R133, R189). -/
  outWas : Int := 0
  outAt : Nat := 0
  /-- HI and LO of the last boundary; none before the first one. -/
  lims : Option (Int × Int) := none
  /-- Set-point, manual value and Glide limits in effect since the last boundary. -/
  sp : Int := -32768
  manNow : Int := 0
  vmax : Nat := 1000
  amax : Nat := 10000
  jmax : Nat := 0
  glide : Glide := {}
  /-- The profile before this period's step (R214). -/
  glideWas : Option Glide := none
  /-- The record to compute from, and whether the loop computes in this period. -/
  rec_ : Option LRec := none
  computes : Bool := false
  /-- Boundaries since the loop entered MANUAL or AUTO, modulo PER. -/
  phase : Nat := 0
  lastSeq : Option Nat := none
  lastRaw : Option Nat := none
  /-- The sequence number of the last record that closed for the loop in OPEN, where it uses none. -/
  seenSeq : Option Nat := none
  /-- Consecutive missing loop periods, consecutive frozen records, and whether each condition persists. -/
  missRun : Nat := 0
  frzRun : Nat := 0
  persists : Bool := false
  missCnt : Nat := 0
  holdCnt : Nat := 0
  cause : LCause := .none_
  timeout : Bool := false
  held : Nat := 0
  fe : Bool := false
  feCnt : Nat := 0
  shedAuto : Bool := false
  frz : Bool := false
  valid : Bool := false
  /-- GSP and E of the last computed period. -/
  gsp : Option Int := none
  err : Int := 0
  yLast : Option Int := none
deriving DecidableEq, Repr

/-- The loop engine. -/
structure Engine where
  ovrCnt : Nat := 0
  ovrRun : Nat := 0
  load : Nat := 0
  loadPk : Nat := 0
  /-- LOOP_LUT tables written since their last table record (R216). -/
  dirty : List Nat := []
  /-- The records of the last boundary wait to be computed. -/
  due : Bool := false
  /-- LOOP_LUT words written and a bulk transfer served in the present period (R498). -/
  lutWords : Nat := 0
  bulk : Bool := false
  /-- Composite records: sequence number, raw word, power, active samples, per TX chain (R193). -/
  comp : List (Nat × (Nat × Nat × Int × Bool)) := []
deriving DecidableEq, Repr

/-- The states of a Stencil (R231). -/
inductive StnSt where
  | off | wait | learning | armed | relearn
deriving DecidableEq, Repr

/-- The state codes of STN_STAT. -/
def StnSt.code : StnSt → Nat
  | .off => 0 | .wait => 1 | .learning => 2 | .armed => 3 | .relearn => 4

/-- A prediction for one control period (R196): none, an empty window, or occ in 0.01 dB. -/
inductive Pred where
  | none_ | empty | occ (z : Int)
deriving DecidableEq, Repr

/-- A Stencil instance. -/
structure Stencil where
  st : StnSt := .off
  blocks : Nat := 0
  /-- Learned levels L_b (linear power, mW) once seeded, and periods committed since seeding. -/
  lvl : List Rat := []
  seeded : Bool := false
  m : Nat := 0
  /-- Classes and edge bins of the last commit. -/
  cls : List Bool := []
  run : Nat := 0
  bad : Nat := 0
  incomplete : Nat := 0
  rlCnt : Nat := 0
  armCnt : Nat := 0
  withdrawn : Bool := false
  /-- Published edges: FALL, and core cycles from the period start, ascending (R234). -/
  edges : List (Bool × Nat) := []
  edgeOvf : Bool := false
  frame : Nat := 0
  pcnt : Nat := 0
  /-- Observations of the running period so far, oldest first. -/
  obs : List (Option Rat) := []
  /-- Predictions taken at the last boundary and at the one before. -/
  predA : Pred := .none_
  predB : Pred := .none_
deriving DecidableEq, Repr

/-! ### Chains, calibration layers and the Fixative (chapters 4, 11 and 18) -/

/-- The calibration state of a chain (R100). -/
inductive CalSt where
  | uncal | calibrating | done | failed
deriving DecidableEq, Repr

/-- The codes of RXC_STAT.CAL. -/
def CalSt.code : CalSt → Nat
  | .uncal => 0 | .calibrating => 1 | .done => 2 | .failed => 3

/-- An RX or TX chain. -/
structure Chain where
  cal : CalSt := .uncal
  coarse : Bool := false
  stale : Bool := false
  noTap : Bool := false
  clipCnt : Nat := 0
  /-- RXC_PWR: value, raw word and sequence number of the last boundary. -/
  pwr : Option Int := none
  raw : Nat := 0
  seq : Nat := 0
  /-- At some instant of the control period in progress: an RX chain has received (R94), a TX chain has had a slice with its
  mute open or ramping (R193). -/
  heard : Bool := false
  /-- At some instant of the period an RX chain has delivered samples to its slices (R57, R58, R100); a slice has reached a TX
  chain's DACs through all its gates (R26, R27). -/
  fed : Bool := false
  /-- At some instant of the period a TX chain has transmitted in the sense of R271. -/
  sent : Bool := false
  /-- Attenuator and VGA codes in effect (R92, R95). -/
  att : Nat := 63
  vga : Nat := 12
  /-- Digital peak level of a TX chain, 0.01 dBFS (R96). -/
  peak : Int := -20000
  /-- Junction temperature at the last refresh of each corrected quantity (R108): what a gap step refreshes; what a TX tracking
  step refreshes, for an RX chain its DC correction; for an RX chain its I/Q correction. -/
  tGap : Option Int := none
  tTrk : Option Int := none
  tIq : Option Int := none
  /-- How far from the reference temperature of the factory table its coefficients are applied, 0.01 °C (R110, R346). -/
  facD : Int := 0
  /-- The LO (units of R67) whose factory seeds the I/Q and LO-leakage corrections come from; none once measured (R109). -/
  seed : Option Nat := none
  /-- Refreshed in the background since the last retune (R109). -/
  bgGap : Bool := false
  bgTrk : Bool := false
deriving DecidableEq, Repr

/-- The users of the ORX, by the codes of TXC_ORX_STAT (R97). -/
inductive OrxUser where
  | idle | cal | sweep | probe | bg
deriving DecidableEq, Repr

/-- The owner codes. -/
def OrxUser.code : OrxUser → Nat
  | .idle => 0 | .cal => 1 | .sweep => 2 | .probe => 3 | .bg => 4

/-- The observation receiver. -/
structure Orx where
  owner : OrxUser := .idle
  tap : Nat := 0
  att : Nat := 0
  /-- A tap switch is settling; its samples are discarded (R96). -/
  switching : Bool := false
  preempt : Nat := 0
  selfOk : Bool := false
deriving DecidableEq, Repr

/-- The calibration steps with a duration (R101). -/
inductive CalStep where
  | orxSelf
  | rx (g : Nat)
  | tx (c : Nat)
  | rxFlat (g : Nat)
  | txFlat (c : Nat)
deriving DecidableEq, Repr

/-- The start-up or on-request calibration of a group. -/
structure GCal where
  /-- The calibration runs, is an on-request one, or waits for the ORX (R104). -/
  run : Bool := false
  onReq : Bool := false
  pend : Bool := false
  /-- It waits for the group to reach SYNTH. -/
  toSynth : Bool := false
  since : Nat := 0
  /-- Chains of the parallel RX step in progress, the step itself, and whether it repeats. -/
  rxNow : List Nat := []
  rxFlat : Bool := false
  rxAgain : Bool := false
  rxOk : List Nat := []
  /-- TX chains still to calibrate, and the state of the one in hand before its step. -/
  txTodo : List Nat := []
  txWas : CalSt := .uncal
  /-- The ORX has been calibrated for it, or has failed. -/
  orxDone : Bool := false
  orxFail : Bool := false
deriving DecidableEq, Repr

/-- Kinds of background steps. -/
inductive BgKind where
  | rxGap | txGap | txTrack
deriving DecidableEq, Repr

/-- The factory calibration area (R110): per chain, points of frequency (Hz), gain (0.01 dB) and temperature coefficient
(0.0001 dB/°C) about a reference temperature (0.01 °C); per chain, points of frequency with the I/Q and LO-leakage seeds; the
ORX absolute gain (0.01 dB); the trims of the temperature sensors (0.01 °C). -/
structure FactoryCal where
  rx : List (Nat × List (Nat × Int × Int)) := []
  tx : List (Nat × List (Nat × Int × Int)) := []
  ref : Int := 2500
  rxSeed : List (Nat × List (Nat × Cpx × Cpx)) := []
  txSeed : List (Nat × List (Nat × Cpx × Cpx)) := []
  orx : Int := 0
  trims : List (Nat × Int) := []
deriving DecidableEq, Repr

/-- The calibration sequencer. -/
structure CalSeq where
  /-- The factory layer, applied at every start (R110). -/
  fac : FactoryCal := {}
  /-- Start-up has loaded it: from then on the comparators of R351 run. -/
  loaded : Bool := false
  g0 : GCal := {}
  g1 : GCal := {}
  /-- Groups in calibration in the order in which they entered SYNTH. -/
  order : List Nat := []
  /-- The ORX step in progress (self-calibration, TX or TX flatness) and whether it repeats. -/
  now : Option CalStep := none
  again : Bool := false
  bg : Option (BgKind × Nat) := none
  bgCnt : Nat := 0
  /-- Completed background steps that apply at the next boundary (R107). -/
  bgDone : List (BgKind × Nat) := []
  /-- The chain that ran the last background step: 0 RX or 1 TX, and its index (R106). -/
  lastBg : Nat × Nat := (1, 7)
  /-- Core cycle of the end of the last sweep segment on a tap of each group (R493). -/
  sweep0 : Option Nat := none
  sweep1 : Option Nat := none
deriving DecidableEq, Repr

/-- The user calibration area (R111): points of frequency (Hz) and offset (0.01 dB) per RX chain and TX chain, and points
of frequency, G_tap and C_tap per ORX tap. -/
structure UserCal where
  rx : List (Nat × List (Nat × Int)) := []
  tx : List (Nat × List (Nat × Int)) := []
  tap : List (Nat × List (Nat × Int × Int)) := []
  /-- Sensor trims: slope (2^-16) and offset (0.01 °C); the crystal table: 17 points in ppb (R342, R346). -/
  trims : List (Nat × (Int × Int)) := []
  xo : List Int := []
deriving DecidableEq, Repr

/-- A Fixative record (R406). -/
structure Fix where
  version : Nat
  /-- Per TX chain, 0.1 dBm. -/
  pmax : List Int
  gmaxDl : Nat
  gmaxUl : Nat
  margin : Nat
  noiseMax : Int
  duty : Nat
  oorMax : Int
  dl : List (Nat × Nat)
  ul : List (Nat × Nat)
  /-- SHA-256 key hashes of FACTORY, OPERATOR and INSTALLER. -/
  keyF : Nat
  keyO : Nat
  keyI : Nat
deriving DecidableEq, Repr

/-- A slot of the Fixative area (R408): an accepted FIXATIVE command whole, as its signed bytes and its signature, with the CRC-32
over both; and what the command spells: the signing role, PUBKEY and the record. -/
structure FixSlot where
  role : Role
  pub : List Nat
  signed : List Nat
  sig : List Nat
  crc : Nat
  fix : Fix
deriving DecidableEq, Repr

/-! ### The canceller and the isolation probe (chapter 7) -/


/-- The states of a canceller (R172). -/
inductive CnlSt where
  | off | acquire | track | hold | frozen
deriving DecidableEq, Repr

/-- The state codes of CNL_STAT. -/
def CnlSt.code : CnlSt → Nat
  | .off => 0 | .acquire => 1 | .track => 2 | .hold => 3 | .frozen => 4

/-- Coefficients: per reference, the taps. -/
abbrev Coefs := List (Nat × List Cpx)

/-- What the blocks of the running period have added up (R175). -/
structure CnlAcc where
  /-- Blocks in which a reference was present, their samples. -/
  blocks : Nat := 0
  samples : Nat := 0
  /-- Per reference: sums of e[n]·conj(x[n − bulk − k]) and of |x|². -/
  c : Coefs := []
  p : List (Nat × Rat) := []
  est : Rat := 0
  inp : Rat := 0
  err : Rat := 0
  /-- References present in some block, as a mask. -/
  present : Nat := 0
deriving DecidableEq, Repr

/-- The canceller of a slice. -/
structure Cnl where
  st : CnlSt := .off
  w : Coefs := []
  snap : Option Coefs := none
  /-- Reference history, latest sample last (the pool's reference history, R143). -/
  hist : List (Nat × List Cpx) := []
  /-- TAPS, REFMASK, BULK, MU_EXP and LEAK_EXP in effect (R170). -/
  mu : Nat := 10
  leak : Nat := 24
  taps : Nat := 160
  mask : Nat := 15
  bulk : Nat := 0
  chg : Bool := false
  autoFrz : Bool := false
  divCnt : Nat := 0
  /-- Boundary counts of the divergences of the last second in ACQUIRE or TRACK (R172). -/
  divs : List Nat := []
  /-- The D values of the last consecutive periods with reference in ACQUIRE, oldest first, up to 8 (R172). -/
  dSeen : List Int := []
  /-- Boundaries in TRACK since the slice left IDLE, and the boundary of the last divergence (R173). -/
  trackCnt : Nat := 0
  lastDiv : Option Nat := none
  fromTrack : Bool := false
  holdCnt : Nat := 0
  noRef : Nat := 0
  /-- It has left OFF in the running period. -/
  young : Bool := false
  /-- A period with reference has been measured since the slice left IDLE (R178). -/
  measured : Bool := false
  iphys : Int := 0
  depth : Int := 0
  /-- I_phys and D as published (R177, R178), and the pin-plane start time attached to the figures. -/
  pubIso : Int := 0
  pubDepth : Int := 0
  start : Nat := 0
  /-- The D that enters i_eff_pub, 0.01 dB, as it falls without reference (R178). -/
  dPub : Int := 0
  valid : Bool := false
  seq : Nat := 0
  ieff : Int := 4000
  ceil : Int := 2800
  pin : Option Int := none
  pout : Option Int := none
  refAbs : Nat := 0
  short : Nat := 0
  prbLim : Bool := false
  prbMode : Bool := false
  acc : CnlAcc := {}
deriving DecidableEq, Repr

/-! ### Patrol (chapter 11) -/

/-- The causes of a slice mute, by MCAUSE (R262). -/
inductive MCause where
  | osc | iso | gain | noise
deriving DecidableEq, Repr

/-- The MCAUSE codes. -/
def MCause.code : MCause → Nat
  | .osc => 1 | .iso => 2 | .gain => 3 | .noise => 4

/-- The causes of a trim, by TCAUSE. -/
inductive TCause where
  | osc | iso | cpwr | noise
deriving DecidableEq, Repr

/-- The TCAUSE codes. -/
def TCause.code : TCause → Nat
  | .osc => 1 | .iso => 2 | .cpwr => 3 | .noise => 4

/-- The causes of a direction mute, by their bits in DL_CAUSE and UL_CAUSE. -/
inductive DCause where
  | emis | cpwr | duty | dloss
deriving DecidableEq, Repr

/-- The causes of a STOP, by their bits in STOP_CAUSE (R273). -/
inductive SCause where
  | pin | tow | local_ | esc | self | fix
deriving DecidableEq, Repr

/-- Patrol's state of a slice (R259 to R267). -/
structure PSlice where
  trims : List (TCause × Int) := []
  mutes : List MCause := []
  /-- The gate attenuation of an onset is in force; the gain at the onset waits for its trim (R264). -/
  gate : Bool := false
  onset : Option Int := none
  /-- Boundaries since the trim limit of the last onset was set, frames without onset, and whether the running frame has had one. -/
  oscAge : Option Nat := none
  oscFrames : Nat := 0
  oscHit : Bool := false
  /-- Blocks count again from this core cycle. -/
  from_ : Nat := 0
  /-- Consecutive rising blocks and the last block power; the consecutive blocks that carry a line, latest first: bin and power. -/
  rise : Nat := 0
  lastP : Option Rat := none
  lines : List (Nat × Rat) := []
  isoBad : Nat := 0
  isoGood : Nat := 0
  margin : Option Int := none
  noiseOver : Nat := 0
  noiseGood : Nat := 0
  /-- The bins of the running frame: IDLE and not edge in an armed Stencil, and the power. -/
  bins : List (Bool × Rat) := []
deriving DecidableEq, Repr

/-- The phases of a STOP (PTL_STAT.STOP_PH). -/
inductive StopPh where
  | none_ | stopping | stopped | releasing
deriving DecidableEq, Repr

/-- The phase codes. -/
def StopPh.code : StopPh → Nat
  | .none_ => 0 | .stopping => 1 | .stopped => 2 | .releasing => 3

/-- Patrol's counts of a TX chain (R268, R269, R271). -/
structure PChain where
  many : Nat := 0
  good : Nat := 0
  emis : Nat := 0
  pow : Nat := 0
  /-- Periods of the last second in which the chain transmitted: boundary count and samples. -/
  duty : List (Nat × Nat) := []
  shown : Nat := 0
deriving DecidableEq, Repr

/-- Patrol. -/
structure Patrol where
  slices : List (Nat × PSlice) := []
  chains : List (Nat × PChain) := []
  dl : List DCause := []
  ul : List DCause := []
  phase : StopPh := .none_
  causes : List SCause := []
  relPend : Bool := false
  /-- The level at NET_STOP_N. -/
  pinLow : Bool := false
  /-- The copy's CRC-32 did not match the stored one at the last boundary (R256). -/
  copyBad : Bool := false
  /-- The bias DACs have been sent to their parking codes for the STOP (R274). -/
  parkGo : Bool := false
  trimCnt : Nat := 0
  mslCnt : Nat := 0
  mdirCnt : Nat := 0
  stopCnt : Nat := 0
  /-- Boundary counts of the EMIS and CPWR mutes of each direction in the last 60 s (R270). -/
  recentDl : List Nat := []
  recentUl : List Nat := []
  absent : Nat := 0
  present : Nat := 0
  /-- The tap of the segment in progress, the tap whose turn is next, and periods since the last segment. -/
  seg : Option Nat := none
  segBad : Bool := false
  nextTap : Nat := 0
  swpAge : Nat := 0
deriving DecidableEq, Repr

/-! ### Housekeeping and thermal management (chapter 15) -/

/-- A temperature sensor (R342 to R344). -/
structure Sensor where
  /-- The lap reading, 0.01 °C, and the last gate's trimmed reading. -/
  temp : Option Int := none
  gate : Option Int := none
  seq : Nat := 0
  broken : Bool := false
  /-- The last gate count, and how many gates in a row gave it. -/
  count : Option Nat := none
  same : Nat := 0
  /-- Laps in a row more than 25 °C off the median. -/
  off : Nat := 0
  /-- The readings of the gates completed within the sensor's slot, before the trims: sum and number (R342). -/
  gSum : Int := 0
  gCnt : Nat := 0
deriving DecidableEq, Repr

/-- A thermal level with its entry and leaving counts (R347). -/
structure Level where
  on : Bool := false
  enter : Nat := 0
  leave : Nat := 0
deriving DecidableEq, Repr

/-- Thermal management. -/
structure Thermal where
  sens : List (Nat × Sensor) := []
  warn : Level := {}
  thr : Level := {}
  crit : Level := {}
  /-- The thresholds in effect since the last lap end (THM_CFG). -/
  cfg : Nat := 0x64696E47
  tmax : Option Int := none
  /-- Laps since the last shed or restore. -/
  since : Nat := 0
  /-- Shed sets, top first, and whether CRITICAL shed them. -/
  stack : List (Nat × Bool) := []
  sd : Bool := false
  blind : Bool := false
  /-- SHUTDOWN was decided on two hot sensors (R351): THM_SHUTDOWN is live until the next cold start. -/
  hot : Bool := false
  /-- Laps in a row below 100 °C (R352). -/
  cool : Nat := 0
  /-- Crystal correction in effect, ppb. -/
  xo : Int := 0
deriving DecidableEq, Repr

/-- A housekeeping slot result. -/
structure HkSlot where
  valid : Bool := false
  kind : Nat := 0
  code : Nat := 0
  value : Int := 0
  seq : Nat := 0
deriving DecidableEq, Repr

/-- The housekeeping lap (R338 to R341). -/
structure Hk where
  /-- The slot in progress. -/
  slot : Nat := 0
  seq : Nat := 0
  slots : List (Nat × HkSlot) := []
  chkFail : Bool := false
  /-- A check lay outside its window in this lap; consecutive laps with and without one. -/
  chkHit : Bool := false
  chkBad : Nat := 0
  chkGood : Nat := 0
  /-- Slots whose result has been written since the last boundary. -/
  fresh : List Nat := []
  /-- Per supply: consecutive laps outside and inside the window. -/
  supBad : List (Nat × Nat) := []
  supGood : List (Nat × Nat) := []
deriving DecidableEq, Repr

/-! ### The isolation probe (R181 to R186) -/

/-- A run that waits for its frame boundary or is in progress. -/
structure ProbeRun where
  s : Nat
  /-- Bias DAC mode, and the channel it modulates. -/
  dac : Bool
  chan : Nat := 0
  started : Bool := false
  /-- A run of the automatic rotation (R186). -/
  auto : Bool := false
  /-- Frames the run has lasted (R181). -/
  frames : Nat := 0
  /-- Stencil bins of the run's closed periods, and those that qualified (R184). -/
  bins : Nat := 0
  good : Nat := 0
  /-- Bins of the running period that do not qualify, the core cycle of the period up to which they are known, and whether the mute and
  the lock gate are open from there on. -/
  bad : List Nat := []
  seenAt : Nat := 0
  open_ : Bool := false
deriving DecidableEq, Repr

/-- The probe engine. -/
structure Probe where
  run : Option ProbeRun := none
  /-- Frames since the last automatic run, and the slice at which the rotation goes on (R186). -/
  wait : Nat := 0
  next : Nat := 0
  done : Bool := false
  slice : Nat := 0
  count : Nat := 0
  /-- The last result: valid, mode, I_PHYS_P and I_EFF_P in 0.01 dB. -/
  ok : Bool := false
  dac : Bool := false
  iphys : Int := 0
  ieff : Int := 0
  /-- The slice of a valid run that waits for its comparison at the next boundary (R185). -/
  cmp : Option Nat := none
deriving DecidableEq, Repr

/-! ### Frame-time sources (R42 to R50) -/

/-- The edges of FRAME_SYNC or PPS (R42). -/
structure Edge where
  valid : Bool := false
  /-- Consecutive conforming intervals. -/
  run : Nat := 0
  /-- Core cycle of the edge that the next one is measured from. -/
  last : Option Nat := none
deriving DecidableEq, Repr

/-- A timing detector (R48 to R50). -/
structure Detector where
  lock : Bool := false
  nid : Nat := 0
  missCnt : Nat := 0
  /-- Consecutive missed detections. -/
  missRun : Nat := 0
  qual : Nat := 0
  /-- Detections that may pair with the next one, latest first: NID2, core cycle and QUAL. -/
  seen : List (Nat × Nat × Nat) := []
  /-- Core cycle of the last reference event while locked. -/
  last : Nat := 0
  /-- The detector has locked since the last cold start (R49, R499). -/
  warm : Bool := false
deriving DecidableEq, Repr

/-- Frame-time sources and what the device does with them. -/
structure Sources where
  fs : Edge := {}
  pps : Edge := {}
  /-- Core cycle of the last reference event, per source code 1 to 4. -/
  refs : List (Nat × Nat) := []
  /-- Boundary count since which a source has been valid without a break. -/
  since : List (Nat × Nat) := []
  active : Nat := 0
  holdover : Bool := true
  /-- A step is due: the core cycle of the new frame boundary, modulo a frame (R43). -/
  step : Option Nat := none
  slewing : Bool := false
  /-- Core cycles by which the period in progress is longer than 122,880 (R43): −1, 0 or 1. -/
  adj : Int := 0
  stepCnt : Nat := 0
  halfAmbig : Bool := false
  det : List (Nat × Detector) := []
  /-- SYN_FT_CFG and the offsets of sources 1 to 4 in effect since the last boundary (R47). -/
  cfg : Nat := 0x0A4008D1
  ofs : List (Nat × Nat) := []
  /-- SYN_FT_CFG has been rewritten since the last boundary (R46). -/
  cfgNew : Bool := false
  /-- FRAME_OUT is high (R41), and the pins follow their functions (R450). -/
  out : Bool := false
  open_ : Bool := false
  /-- A step has taken effect in this frame: at most one in a frame; a second condition waits for the next one (R44). -/
  stepped : Bool := false
  again : Bool := false
  /-- A Tow time step, in core cycles, that takes effect with the frame-time step due (R44). -/
  towPend : Option Int := none
deriving DecidableEq, Repr

/-! ### The supervisor (R393 to R408) -/

/-- The states of a supervisor pair (R393). -/
inductive PairSt where
  | active | ready | loading | failed
deriving DecidableEq, Repr

/-- The codes of SUP_HO_STAT. -/
def PairSt.code : PairSt → Nat
  | .active => 0 | .ready => 1 | .loading => 2 | .failed => 3

/-- A pair: its state, the CRC-32 of its firmware section as the image's identity, and its mismatches since cold start. -/
structure Pair where
  st : PairSt
  img : Nat := 0
  strikes : Nat := 0
deriving DecidableEq, Repr

/-- The pairs and a handover. -/
structure Sup where
  a : Pair := { st := .active }
  b : Pair := { st := .ready }
  hoCnt : Nat := 0
  /-- A handover is scheduled; the active pair has stopped accepting writes (R394). -/
  pend : Bool := false
  frozen : Bool := false
  /-- The handover was accepted while an authorised command was verified or applied, which has not ended (R395). -/
  held : Bool := false
  /-- The new active pair has not beaten yet; the outgoing pair is B when true (R395). -/
  waitBeat : Option Bool := none
deriving DecidableEq, Repr

/-- The command buffer and its results (R401 to R405). -/
structure Auth where
  /-- Words of the open buffer: block × 1,024 + index. -/
  words : List (Nat × Word) := []
  /-- Which nonce of the part is in force. -/
  nonce : Nat := 0
  /-- A command has been submitted and waits to be verified. -/
  submit : Option By := none
  /-- The pair that a submitted FIRMWARE command loads: B when true (R393). -/
  loads : Option Bool := none
  lock : Bool := false
  failCnt : Nat := 0
  rejCnt : Nat := 0
  result : Nat := 0
  /-- Consecutive failures that count towards the lockout. -/
  run : Nat := 0
deriving DecidableEq, Repr

/-! ### Retained state and start-up (chapter 17) -/

/-- A Lodge record (R383). -/
structure LdgRec where
  seq : Nat
  opt : Nat
  pwrcyc : Nat
  recNext : Nat
  mark : Nat
  markSeq : Nat
  commitOk : Bool
  pfCnt : Nat
  /-- The CRC-32 over bytes 0 to 59. -/
  crc : Nat := 0
deriving DecidableEq, Repr

/-- A retained configuration (R384), in fields. -/
structure RetCfg where
  seq : Nat
  configId : Nat
  /-- Outputs in effect, latched slice mutes, direction mutes (DL, UL), STOP causes, live banks, and the CRC lists. -/
  outs : List Int
  mutes : List (Nat × MCause)
  dl : List DCause
  ul : List DCause
  stops : List SCause
  liveB : List Nat
  bankCrc : List Nat
  lutCrc : List Nat
  tplCrc : List Nat
  snapCrc : List Nat
  /-- The register runs, as addresses and words that differ from reset. -/
  runs : List (Nat × Word)
  /-- The CRC-32 of the body and the CRC-32 over bytes 0 to 59 of the header. -/
  crcBody : Nat := 0
  crcHdr : Nat := 0
deriving DecidableEq, Repr

/-- A configuration commit in progress: what it writes, segments left before the header, and whether a segment is retried. -/
structure Commit where
  cfg : RetCfg
  left : Nat
  retried : Bool
deriving DecidableEq, Repr

/-- The retained area. -/
structure Retained where
  cfgA : Option RetCfg := none
  cfgB : Option RetCfg := none
  ldgA : Option LdgRec := none
  ldgB : Option LdgRec := none
  /-- The copies chosen last: B when true. -/
  cfgSel : Bool := false
  ldgSel : Bool := false
  job : Option Commit := none
  /-- A trigger fell during the commit in progress. -/
  again : Bool := false
  disc : Bool := false
  failCnt : Nat := 0
  /-- A batch has been journalled since the last commit began. -/
  dirty : Bool := false
deriving DecidableEq, Repr

/-- The phases of SUP_BOOT. -/
inductive BootPh where
  | rom | nvm | flash | verify | apply | enable | run | fallback
deriving DecidableEq, Repr

/-- The phase codes. -/
def BootPh.code : BootPh → Nat
  | .rom => 0 | .nvm => 1 | .flash => 2 | .verify => 3 | .apply => 4 | .enable => 5 | .run => 6 | .fallback => 7

/-- How the flash port reads (R9, R372): 1-1-4 or 1-1-1, with 4-byte or 3-byte addresses, at a clock in kHz; `basic` is
instruction 0x03, for a flash without valid SFDP tables. -/
structure FlashRead where
  basic : Bool := false
  quad : Bool := false
  addr4 : Bool := false
  clock : Nat := 50000
deriving DecidableEq, Repr

/-- Start-up. -/
structure Boot where
  phase : BootPh := .rom
  image : Nat := 0
  cfgSrc : Nat := 0
  warm : Bool := false
  /-- How the flash is read; none where no flash has answered (R9, R372). -/
  read : Option FlashRead := none
  rejCnt : Nat := 0
  skipCnt : Nat := 0
  prmId : Nat := 0
  prmSeq : Nat := 0
  /-- Pool blocks that the image occupies while it is applied (R373). -/
  imgBlocks : Nat := 0
  /-- The sampled straps: HEAD, OPT_UP, OPT_DN, PAIR_EN, TEST_MODE in bits 0 to 4. -/
  straps : Nat := 0
  /-- A warm restart has been requested (SUP_CTL.WARM, a DEVICE escalation). -/
  warmReq : Bool := false
deriving DecidableEq, Repr

/-- The write of the user calibration area in progress (R112, R113). -/
structure UcalJob where
  image : UserCal
  crc : Nat
  /-- Bytes of the image, segments still to write, and whether a segment is being retried. -/
  len : Nat
  left : Nat
  retried : Bool := false
  by_ : By
deriving DecidableEq, Repr

/-! ### Moves to spares (R390 to R392) -/

/-- A replacement that runs or waits: the slice, back to its own physical slice or to a spare, by escalation, and the record
that its shadow names as parent. -/
structure Move where
  s : Nat
  ret : Bool
  esc : Bool
  parent : Nat
deriving DecidableEq, Repr

/-- Spares. -/
structure Spares where
  now : Option Move := none
  /-- The spare the running replacement goes to. -/
  dest : Option Nat := none
  waiting : List Move := []
  /-- Slices whose copy has been completed since the last boundary: their suppression begins at the next one (R390). -/
  moved : List Nat := []
  /-- Physical slices out of service after an escalation, and parked ones. -/
  oos : List Nat := []
  parked : List Nat := []
  last : Nat := 0
deriving DecidableEq, Repr

/-! ### Service ports (R13, R14, R482) -/

/-- The JTAG instructions. -/
inductive JtagIr where
  | extest | sample | idcode | bypass | regAccess
deriving DecidableEq, Repr

/-- The JTAG port: the instruction in effect, the boundary-scan cells and what EXTEST drives, the one-bit bypass register,
the identification word shifted out, and the REG_ACCESS data register with the access in progress. -/
structure Jtag where
  ir : JtagIr := .bypass
  cells : List Bool := []
  /-- The pin levels captured by SAMPLE/PRELOAD, to be shifted out. -/
  scan : List Bool := []
  drive : Option (List Bool) := none
  bypassBit : Bool := false
  idWord : Option Word := none
  /-- The access in progress: write, address, data. -/
  acc : Option (Bool × Nat × Word) := none
  done : Bool := false
  result : Nat := 0
  data : Word := 0#32
  /-- The data register as loaded at Capture-DR: DONE, RESULT, data. -/
  dr : Bool × Nat × Word := (false, 0, 0#32)
  /-- TEST_MODE was low at the rising edge of RESET_N. -/
  open_ : Bool := true
deriving DecidableEq, Repr

/-- The service SPI: RESULT and discarded-word count of the previous transaction. -/
structure Spi where
  result : Nat := 0
  count : Nat := 0
deriving DecidableEq, Repr

/-! ### The Tow link (chapter 19) -/

/-- A frame (R415, R416): the header fields and the payload bytes. -/
structure Frame where
  type : Nat
  last : Bool := false
  timed : Bool := false
  lock : Bool := false
  dst : Nat
  src : Nat := 0
  epoch : Nat := 0
  seq : Nat := 0
  hops : Nat := 0
  arg : Nat := 0
  pay : List Nat := []
deriving DecidableEq, Repr

/-- The link states (R413). -/
inductive LinkSt where
  | down | training | up
deriving DecidableEq, Repr

/-- The codes of TOW_PORT_STAT.LINK. -/
def LinkSt.code : LinkSt → Nat
  | .down => 0 | .training => 1 | .up => 2

/-- What a port's transmitter does between frames (R413), a burst of IDLE sets in a silence among it; off in reset and until it is enabled (R450). -/
inductive LineSt where
  | off | idle | static | training | burst
deriving DecidableEq, Repr

/-- A queued frame: forwarded or the device's own. -/
structure QFrame where
  f : Frame
  own : Bool
  /-- The mailbox sent it (TOW_HEAD_MBX). -/
  mbx : Bool := false
deriving DecidableEq, Repr

/-- A port. -/
structure Port where
  link : LinkSt := .down
  downCnt : Nat := 0
  crcErr : Nat := 0
  queue : List QFrame := []
  /-- The frame on the line while busy, else the last one sent, and whether that one ended in ABORT (R417). -/
  sent : Option Frame := none
  busy : Bool := false
  mbx : Bool := false
  cut : Bool := false
  /-- It is the first frame after a silence on an optical port, and the module loses it (R413, A0 item 4). -/
  lost : Bool := false
  /-- IDLE sets that went ahead of the frame on the line, since it is the first after a silence (R413). -/
  lead : Nat := 0
  line : LineSt := .idle
  /-- Core cycle at which the last burst began, of training or in a silence. -/
  trainAt : Nat := 0
deriving DecidableEq, Repr

/-- The states of TOW_ID. -/
inductive TowSt where
  | unaddressed | addressed | bench | head
deriving DecidableEq, Repr

/-- The state codes. -/
def TowSt.code : TowSt → Nat
  | .unaddressed => 0 | .addressed => 1 | .bench => 2 | .head => 3

/-- A book entry of the head (R423, R424). -/
structure BookEntry where
  uid : Nat
  addr : Nat
  epoch : Nat
  /-- P of the last HEARTBEAT in ms, Tow time of its arrival, which a step of Tow time shifts with it, and the state it showed. -/
  per : Nat := 100
  seen : Int := 0
  state : Nat := 0
deriving DecidableEq, Repr

/-- A timed WRITE that waits (R434): Tow time, runs, sender, broadcast. -/
structure TimedWrite where
  at_ : Nat
  frame : Frame
deriving DecidableEq, Repr

/-- A gather (R439, R440). -/
structure Gather where
  id : Nat
  at_ : Nat
  reg0 : Nat
  reg1 : Nat
  nblk : Nat
  gap : Nat
  result : Option (Nat × Nat) := none
  sent : Bool := false
  /-- T_G had passed when the request arrived: no result is taken. -/
  late : Bool := false
deriving DecidableEq, Repr

/-- The pair token (R429 to R433). -/
structure Token where
  hold : Bool := false
  line : Bool := false
  /-- With PAIR_EN: the line has read low for 10 µs since the token was taken (R431, R433). -/
  gate : Bool := false
  acqCnt : Nat := 0
  /-- Attempts are blocked for 10 s after a REL; acquisition has been allowed since the enabling pass or a promotion. -/
  blocked : Bool := false
  allowed : Bool := false
  /-- The gate has closed and the line is to be released 2 µs later. -/
  letting : Bool := false
  /-- Core cycle since which the wait of R431 has run. -/
  since : Option Nat := none
deriving DecidableEq, Repr

/-- The Tow link of the device. -/
structure Tow where
  up : Port := {}
  dn : Port := {}
  st : TowSt := .unaddressed
  addrV : Bool := false
  addr : Nat := 0
  epoch : Nat := 0
  /-- Tow time of the last HEARTBEAT, or of the address's arrival (R424). -/
  beatAt : Nat := 0
  /-- The epoch table: address and epoch; absent is unknown. -/
  table : List (Nat × Nat) := []
  fenced : Nat := 0
  drop : Nat := 0
  epochRej : Nat := 0
  evtLost : Nat := 0
  /-- BENCH frames sent for an address and epoch, with the core cycle (R425). -/
  benched : List (Nat × Nat × Nat) := []
  /-- Sequence number of the next own frame; EVENT tokens (R438), in units of 1/100 with the core cycle of the last refill. -/
  seq : Nat := 0
  tokens : Nat := 64
  tokenAt : Nat := 0
  timed : List TimedWrite := []
  /-- Frames held during a handover (R394, R437). -/
  held : List Frame := []
  /-- BULK: the SEQ expected next, and whether its NAK has been sent. -/
  bulkSeq : Option Nat := none
  bulkNak : Bool := false
  gather : Option Gather := none
  /-- Tow time discipline (R442 to R445). -/
  locked : Bool := false
  wasLocked : Bool := false
  stepCnt : Nat := 0
  ofs : Int := 0
  okRun : Nat := 0
  /-- Correction still to slew, in 2^-16 core cycles. -/
  slew : Int := 0
  hops : Nat := 0
  /-- The outstanding DELAY request's stamp; the last measurements in 2^-16 core cycles, latest first. -/
  t1 : Option Nat := none
  delays : List Int := []
  tok : Token := {}
  /-- The head: book, counters, dead addresses, the RX queue. -/
  book : List BookEntry := []
  nextFree : Nat := 1
  epochCtr : Nat := 1
  dead : List Nat := []
  rx : List Frame := []
  rxLost : Nat := 0
  noAddr : Bool := false
deriving DecidableEq, Repr

/-! ### The clock (chapter 2) -/

/-- Frame time, Tow time and the count of core cycles. -/
structure Clock where
  /-- Frame number, 0 to 255, and frame-time cycle at the last boundary. -/
  frame : Nat := 0
  cyc : Nat := 0
  /-- Core cycles since the last boundary, as far as the commands have told. -/
  ofs : Nat := 0
  /-- Core cycles since the start at the last boundary, and boundaries since the start. -/
  core : Nat := 0
  periods : Nat := 0
  /-- Tow time at the last boundary, and its fraction in 2^-16 core cycles. -/
  tow : Nat := 0
  towFrac : Nat := 0
deriving DecidableEq, Repr

/-! ### The device -/

/-- What no register write and no engine reaches: operating time, the power-cycle count, the fused identity, the pins
sampled at reset, and what the board holds. -/
structure Env where
  opt : Nat := 0
  pwrcyc : Nat := 0
  uid : Nat := 0
  factory : Bool := false
  /-- The levels the board's pulls give the TGPIO pins. -/
  pulls : Nat := 0
  /-- MAIN_EN enables the regulators of the core's supplies; false on a board that leaves the pin unconnected (R454). -/
  mainEnWired : Bool := true
  /-- Patrol's copy of the Fixative (R256): the Fixative in force. -/
  fix : Option Fix := none
  /-- The two slots of the Fixative area, the slot in use (1 when true), and an update that waits for its boundary (R408). -/
  slot0 : Option FixSlot := none
  slot1 : Option FixSlot := none
  slotSel : Bool := false
  fixPend : Option By := none
deriving DecidableEq, Repr

/-- Everything else. -/
structure Dev where
  /-- The register file: byte address and word, rising addresses, no entry equal to the register's reset word. -/
  regs : List (Nat × Word) := []
  clk : Clock := {}
  rcd : Recorder := {}
  flt : Faults := {}
  pwr : Power := {}
  groups : List (Nat × Group) := []
  synths : List (Nat × Synth) := []
  rffe : List (Nat × Rffe) := []
  tgpio : List (Nat × Tgpio) := []
  bdac : BdacBank := {}
  crv : Carve := {}
  slices : List (Nat × Slice) := []
  pool : Pool := {}
  loops : List (Nat × Loop) := []
  eng : Engine := {}
  stn : List (Nat × Stencil) := []
  cnl : List (Nat × Cnl) := []
  orx : Orx := {}
  cal : CalSeq := {}
  rxc : List (Nat × Chain) := []
  txc : List (Nat × Chain) := []
  ucal : UserCal := {}
  /-- Pool blocks of the open command buffer (R401). -/
  authBlocks : Nat := 0
  ptl : Patrol := {}
  thm : Thermal := {}
  hk : Hk := {}
  prb : Probe := {}
  src : Sources := {}
  sup : Sup := {}
  auth : Auth := {}
  ret : Retained := {}
  boot : Boot := {}
  /-- The user calibration area (R113): contents, validity, CRC-32 in the header, a new area that takes effect at the next
  boundary, and a write in progress. A new part's area is valid and empty; `ucal` is the layer applied. -/
  ucalArea : UserCal := {}
  ucalOk : Bool := true
  ucalCrc : Nat := 0
  ucalNew : Bool := false
  ucalJob : Option UcalJob := none
  spr : Spares := {}
  jtag : Jtag := {}
  spi : Spi := {}
  tow : Tow := {}
  /-- The high words latched by a read of LDG_OPT_LO and of TOW_TIME_LO (R488). -/
  hiOpt : Nat := 0
  hiTow : Nat := 0
  /-- The words that the last read or transaction returned. -/
  answer : List Word := []
  /-- A value that the rules leave open has been used this many times. -/
  free : Nat := 0
deriving DecidableEq, Repr

/-- The state of the block: the environment it stands in, the device, and the commands that wait, first in, first out. -/
structure State where
  env : Env
  dev : Dev
  pending : List Instr
deriving DecidableEq, Repr

/-- The machine right after reset: every register at the value of the register summary (R20) and every engine at rest, in
phase ROM of R370, with nothing retained, recorded or programmed and no command waiting. What the manual gives no value
for is named in notes/assumptions. -/
def State.reset : State := { env := {}, dev := {}, pending := [] }

/-- Reasons to stop with a fault. There is none: an access to an address that no register occupies has the effect R18
gives it, and every other condition of the manual has an effect too. -/
inductive Fault where
deriving DecidableEq, Repr

/-- Reasons to give a command no meaning. -/
inductive Refusal where
  /-- Raised by an arm of `exec` whose command has no meaning yet. Safe: nothing can be proved about such a step but that it
  is refused. -/
  | notModelled (mnemonic : String)
deriving DecidableEq, Repr

end Sys2Proof.Machine
end

