-- ==== Sys2Proof/Machine/Regs.lean ====
section
/-! DEFINITION. Access to the register file: finding a register by its address (R18, R486, R487), its reset word (R20),
and reading and changing its stored word and fields. -/
namespace Sys2Proof.Machine

/-- A register instance. -/
structure Reg where
  name : RegName
  i : Nat
  j : Nat
deriving DecidableEq, Repr

/-- The byte address of instance `i`, word `j` of a register (R487). -/
def RegName.addr (n : RegName) (i j : Nat) : Nat := n.place.base + n.place.stride * i + n.place.stride2 * j

/-- The instance of register `n` that lies at address `a`, if one does. -/
def RegName.at? (n : RegName) (a : Nat) : Option Reg :=
  let p := n.place
  if a < p.base then none
  else
    let off := a - p.base
    let i := off / p.stride
    let r := off % p.stride
    let j := r / p.stride2
    if i < p.n ∧ r % p.stride2 = 0 ∧ j < p.n2 then some ⟨n, i, j⟩ else none

/-- The source code of the block in whose extent an address lies: the block's base shifted right by 16, or 0xFF above
every block (R486). -/
def blockOf (a : Nat) : Nat :=
  let h := a / 0x10000
  if h ≥ 0x100 then 0xFF else if h ≥ 0xF0 then 0xF0 else if h ≥ 0x88 then 0x88 else if h ≥ 0x80 then 0x80
  else if h ≥ 0x78 then 0x78 else if h ≥ 0x70 then 0x70 else if h ≥ 0x68 then 0x68 else if h ≥ 0x60 then 0x60
  else if h ≥ 0x58 then 0x58 else if h ≥ 0x50 then 0x50 else if h ≥ 0x48 then 0x48 else if h ≥ 0x40 then 0x40
  else if h ≥ 0x3C then 0x3C else if h ≥ 0x38 then 0x38 else if h ≥ 0x30 then 0x30 else if h ≥ 0x20 then 0x20
  else if h ≥ 0x10 then 0x10 else if h ≥ 5 then 5 else h

/-- The first register of a list that an address falls on. -/
def findIn : List RegName → Nat → Option Reg
  | [], _ => none
  | n :: ns, a => match n.at? a with
    | some r => some r
    | none => findIn ns a

/-- The register at a byte address, by the register summary alone. -/
def findReg (a : Nat) : Option Reg := findIn (blockRegs (blockOf a)) a

/-- The correction table 0 after reset (R200): clamp(6,400 × (j − 31.5), ±32,767). -/
def lut0 (j : Nat) : Int := clampI (6400 * (j : Int) - 201600) (-32767) 32767

/-- The reset word of a register instance (register summary). The values that no number of the summary gives (fused,
restored, kept, sampled, random, Fixative) are not stored here: those registers are views of typed state. -/
def RegName.resetWord (n : RegName) (i j : Nat) : Word :=
  match n with
  | .SLC_CFG0 => BitVec.ofNat 32 (0x04000000 + 0x100 * i)
  | .SLC_COEF_A => if j = 0 then 0x7FFF#32 else 0#32
  | .LOOP_CFG => if i < 192 then 0x40000064#32 else 0x00000064#32
  | .LOOP_LIM => if i < 192 then 0xF448#32 else if i < 200 then 0xF060#32 else 0#32
  | .LOOP_MAN => if i < 192 then 0#32 else if i < 200 then 0xF060#32 else 0#32
  | .LOOP_LUT => if i = 0 then BitVec.ofNat 32 (fromSigned 16 (lut0 j)) else 0#32
  | n => BitVec.ofNat 32 n.resetBase

/-- The stored word of a register. -/
def Dev.reg (d : Dev) (n : RegName) (i : Nat := 0) (j : Nat := 0) : Word :=
  tget (fun _ => n.resetWord i j) d.regs (n.addr i j)

/-- Store a word; a word equal to the reset word leaves no entry. -/
def Dev.setReg (d : Dev) (n : RegName) (i j : Nat) (w : Word) : Dev :=
  { d with regs := if w = n.resetWord i j then tdel d.regs (n.addr i j)
                   else tput (tdel d.regs (n.addr i j)) (n.addr i j) w }

/-- A field of a word. -/
def Fld.of (f : Fld) (w : Word) : Nat := bitsOf w.toNat f.lo f.len

/-- A one-bit field of a word. -/
def Fld.bit (f : Fld) (w : Word) : Bool := f.of w == 1

/-- A field of a word read as two's complement. -/
def Fld.int (f : Fld) (w : Word) : Int := toSigned f.len (f.of w)

/-- A word with a field replaced. -/
def Fld.into (f : Fld) (v : Nat) (w : Word) : Word := BitVec.ofNat 32 (putBits w.toNat f.lo f.len v)

/-- A stored field of register instance `i`, word `j`. -/
def Dev.get (d : Dev) (f : Fld) (i : Nat := 0) (j : Nat := 0) : Nat := f.of (d.reg f.reg i j)

/-- A stored one-bit field. -/
def Dev.flag (d : Dev) (f : Fld) (i : Nat := 0) (j : Nat := 0) : Bool := f.bit (d.reg f.reg i j)

/-- A stored signed field. -/
def Dev.int (d : Dev) (f : Fld) (i : Nat := 0) (j : Nat := 0) : Int := f.int (d.reg f.reg i j)

/-- Store a field. -/
def Dev.put (d : Dev) (f : Fld) (i : Nat) (v : Nat) : Dev := d.setReg f.reg i 0 (f.into v (d.reg f.reg i 0))

/-- Set a one-bit status field (an error or rejection bit that a write of 1 clears). -/
def Dev.setBit (d : Dev) (f : Fld) (i : Nat := 0) : Dev := d.put f i 1

/-- A status word built from fields. -/
def packF (fs : List (Fld × Nat)) : Word := BitVec.ofNat 32 (packBits (fs.map fun p => (p.1.lo, p.1.len, p.2)))

/-- The canonical form of the register file: rising addresses, every entry an existing register that differs from its
reset word. -/
def regsWf (t : List (Nat × Word)) : Bool :=
  tcanon (fun a => match findReg a with | some r => r.name.resetWord r.i r.j | none => 0#32) t

/-! ### Units of the typed tables -/

def Dev.group (d : Dev) (g : Nat) : Group := tget (fun _ => {}) d.groups g
def Dev.setGroup (d : Dev) (g : Nat) (x : Group) : Dev := { d with groups := tset (fun _ => {}) d.groups g x }
def Dev.synth (d : Dev) (n : Nat) : Synth := tget (fun _ => {}) d.synths n
def Dev.setSynth (d : Dev) (n : Nat) (x : Synth) : Dev := { d with synths := tset (fun _ => {}) d.synths n x }
def Dev.rffeM (d : Dev) (m : Nat) : Rffe := tget (fun _ => {}) d.rffe m
def Dev.setRffe (d : Dev) (m : Nat) (x : Rffe) : Dev := { d with rffe := tset (fun _ => {}) d.rffe m x }
def Dev.pin (d : Dev) (n : Nat) : Tgpio := tget (fun _ => {}) d.tgpio n
def Dev.setPin (d : Dev) (n : Nat) (x : Tgpio) : Dev := { d with tgpio := tset (fun _ => {}) d.tgpio n x }
def Dev.chan (d : Dev) (c : Nat) : Bdac := tget (fun _ => {}) d.bdac.ch c
def Dev.setChan (d : Dev) (c : Nat) (x : Bdac) : Dev :=
  { d with bdac := { d.bdac with ch := tset (fun _ => {}) d.bdac.ch c x } }
/-- Loop `i` after reset: its output is the floor of its kind (LOOP_OUT). -/
def loop0 (i : Nat) : Loop :=
  let z : Int := if i < 192 then -3000 else if i < 200 then -4000 else 0
  { u := 256 * z, out := z, manNow := z }
def Dev.loop (d : Dev) (i : Nat) : Loop := tget loop0 d.loops i
def Dev.setLoop (d : Dev) (i : Nat) (x : Loop) : Dev := { d with loops := tset loop0 d.loops i x }
def Dev.stencil (d : Dev) (n : Nat) : Stencil := tget (fun _ => {}) d.stn n
def Dev.setStencil (d : Dev) (n : Nat) (x : Stencil) : Dev := { d with stn := tset (fun _ => {}) d.stn n x }
def Dev.canc (d : Dev) (s : Nat) : Cnl := tget (fun _ => {}) d.cnl s
def Dev.setCanc (d : Dev) (s : Nat) (x : Cnl) : Dev := { d with cnl := tset (fun _ => {}) d.cnl s x }
def Dev.rxChain (d : Dev) (c : Nat) : Chain := tget (fun _ => {}) d.rxc c
def Dev.setRxChain (d : Dev) (c : Nat) (x : Chain) : Dev := { d with rxc := tset (fun _ => {}) d.rxc c x }
def Dev.txChain (d : Dev) (c : Nat) : Chain := tget (fun _ => {}) d.txc c
def Dev.setTxChain (d : Dev) (c : Nat) (x : Chain) : Dev := { d with txc := tset (fun _ => {}) d.txc c x }
def Dev.slice (d : Dev) (s : Nat) : Slice := tget (fun _ => {}) d.slices s
def Dev.setSlice (d : Dev) (s : Nat) (x : Slice) : Dev := { d with slices := tset (fun _ => {}) d.slices s x }
def Dev.psl (d : Dev) (s : Nat) : PSlice := tget (fun _ => {}) d.ptl.slices s
def Dev.setPsl (d : Dev) (s : Nat) (x : PSlice) : Dev :=
  { d with ptl := { d.ptl with slices := tset (fun _ => {}) d.ptl.slices s x } }
def Dev.pch (d : Dev) (c : Nat) : PChain := tget (fun _ => {}) d.ptl.chains c
def Dev.setPch (d : Dev) (c : Nat) (x : PChain) : Dev :=
  { d with ptl := { d.ptl with chains := tset (fun _ => {}) d.ptl.chains c x } }
def Dev.sensor (d : Dev) (n : Nat) : Sensor := tget (fun _ => {}) d.thm.sens n
def Dev.setSensor (d : Dev) (n : Nat) (x : Sensor) : Dev :=
  { d with thm := { d.thm with sens := tset (fun _ => {}) d.thm.sens n x } }
def Dev.dom (d : Dev) (n : Nat) : Dom := tget (fun _ => {}) d.pwr.doms n
def Dev.setDom (d : Dev) (n : Nat) (x : Dom) : Dev :=
  { d with pwr := { d.pwr with doms := tset (fun _ => {}) d.pwr.doms n x } }

end Sys2Proof.Machine
end

