-- ==== Sys2Proof/Machine/Recorder.lean ====
section
/-! DEFINITION. The recorder (chapter 13): records and their bytes, staging and repeats, flushing, the memory areas and
the change journal. -/
namespace Sys2Proof.Machine

/-! ### Records as bytes -/

/-- Byte 21 of a record: class and flags (R301). -/
def Record.clf (r : Record) : Nat :=
  packBits [(7, 1, b2n r.conseq), (6, 1, b2n r.overflow), (5, 1, b2n r.backward), (4, 1, b2n r.more),
    (3, 1, b2n r.varnish), (0, 3, r.cls.code)]

/-- Bytes 22 and 23: the origin field (R301). -/
def Record.originField (r : Record) : Nat := packBits [(13, 3, r.origin), (11, 2, r.role), (0, 11, r.addr)]

/-- Bytes 16 to 20 (R301, R303). -/
def RecBody.repBytes : RecBody → List Nat
  | .event rep delta _ _ _ _ => leBytes 2 rep ++ leBytes 3 delta
  | .change batch idx ts => leBytes 2 batch ++ [idx % 256, ts.length % 256, 0]
  | .table batch _ _ _ => leBytes 2 batch ++ [0, 0, 0]

/-- The twelve bytes of a triple. -/
def Triple.bytes (t : Triple) : List Nat := leBytes 4 t.addr ++ leBytes 4 t.old ++ leBytes 4 t.new

/-- Bytes 24 to 59 (R302, R303). -/
def RecBody.tail : RecBody → List Nat
  | .event _ _ snap slist inst aux =>
    (sliceBytes snap 0 8).flatMap (leBytes 4) ++ [slist % 256, inst % 256] ++ leBytes 2 aux
  | .change _ _ ts => sliceBytes (ts.flatMap Triple.bytes) 0 36
  | .table _ a b c => sliceBytes (leBytes 4 a ++ leBytes 4 b ++ leBytes 4 c) 0 36

/-- Bytes 0 to 59 of a record (R301). -/
def Record.body60 (r : Record) : List Nat :=
  leBytes 4 r.seq ++ leBytes 6 r.opt ++ leBytes 4 r.pwrcyc ++ leBytes 2 r.code ++ r.body.repBytes ++
    [r.clf] ++ leBytes 2 r.originField ++ r.body.tail

/-- The 64 bytes of a record with its CRC (R301, R12). -/
def Record.bytes (r : Record) : List Nat := r.body60 ++ leBytes 4 (crc32 r.body60)

/-- The sequence number, class and Varnish class of a slot's record are read through the record itself. -/
def Record.isJournal (r : Record) : Bool := match r.body with | .event .. => false | _ => true

/-- The instance of an event record. -/
def Record.inst (r : Record) : Nat := match r.body with | .event _ _ _ _ i _ => i | _ => noInst

/-! ### The snapshot lists (R305) -/

/-- The codes that R305 exempts from snapshots. -/
def snapExempt (code : Nat) : Bool := decide (code ∈ [Ev.TIME_MARK, Ev.CLEAR, Ev.POWER_FAIL, Ev.START])

/-- The lowest-numbered enabled list that matches a code (R305). -/
def snapList (d : Dev) (code : Nat) : Option Nat :=
  (List.range 32).find? fun l =>
    d.flag REC_SNAP_CTL.EN l &&
      Nat.land code (d.get REC_SNAP_SEL.MASK l) == Nat.land (d.get REC_SNAP_SEL.CODE l) (d.get REC_SNAP_SEL.MASK l)

/-- SNAP[0..7] and SLIST of an event (R302, R303, R305) before its list is read: the contents that R303 gives the record
itself, and SNAP[7] of a consequential record, which holds the parent (R302). The list's addresses are read when the step
that triggered the record ends, within the 2 µs of R305. -/
def snapshot (d : Dev) (code : Nat) (conseq : Bool) (parent : Nat) (own : List Nat) : List Nat × Nat :=
  let base := sliceBytes own 0 8
  let sl := if snapExempt code then 0x80 else (snapList d code).getD 0x80
  (if conseq then base.set 7 parent else base, sl)

/-! ### Staging -/

/-- The staging slots in use. -/
def stgUsed (d : Dev) : Nat := (d.rcd.stg.filter fun p => p.2.st ≠ .free).length

/-- Records NEW or DIRTY (R308). -/
def stgDue (d : Dev) : Nat := (d.rcd.stg.filter fun p => p.2.st = .new ∨ p.2.st = .dirty).length

/-- Change the recorder. -/
def Dev.modRcd (d : Dev) (f : Recorder → Recorder) : Dev := { d with rcd := f d.rcd }

/-- Put a staging slot. -/
def Dev.setStg (d : Dev) (k : Nat) (x : Stg) : Dev := d.modRcd fun r => { r with stg := tput (tdel r.stg k) k x }

/-- The entry whose key is least, the earlier one of equals. -/
def leastBy (key : α → Nat × Nat) : List α → Option α
  | [] => none
  | x :: xs => match leastBy key xs with
    | none => some x
    | some y => if (key y).1 < (key x).1 ∨ ((key y).1 = (key x).1 ∧ (key y).2 < (key x).2) then some y else some x

/-- The staging slot a new record takes and whether a record is sacrificed for it (R307). -/
def stgPick (d : Dev) : Option (Nat × Bool) :=
  match (List.range 64).find? (fun k => (d.rcd.stg.lookup k).isNone) with
  | some k => some (k, false)
  | none =>
    match leastBy (fun p => (p.2.last, p.2.r.seq)) (d.rcd.stg.filter fun p => p.2.st = .clean) with
    | some p => some (p.1, false)
    | none =>
      (leastBy (fun p => (p.2.last, p.2.r.seq))
        (d.rcd.stg.filter fun p => (p.2.st = .new ∨ p.2.st = .dirty) ∧ p.2.r.varnish = false)).map fun p => (p.1, true)

/-- Count a lost record (R307). -/
def countLoss (varnish : Bool) (d : Dev) : Dev :=
  d.modRcd fun r =>
    { r with drop := if varnish then r.drop else satN (r.drop + 1) 0xFFFF
             vDrop := if varnish then satN (r.vDrop + 1) 0xFF else r.vDrop
             lost := r.lost + 1 }

/-- Put a record into staging: it takes the next sequence number (R304) and a slot (R307). Answers the number, 0 for a
record that was itself lost, and whether a record was lost. -/
def stageOne (d : Dev) (r : Record) (last : Nat) : Dev × Nat × Bool :=
  match stgPick d with
  | none => (countLoss r.varnish d, 0, true)
  | some (k, sacrifice) =>
    let n := d.rcd.next
    let d1 := if sacrifice then countLoss false d else d
    let d2 := d1.setStg k { st := .new, r := { r with seq := n }, last := last, rewrites := 0, place := none, touched := false }
    (d2.modRcd fun x => { x with next := n + 1, announce := x.announce ++ [n] }, n, sacrifice)

/-- A record with its trigger's time and origin. -/
def mkRecord (e : Env) (code : Nat) (cls : Cls) (by_ : By) (body : RecBody) : Record :=
  { seq := 0, opt := e.opt, pwrcyc := e.pwrcyc, code := code, cls := cls, conseq := false, overflow := false,
    backward := false, more := false, varnish := false, origin := by_.origin.code,
    role := match by_.role with | none => 0 | some r => r.code, addr := by_.addr.val, parent := 0, body := body }

/-- The origin of what the device's own hardware records. -/
def byHw : By := { origin := .hardware }

/-! ### Flushing (R308 to R312) -/

/-- Whether a record takes a Palette token when it is written (R309): Varnish-class records take none. -/
def takesToken (r : Record) : Bool := !r.varnish

/-- A write of this record may start now. -/
def mayWrite (d : Dev) (r : Record) : Bool := !takesToken r || d.rcd.pfail || decide (0 < d.rcd.tokens)

/-- The next Palette slot at or after `k`, skipping failed ones (R312). -/
def nextGood (bad : List Nat) : Nat → Nat → Nat
  | 0, k => k
  | n + 1, k => if k ∈ bad then nextGood bad n ((k + 1) % 8192) else k

/-- Where a record goes: the next Varnish slot, or the next Palette slot, with OVERFLOW for a Varnish-class record that
finds its area full (R300). -/
def allocate (d : Dev) (r : Record) : Dev × Area × Nat × Record :=
  if r.varnish ∧ d.rcd.vUsed < 4096 then
    (d.modRcd fun x => { x with vUsed := x.vUsed + 1 }, .varnish, d.rcd.vUsed, r)
  else
    let k := nextGood d.rcd.bad 8192 d.rcd.pHead
    (d.modRcd fun x => { x with pHead := (k + 1) % 8192 }, .palette, k, { r with overflow := r.varnish })

/-- Where a record goes: a CLEAR record to slot 0 of the area it clears, or to the first slot after it that has not failed
(R312, R319), and any other where `allocate` puts it. -/
def placeOf (d : Dev) (r : Record) : Dev × Area × Nat × Record :=
  if r.code = Ev.CLEAR then
    if r.varnish then (d, .varnish, 0, r) else (d, .palette, nextGood d.rcd.bad 8192 0, r)
  else allocate d r

/-- After SHUTDOWN is decided, a flush in progress writes only what was staged before, until flushes are allowed again; the
power-fail flush writes all (R310, R311, R352). -/
def mayFlush (d : Dev) (r : Record) : Bool :=
  !(d.thm.sd && decide (d.thm.cool < 8) && !d.rcd.pfail) || decide (r.seq < d.rcd.heldFrom)

/-- The DIRTY records that the flush in progress still rewrites in place (R309): those that were DIRTY when a scheduled flush
began, and every one in the power-fail flush. One that turns DIRTY in a scheduled flush waits for the next (R321). -/
def dirtyDue (d : Dev) : List (Nat × Stg) :=
  d.rcd.stg.filter fun p => p.2.st = .dirty && (d.rcd.pfail || decide (p.2.r.seq ∈ d.rcd.inPlace)) && mayFlush d p.2.r

/-- The records that a scheduled flush which begins now rewrites. -/
def dirtyNow (d : Dev) : List Nat := (d.rcd.stg.filter fun p => p.2.st = .dirty).map (·.2.r.seq)

/-- Start the next record write of the flush in progress, or end the flush: NEW records in sequence order first, then the
DIRTY ones in place that are due. A rewrite counts from its start, so that a repeat that falls on the 1,024th makes a new
record (R306, R321). Records that wait for a token keep the flush open. -/
def kick (d : Dev) : Dev :=
  if !d.rcd.flushing || d.rcd.wr.isSome then d
  else
    let news := d.rcd.stg.filter fun p => p.2.st = .new && mayFlush d p.2.r
    let dirt := dirtyDue d
    let spend (r : Record) (d : Dev) : Dev :=
      if takesToken r && !d.rcd.pfail then d.modRcd fun x => { x with tokens := x.tokens - 1 } else d
    match leastBy (fun p => (p.2.r.seq, 0)) (news.filter fun p => mayWrite d p.2.r) with
    | some (k, s) =>
      let (d1, a, slot, r) := placeOf (spend s.r d) s.r
      (d1.setStg k { s with st := .writing, r := r, place := some (a, slot), touched := false }).modRcd fun x =>
        { x with wr := some { stg := k, area := a, slot := slot, image := r, rewrite := false, retried := false } }
    | none =>
      match leastBy (fun p => (p.2.r.seq, 0)) (dirt.filter fun p => mayWrite d p.2.r) with
      | some (k, s) =>
        let (a, slot) := s.place.getD (.palette, 0)
        ((spend s.r d).setStg k { s with st := .writing, touched := false, rewrites := s.rewrites + 1 }).modRcd fun x =>
          { x with inPlace := sdel x.inPlace s.r.seq
                   wr := some { stg := k, area := a, slot := slot, image := s.r, rewrite := true, retried := false } }
      | none =>
        if news.isEmpty && dirt.isEmpty then d.modRcd fun x => { x with flushing := false, inPlace := [], pfail := false }
        else d

/-- A flush trigger (R308), with `rewrite` for the scheduled one; a trigger during a flush joins it. No flush starts after SHUTDOWN until T_max has stayed below
100 °C for 8 consecutive laps (R352). -/
def startFlush (rewrite : Bool) (d : Dev) : Dev :=
  if d.thm.sd ∧ d.thm.cool < 8 ∧ !d.rcd.flushing then d
  else kick (d.modRcd fun x => { x with flushing := true, inPlace := if rewrite then x.inPlace ++ dirtyNow d else x.inPlace })

/-- NEW and DIRTY records have reached FLUSH_LVL: a flush starts (R308); one in progress goes on. -/
def flushLevel (d : Dev) : Dev := if d.get REC_CFG.FLUSH_LVL ≤ stgDue d then startFlush false d else kick d

/-- What a record's entry into staging triggers (R308). -/
def flushOnEntry (d : Dev) (cls : Cls) (varnish : Bool) : Dev :=
  if varnish || cls = .slice || cls = .group || cls = .device || cls = .safety then startFlush false d else flushLevel d

/-- The number of the latest staged record of a code. -/
def lastRecord (d : Dev) (code : Nat) : Nat :=
  (d.rcd.stg.filter fun p => p.2.r.code == code).foldl (fun m p => max m p.2.r.seq) 0

/-! ### Events and repeats -/

/-- A staged record that an event repeats (R306). DEDUCED (log 205): a REC_TORN record takes no repeat, since R314 writes one for
each torn slot. -/
def repeats (e : Env) (d : Dev) (code inst : Nat) (cls : Cls) (conseq : Bool) (parent : Nat) (s : Stg) : Bool :=
  s.st ≠ .free && !s.r.isJournal && s.r.code == code && s.r.inst == inst && s.r.cls = cls && s.r.conseq == conseq &&
    s.r.parent == parent && decide (code ∉ [Ev.TIME_MARK, Ev.CLEAR, Ev.REC_DROP, Ev.REC_TORN]) &&
    decide (e.opt - s.last ≤ 128 * d.get REC_CFG.COAL) && decide (d.get REC_CFG.COAL ≠ 0) &&
    (!s.r.varnish || s.st = .new) && decide (s.rewrites < 1024) && decide (e.opt - s.r.opt ≤ 0xFFFFFF)

/-- A staging slot after a repeat (R306). -/
def Stg.repeated (s : Stg) (opt : Nat) : Stg :=
  match s.r.body with
  | .event rep _ snap sl inst aux =>
    { s with r := { s.r with body := .event (satN (rep + 1) 0xFFFF) (opt - s.r.opt) snap sl inst aux }
             last := opt
             touched := s.touched || s.st = .writing
             st := if s.st = .clean then .dirty else s.st }
  | _ => s

/-- What an event record carries besides its code and instance. -/
structure EvInfo where
  cls : Cls
  aux : Nat := 0
  by_ : By := byHw
  conseq : Bool := false
  parent : Nat := 0
  /-- Snapshot words that R303 gives the record itself. -/
  own : List Nat := []
  varnish : Bool := false
  backward : Bool := false
deriving DecidableEq, Repr

/-- Whether a record is Varnish-class by its class or code (R300). -/
def varnishEv (code : Nat) (cls : Cls) : Bool := cls = .safety || decide (code ∈ [Ev.PTL_STOP, Ev.PTL_MUTE_DIR])

/-- Record an event without looking at losses: a repeat of a staged record, or a new record. Answers the number of the
record that holds the event (0 if it was lost) and whether a record was lost. -/
def recordOnce (e : Env) (d : Dev) (code inst : Nat) (x : EvInfo) : Dev × Nat × Bool :=
  match d.rcd.stg.find? fun p => repeats e d code inst x.cls x.conseq x.parent p.2 with
  | some (k, s) => (flushLevel (d.setStg k (s.repeated e.opt)), s.r.seq, false)
  | none =>
    let (sn, sl) := snapshot d code x.conseq x.parent x.own
    let v := x.varnish || varnishEv code x.cls
    let r := { mkRecord e code x.cls x.by_ (.event 0 0 sn sl inst x.aux) with
                conseq := x.conseq, parent := x.parent, varnish := v, backward := x.backward }
    let (d1, n, lost) := stageOne d r e.opt
    let d2 := if sl < 32 ∧ n ≠ 0 then d1.modRcd fun y => { y with snapDue := y.snapDue ++ [(n, sl)] } else d1
    (flushOnEntry d2 x.cls v, n, lost)

/-- The NOTE event REC_DROP after a loss: its AUX gives the losses since the previous REC_DROP record (R307). A loss
that the REC_DROP record itself causes is counted for the next one. -/
def noteDrop (e : Env) (d : Dev) : Dev :=
  let (d1, n, _) := recordOnce e { d with flt := { d.flt with noteCnt := (d.flt.noteCnt + 1) % 65536 } }
    Ev.REC_DROP noInst { cls := .note, aux := satN d.rcd.lost 0xFFFF }
  if n = 0 then d1 else d1.modRcd fun x => { x with lost := x.lost - d.rcd.lost }

/-- Record an event; answers the number of the record that holds it. -/
def recordEvent (e : Env) (d : Dev) (code inst : Nat) (x : EvInfo) : Dev × Nat :=
  let (d1, n, lost) := recordOnce e d code inst x
  (if lost then noteDrop e d1 else d1, n)

/-! ### The change journal (R315 to R317) -/

/-- Stage a journal record. -/
def stageJournal (e : Env) (d : Dev) (r : Record) : Dev × Nat :=
  let (d1, n, lost) := stageOne d r e.opt
  let d2 := flushOnEntry d1 r.cls r.varnish
  (if lost then noteDrop e d2 else d2, n)

/-- A number of the change journal: batch numbers wrap at 65,536 (R316). -/
def nextBatch (d : Dev) : Dev × Nat := (d.modRcd fun x => { x with batch := (x.batch + 1) % 65536 }, d.rcd.batch)

/-- Note an accepted write of the operation in hand. -/
def journalAdd (t : Triple) (d : Dev) : Dev := d.modRcd fun x => { x with jl := x.jl ++ [t] }

/-- Stage the CHANGE records of at most 256 records (768 writes) of one batch, three triples to a record (R316). -/
def stageChanges (e : Env) (by_ : By) (batch : Nat) : Nat → Nat → List Triple → Dev → Dev
  | 0, _, _, d => d
  | _ + 1, _, [], d => d
  | n + 1, idx, ts, d =>
    let rest := ts.drop 3
    let r := { mkRecord e Ev.CHANGE .note by_ (.change batch idx (ts.take 3)) with more := !rest.isEmpty && n ≠ 0 }
    stageChanges e by_ batch n (idx + 1) rest (stageJournal e d r).1

/-- Stage all batches of a list of writes: a batch that exceeds 768 writes continues under a new number (R316). -/
def stageBatches (e : Env) (by_ : By) : Nat → List Triple → Dev → Dev
  | 0, _, d => d
  | _ + 1, [], d => d
  | n + 1, ts, d =>
    let (d1, b) := nextBatch d
    stageBatches e by_ n (ts.drop 768) (stageChanges e by_ b 256 0 (ts.take 768) d1)

/-- Close the batch of the operation in hand: journal its accepted writes (R316). -/
def closeBatch (e : Env) (by_ : By) (d : Dev) : Dev :=
  let ts := d.rcd.jl
  stageBatches e by_ (ts.length / 768 + 1) ts (d.modRcd fun x => { x with jl := [] })

/-- A TABLE record (R317), under a batch number of its own (R316). `varnish` for a change to the Fixative (R300). -/
def journalTable (e : Env) (by_ : By) (first last crc : Nat) (varnish : Bool) (d : Dev) : Dev :=
  let (d1, b) := nextBatch d
  (stageJournal e d1 { mkRecord e Ev.TABLE .note by_ (.table b first last crc) with varnish := varnish }).1

/-! ### Ends of record writes (R312) -/

/-- Put a slot of the recorder memory. -/
def setMemSlot (a : Area) (k : Nat) (m : MemSlot) (x : Recorder) : Recorder :=
  match a with
  | .varnish => { x with varnish := tset (fun _ => .blank) x.varnish k m }
  | .palette => { x with palette := tset (fun _ => .blank) x.palette k m }

/-- The write in progress ends and verifies: the staging slot becomes CLEAN, or DIRTY if a repeat fell on it. -/
def writeOk (w : RecWrite) (d : Dev) : Dev :=
  match d.rcd.stg.lookup w.stg with
  | none => d.modRcd fun x => { setMemSlot w.area w.slot (.valid w.image) x with wr := none }
  | some s =>
    (d.setStg w.stg { s with st := if s.touched then .dirty else .clean, touched := false }).modRcd fun x =>
      { setMemSlot w.area w.slot (.valid w.image) x with wr := none }

/-- The retry fails too: the slot is left torn, a Palette slot is skipped from now on, and the record takes the next
slot (R312). -/
def writeMove (w : RecWrite) (d : Dev) : Dev :=
  let d1 := Dev.modRcd { d with free := d.free + 1 } fun x =>
    { setMemSlot w.area w.slot (.torn d.free) x with bad := if w.area = .palette then sadd x.bad w.slot else x.bad }
  let (d2, a, slot, r) := allocate d1 { w.image with overflow := false }
  match d2.rcd.stg.lookup w.stg with
  | none => d2.modRcd fun x => { x with wr := none }
  | some s =>
    (d2.setStg w.stg { s with place := some (a, slot), r := { s.r with overflow := r.overflow } }).modRcd fun x =>
      { x with wr := some { w with area := a, slot := slot, image := r, rewrite := false, retried := false } }

/-- A record write that is cut leaves its slot torn; the record is NEW again (R311, R313, R314). -/
def cutWrite (d : Dev) : Dev :=
  match d.rcd.wr with
  | none => d
  | some w =>
    let d1 := Dev.modRcd { d with free := d.free + 1 } fun x => { setMemSlot w.area w.slot (.torn d.free) x with wr := none }
    match d1.rcd.stg.lookup w.stg with
    | some s => d1.setStg w.stg { s with st := .new, place := none, touched := false }
    | none => d1

/-- Area and slot as an AUX field codes them (R303, R314). -/
def areaAux (a : Area) (slot : Nat) : Nat := (match a with | .varnish => 0 | .palette => 0x8000) + slot

/-! ### Reading (R320) -/

/-- A slot of an area as a reader sees it: a record below the area's latest CLEAR reads as empty (R313). -/
def readSlot (d : Dev) (a : Area) (k : Nat) : MemSlot :=
  let m := match a with
    | .varnish => tget (fun _ => MemSlot.blank) d.rcd.varnish k
    | .palette => tget (fun _ => MemSlot.blank) d.rcd.palette k
  let limit := match a with | .varnish => d.rcd.clrSeqV | .palette => d.rcd.clrSeqP
  match m with
  | .valid r => if r.seq < limit then .blank else .valid r
  | m => m

end Sys2Proof.Machine
end

