-- ==== Sys2Proof/Machine/Faults.lean ====
section
/-! DEFINITION. The fault collector (chapter 12): raising and clearing faults, the latch table, runouts, shadows, ALIVE and
the interrupt causes. The reactions of escalations are carried out in Machine/Escalate.lean. -/
namespace Sys2Proof.Machine

/-- Change the fault collector. -/
def Dev.modFlt (d : Dev) (f : Faults → Faults) : Dev := { d with flt := f d.flt }

/-- Put a latch entry. -/
def Dev.setLatch (d : Dev) (k : Nat) (x : Latch) : Dev := d.modFlt fun f => { f with latch := tput (tdel f.latch k) k x }

/-- Free a latch entry. -/
def Dev.freeLatch (d : Dev) (k : Nat) : Dev := d.modFlt fun f => { f with latch := tdel f.latch k }

/-- The interrupt cause bit of a class (R296); NOTE has none. -/
def Cls.irqBit : Cls → Nat
  | .note => 0 | .minor => 0 | .slice => 1 | .group => 2 | .device => 3 | .safety => 4

/-- Set interrupt cause bits (R296). -/
def setIrq (bit : Nat) (d : Dev) : Dev :=
  d.setReg .FLT_IRQ_STAT 0 0 (BitVec.ofNat 32 (putBits (d.reg .FLT_IRQ_STAT).toNat bit 1 1))

/-- IRQ_N is low: a cause is set and enabled (R296); it is high-impedance while RESET_N is low. -/
def irqLow (d : Dev) : Bool :=
  !d.pwr.inReset && Nat.land (d.reg .FLT_IRQ_STAT).toNat (d.reg .FLT_IRQ_EN).toNat != 0

/-- A fault identity is live. -/
def isLive (d : Dev) (code inst : Nat) : Bool := decide ((code, inst) ∈ d.flt.live)

/-- Some live fault is of class DEVICE or SAFETY (R294). -/
def liveHolds (d : Dev) : Bool := d.flt.live.any fun p => Ev.cls p.1 p.2 = .device || Ev.cls p.1 p.2 = .safety

/-! ### What a shadow covers (R291) -/

/-- The chains of slice `s`, source and sink: those in use, or those written while it is IDLE (R124). -/
def srcOf (d : Dev) (s : Nat) : Nat := if (d.slice s).st = .idle then d.get SLC_CFG0.SRC s else (d.slice s).eff.src
def sinkOf (d : Dev) (s : Nat) : Nat := if (d.slice s).st = .idle then d.get SLC_CFG0.SINK s else (d.slice s).eff.sink

/-- A slice whose source or sink is a chain of group `g`. -/
def sliceOfGroup (d : Dev) (g s : Nat) : Bool := srcOf d s / 4 == g || sinkOf d s / 4 == g

/-- The slice a fault identity belongs to: slice, canceller share, slice loop, or an enabled Stencil, which is attached to its slice
(R225, R291). -/
def sliceOfFault (d : Dev) (code inst : Nat) : Option Nat :=
  let src := code / 256
  if src = 0x10 ∨ src = 0x20 then (if inst < 192 then some inst else none)
  else if src = 0x30 then (if inst < 192 then some inst else none)
  else if src = 0x38 then (if inst < 32 ∧ d.flag STN_CFG.EN inst then some (d.get STN_CFG.SLICE inst) else none)
  else none

/-- The group a fault of the radio group's own blocks belongs to (R280, R291). -/
def groupOfFault (d : Dev) (code inst : Nat) : Option Nat :=
  let src := code / 256
  if code = Ev.TX_LOCK_TIMEOUT ∨ code = Ev.LO_LOCK_FAIL then some inst
  else if code = Ev.LO_UNLOCK then some (inst / 2)
  else if code = Ev.RFFE_LATE ∨ code = Ev.RFFE_PARITY ∨ code = Ev.RFFE_OVF then
    (if d.get SYN_RFFE_CFG.GRP inst < 2 then some (d.get SYN_RFFE_CFG.GRP inst) else none)
  else if (src = 4 ∨ src = 5) ∧ inst < 8 then some (inst / 4)
  else if code = Ev.CAL_STALE ∧ inst < 16 then some (inst % 8 / 4)
  else if src = 0x30 ∧ 192 ≤ inst ∧ inst < 200 then some ((inst - 192) / 4)
  else none

/-- The block a fault identity comes from: slice `s` is block `s`, group `g` is block `192 + g`. -/
def blockOfFault (d : Dev) (code inst : Nat) : Option Nat :=
  match sliceOfFault d code inst with
  | some s => some s
  | none => (groupOfFault d code inst).map (192 + ·)

/-- A reaction declares a block as shadowed (R291). -/
def coversBlk (d : Dev) (r : Reaction) (k : Nat) : Bool :=
  match r with
  | .spare s => k == s
  | .failed s => k == s
  | .group g => k == 192 + g || (decide (k < 192) && sliceOfGroup d g k)
  | .shed m => decide (k < 192) && d.get SLC_CFG0.MSET k == m

/-- A reaction's shadow lies over a fault identity (R291). -/
def covers (d : Dev) (r : Reaction) (code inst : Nat) : Bool :=
  match blockOfFault d code inst with | some k => coversBlk d r k | none => false

/-- The open shadow over a fault identity that opened first, by its place in the list (R292). -/
def shadowOver (d : Dev) (code inst : Nat) : Option (Nat × Shadow) :=
  ((List.range d.flt.shadows.length).zip d.flt.shadows).find? fun p => covers d p.2.by_ code inst

/-! ### Latching (R281, R282) -/

/-- The valid entry of a fault identity. -/
def latchOf (d : Dev) (code inst : Nat) : Option (Nat × Latch) :=
  d.flt.latch.find? fun p => p.2.code == code && p.2.inst == inst

/-- The entry a new fault takes and whether it evicts: a free one, else the one whose last occurrence is oldest among
those not live, not SAFETY and without a runout (R281). -/
def latchPick (d : Dev) : Option (Nat × Bool) :=
  match (List.range 128).find? (fun k => (d.flt.latch.lookup k).isNone) with
  | some k => some (k, false)
  | none => (leastBy (fun p => (p.2.last, p.1))
      (d.flt.latch.filter fun p => !p.2.live && p.2.cls ≠ .safety && p.2.run = .none)).map fun p => (p.1, true)

/-- A class with a runout (R279, R285). -/
def Cls.hasRunout (c : Cls) : Bool := c = .slice || c = .group || c = .device

/-- The origin that a fault's records carry: the factory test block's for an injected one (R297). -/
def faultBy (inj : Bool) : By := if inj then { origin := .factory } else byHw

/-- Record an escalation: the event FLT_ESCALATE with the class of the escalated fault and its entry in AUX (R287,
R302), the count and the interrupt cause. The reaction is put among those due in this step. -/
def escalate (e : Env) (d : Dev) (code inst : Nat) (cls : Cls) (entry : Nat) (inj : Bool) : Dev :=
  let d0 := setIrq 5 (d.modFlt fun f => { f with escCnt := satN (f.escCnt + 1) 0xFF })
  let (d1, n) := recordEvent e d0 Ev.FLT_ESCALATE inst { cls := cls, aux := entry, by_ := faultBy inj }
  let d2 := match d1.flt.latch.lookup entry with
    | some x => d1.setLatch entry { x with esc := true, spent := x.live, esq := n, run := .none, claimed := false }
    | none => d1
  d2.modFlt fun f => { f with due := f.due ++ [(cls, code, inst, n)] }

/-- Latch an occurrence (R281, R282, R285, R290). `seq` is the record of the occurrence; `live` says that the fault has
become live, or is supervised afresh when its shadow closes (`anew`), and then FLT_LATCH_SEQ names the new record (R293). A fault that
has been escalated starts no runout before it has passed from not live to live again (R288). -/
def latch (e : Env) (d : Dev) (code inst : Nat) (cls : Cls) (live inj : Bool) (seq : Nat) (anew : Bool := false) : Dev :=
  let now := live || isLive d code inst
  let started (go : Bool) (x : Latch) : Latch := if go && cls.hasRunout && x.run = .none && !x.spent then { x with run := .runout } else x
  let place (go : Bool) (k : Nat) (x : Latch) (d : Dev) : Dev :=
    let d1 := setIrq cls.irqBit (d.setLatch k (started go x))
    if cls = .safety then escalate e d1 code inst cls k x.inj else d1
  match latchOf d code inst with
  | some (k, x) =>
    place live k { x with count := satN (x.count + 1) 0xFFFF, last := e.opt, live := now, inj := x.inj || inj
                          seq := if anew then seq else x.seq } d
  | none =>
    match latchPick d with
    | some (k, evicts) =>
      let d1 := if evicts then
          (recordEvent e (d.modFlt fun f => { f with noteCnt := (f.noteCnt + 1) % 65536 }) Ev.FLT_EVICT noInst
            { cls := .note }).1
        else d
      place now k { code := code, inst := inst, cls := cls, live := now, inj := inj, first := e.opt, last := e.opt, seq := seq } d1
    | none =>
      let d1 := setIrq 6 (d.modFlt fun f => { f with lost := satN (f.lost + 1) 0xFF })
      if cls.hasRunout || cls = .safety then escalate e d1 code inst cls 0xFFFF inj else d1

/-! ### Raising and clearing (R281, R292, R294) -/

/-- What a raised fault carries besides its identity. -/
structure RaiseInfo where
  aux : Nat := 0
  by_ : By := byHw
  live : Bool := false
  inj : Bool := false
deriving DecidableEq, Repr

/-- One occurrence of a fault or event (R279, R281, R292): recorded in every case; in an open shadow it is consequential
and takes no latch, an entry that its identity has already only following the live status; a NOTE is counted; any other class
is latched. -/
def occur (e : Env) (d : Dev) (code inst : Nat) (x : RaiseInfo) : Dev :=
  let cls := Ev.cls code inst
  let d := if cls = .note then d.modFlt fun f => { f with noteCnt := (f.noteCnt + 1) % 65536 } else d
  match (if cls = .safety then none else shadowOver d code inst) with
  | some (k, sh) =>
    let par := ((blockOfFault d code inst).bind fun b => d.flt.blkPar.lookup b).getD sh.parent
    let (d0, _) := recordEvent e d code inst
      { cls := cls, aux := x.aux, by_ := x.by_, conseq := true, parent := par }
    let d1 := match latchOf d0 code inst with
      | some (j, y) => if x.live then d0.setLatch j { y with live := true } else d0
      | none => d0
    d1.modFlt fun f =>
      { f with conseqCnt := satN (f.conseqCnt + 1) 0xFF
               shadows := f.shadows.set k { sh with inside := if x.live then sadd sh.inside (code, inst) else sh.inside } }
  | none =>
    let (d1, n) := recordEvent e d code inst { cls := cls, aux := x.aux, by_ := x.by_ }
    if cls = .note then d1 else latch e d1 code inst cls x.live x.inj n

/-- Report an event-only fault. -/
def report (e : Env) (d : Dev) (code : Nat) (inst : Nat := noInst) (aux : Nat := 0) : Dev := occur e d code inst { aux := aux }

/-- A source's condition begins: the fault becomes live, which is an occurrence unless it was live already (R282). A live
DEVICE or SAFETY fault pulls ALIVE low (R294). -/
def raiseLive (e : Env) (d : Dev) (code : Nat) (inst : Nat := noInst) (aux : Nat := 0) : Dev :=
  if isLive d code inst then d
  else
    let d1 := d.modFlt fun f => { f with live := f.live ++ [(code, inst)] }
    let d2 := occur e d1 code inst { aux := aux, live := true }
    if Ev.cls code inst = .device || Ev.cls code inst = .safety then
      d2.modFlt fun f => { f with alive := false, aliveRun := false }
    else d2

/-- A further reaction under a fault that is live already is recorded (R35, R277); it is no occurrence, since the fault does
not pass from not live to live (R282). -/
def raiseAgain (e : Env) (d : Dev) (code : Nat) (inst : Nat := noInst) : Dev :=
  if isLive d code inst then (recordEvent e d code inst { cls := Ev.cls code inst }).1 else raiseLive e d code inst

/-- A live status falls: LIVE follows; the runout is not stopped (R282, R285). -/
def dropLive (d : Dev) (code : Nat) (inst : Nat := noInst) : Dev :=
  let d1 := d.modFlt fun f => { f with live := f.live.filter (· ≠ (code, inst)), injected := f.injected.filter (· ≠ (code, inst)) }
  match latchOf d1 code inst with
  | some (k, x) => d1.setLatch k { x with live := false, spent := false }
  | none => d1

/-- A source's condition ends. DEDUCED (log 246): an injected fault stays live until it is cleared by injection (R297). -/
def clearLive (d : Dev) (code : Nat) (inst : Nat := noInst) : Dev :=
  if (code, inst) ∈ d.flt.injected then d else dropLive d code inst

/-- Hold a fault live exactly while a condition holds. -/
def setLive (e : Env) (code inst : Nat) (c : Bool) (d : Dev) : Dev :=
  if c then raiseLive e d code inst else clearLive d code inst

/-! ### Shadows (R291 to R293) -/

/-- A reaction starts: its shadow opens on the declared blocks; a block that is shadowed already keeps its parent, and its
shadow is extended (R292). -/
def openShadow (r : Reaction) (parent : Nat) (d : Dev) : Dev :=
  let fresh := (List.range 194).filter fun k => coversBlk d r k && (d.flt.blkPar.lookup k).isNone
  d.modFlt fun f =>
    { f with shadows := f.shadows ++ [{ by_ := r, parent := parent, done := false, inside := [] }]
             blkPar := f.blkPar ++ fresh.map fun k => (k, parent) }

/-- A reaction completes: its shadow closes FLT_CFG.SHADOW later. -/
def endReaction (p : Reaction → Bool) (d : Dev) : Dev :=
  d.modFlt fun f => { f with shadows := f.shadows.map fun s => if p s.by_ then { s with done := true } else s }

/-- A shadow closes: each live fault of its sources is latched as an ordinary occurrence, with a record without the consequential
flag, unless another open shadow still lies over it, which takes over what was raised inside this one (R292, R293). -/
def closeShadow (e : Env) (k : Nat) (d : Dev) : Dev :=
  match d.flt.shadows[k]? with
  | none => d
  | some sh =>
    let left := d.flt.shadows.eraseIdx k
    let d1 := d.modFlt fun f =>
      { f with shadows := left, blkPar := f.blkPar.filter fun p => left.any fun s => coversBlk d s.by_ p.1 }
    forL (d.flt.live.filter fun p => covers d sh.by_ p.1 p.2 && Ev.cls p.1 p.2 ≠ .safety) (fun p d =>
      match shadowOver d p.1 p.2 with
        | some (j, s2) =>
          if p ∈ sh.inside then d.modFlt fun f => { f with shadows := f.shadows.set j { s2 with inside := sadd s2.inside p } } else d
        | none =>
          let cls := Ev.cls p.1 p.2
          let inj := decide (p ∈ d.flt.injected)
          let (d2, n) := recordEvent e d p.1 p.2 { cls := cls, by_ := faultBy inj }
          if cls = .note then d2 else latch e d2 p.1 p.2 cls true inj n true) d1

/-- FLT_LIVE: the live latch entries of each class, SAFETY and DEVICE saturating at 15. -/
def fltLiveWord (d : Dev) : Nat :=
  let n (c : Cls) (m : Nat) : Nat := satN ((d.flt.latch.filter fun p => p.2.live && p.2.cls = c).length) m
  packBits [(28, 4, n .safety 15), (24, 4, n .device 15), (16, 8, n .group 255), (8, 8, n .slice 255), (0, 8, n .minor 255)]

/-- The NOTE fault ADDR_UNMAPPED of an access to an unoccupied address (R18). -/
def unmapped (e : Env) (a : Nat) (d : Dev) : Dev := report e d (Ev.addrUnmapped (blockOf a))

end Sys2Proof.Machine
end

