-- ==== Sys2Proof/Machine/Domains.lean ====
section
/-! DEFINITION. Power domains (R354 to R356): requests, releases and the phases every domain passes through. -/
namespace Sys2Proof.Machine

/-- The domains that count towards the eight in POWERING (R356): tiles, ORX and the bias DAC bank. -/
def counted (n : Nat) : Bool := decide (n < 50 ∨ n = 70 ∨ n = 71)

/-- Domains 0–49, 70 and 71 in POWERING (PWR_STAT.NPOW). -/
def npow (d : Dev) : Nat := (d.pwr.doms.filter fun p => counted p.1 && p.2.phase = .powering).length

/-- A requested domain starts POWERING, or waits in the order of its request while eight power up (R356); QUEUED clears when POWERING
starts (R355). -/
def domPower (n : Nat) (d : Dev) : Dev :=
  let x := d.dom n
  if counted n ∧ 8 ≤ npow d then
    let d1 := d.setDom n { x with phase := .wait }
    let first (k : Nat) : Bool := decide ((d.dom k).ord < x.ord)
    { d1 with pwr := { d1.pwr with waiting := d1.pwr.waiting.filter first ++ n :: d1.pwr.waiting.filter fun k => !first k && k ≠ n } }
  else d.setDom n { x with phase := .powering, queued := false }

/-- A place became free: the longest waiting domain enters POWERING (R356). -/
def domNext (d : Dev) : Dev :=
  match d.pwr.waiting with
  | [] => d
  | n :: rest =>
    if 8 ≤ npow d then d
    else
      let d1 := { d with pwr := { d.pwr with waiting := rest } }
      d1.setDom n { d1.dom n with phase := .powering, queued := false }

/-- The owner requests a domain (R355); on the way to SLEEP, once the domains go off, none comes on again
(R360), and after SHUTDOWN only the bias DAC bank does (R351). -/
def domRequest (n : Nat) (d : Dev) : Dev :=
  let y := d.dom n
  let x := if y.req then y else { y with req := true, ord := d.pwr.reqNo }
  let d := if y.req then d else { d with pwr := { d.pwr with reqNo := d.pwr.reqNo + 1 } }
  if (d.pwr.sleep = .entering ∧ d.pwr.stage ≠ 0) ∨ (d.thm.sd ∧ n ≠ 71) then d
  else match x.phase with
  | .off => domPower n (d.setDom n x)
  | .offing => d.setDom n { x with queued := true }
  | _ => d.setDom n x

/-- The owner withdraws its request (R355, R356). -/
def domRelease (n : Nat) (d : Dev) : Dev :=
  let x := { d.dom n with req := false, queued := false }
  match x.phase with
  | .on => d.setDom n { x with phase := .draining }
  | .wait =>
    let d1 := d.setDom n { x with phase := .off }
    { d1 with pwr := { d1.pwr with waiting := d1.pwr.waiting.filter (· ≠ n) } }
  | _ => d.setDom n x

/-- POWERING ends: ON, or on towards DRAINING when the owner no longer requests the domain (R355). A failure to power up
is over (R366). -/
def domUp (n : Nat) (d : Dev) : Dev :=
  let x := d.dom n
  if x.phase = .powering then
    domNext (clearLive (d.setDom n { x with phase := if x.req then .on else .draining, upCnt := satN (x.upCnt + 1) 0xFF })
      Ev.PWR_DOMAIN_FAIL n)
  else d

/-- DRAINING ends in OFFING; a domain requested meanwhile has returned to ON (R355). -/
def domDrained (n : Nat) (d : Dev) : Dev :=
  let x := d.dom n
  if x.phase = .draining then d.setDom n { x with phase := if x.req then .on else .offing } else d

/-- OFFING ends: OFF, or the full POWERING of a queued request (R355). -/
def domOff (n : Nat) (d : Dev) : Dev :=
  let x := d.dom n
  if x.phase = .offing then
    (if x.queued then domPower n (d.setDom n { x with phase := .off }) else d.setDom n { x with phase := .off })
  else d

/-- POWERING took more than four times its nominal time: the domain stays OFF and PWR_DOMAIN_FAIL is live (R356). -/
def domTimeout (e : Env) (n : Nat) (d : Dev) : Dev :=
  let x := d.dom n
  if x.phase = .powering then domNext (raiseLive e (d.setDom n { x with phase := .off, failed := !counted n }) Ev.PWR_DOMAIN_FAIL n) else d

/-- A domain that powers up inside the steps of its group (R354, R355, R356), as its owner wants it or not; `offing` when the group's own
step down has reached OFFING. It passes through every phase: POWERING ends with the step or by itself, a withdrawal in POWERING
waits for ON, a drain that is wanted again ends ON, and OFFING queues. One that has failed stays OFF until its owner has let
it go. -/
def domWant (n : Nat) (want offing : Bool) (d : Dev) : Dev :=
  let x := d.dom n
  if want then
    if x.failed then d
    else d.setDom n (match x.phase with
      | .off => { x with phase := .powering, req := true }
      | .offing => { x with req := true, queued := true }
      | _ => { x with req := true })
  else
    let ph : DomPhase := match x.phase with
      | .on => .draining
      | .draining => if offing then .offing else .draining
      | p => p
    d.setDom n { x with phase := ph, req := false, queued := false, failed := false }

/-- The step down of the group that powers a domain has ended: the domain is OFF (R59, R354). -/
def domGone (n : Nat) (d : Dev) : Dev :=
  let x := d.dom n
  if x.phase = .draining ∨ x.phase = .offing then d.setDom n { x with phase := .off, queued := false } else d

end Sys2Proof.Machine
end

