-- ==== Sys2Proof/Machine/RffeBus.lean ====
section
/-! DEFINITION. The RFFE masters (R81 to R85): commands, the FIFO, timed writes and arbitration. Also the circular
arithmetic of frame time, which timed writes and Carve share. -/
namespace Sys2Proof.Machine

/-- Core cycles in a frame and in a control period (T_c = 125 µs of 983.04 MHz). -/
def frameCycles : Nat := 9830400
def periodCycles : Nat := 122880

/-- Frame time runs modulo 256 frames. -/
def ftMod : Nat := 256 * frameCycles

/-- Frame time now, in core cycles modulo 256 frames. -/
def ftNow (d : Dev) : Nat := (d.clk.frame * frameCycles + d.clk.cyc + d.clk.ofs) % ftMod

/-- How far `t` lies ahead of `now` in frame time: negative when it has passed. -/
def ftAhead (now t : Nat) : Int :=
  let x := (t + ftMod - now % ftMod) % ftMod
  if x ≤ ftMod / 2 then (x : Int) else (x : Int) - ftMod

/-- Absolute core cycles since the start, now. -/
def coreNow (d : Dev) : Nat := d.clk.core + d.clk.ofs

/-- Tow time now, a 64-bit count: that at the last boundary and the core cycles since (R442). -/
def towNow (d : Dev) : Nat := (d.clk.tow + d.clk.ofs) % 2 ^ 64

/-- The core cycle of the next control period boundary, the present one where it is one. -/
def boundaryNext (d : Dev) : Nat := coreNow d + (periodCycles - d.clk.ofs) % periodCycles

/-- Set the present instant: core cycles since the last boundary. Time never runs back inside a period. -/
def Dev.atOfs (d : Dev) (ofs : Nat) : Dev := { d with clk := { d.clk with ofs := max d.clk.ofs ofs } }

/-- The core clock divider of a master (SYN_RFFE_CFG.DIV). -/
def rffeDiv (d : Dev) (m : Nat) : Nat :=
  match d.get SYN_RFFE_CFG.DIV m with
  | 0 => 64 | 1 => 128 | 2 => 256 | _ => 1024

/-- Bus periods of a sequence, bus park included (R81). -/
def RffeCmd.periods (c : RffeCmd) : Nat :=
  match c.typ with
  | 0 => 25
  | 1 => 25 + 9 * c.data.length
  | 2 => 34 + 9 * c.data.length
  | _ => 26

/-- The first bus period boundary at or after a frame time (R81). -/
def busBoundary (div t : Nat) : Nat := (t + div - 1) / div * div

/-- A command R83 discards: an unused TYPE, a read of the broadcast identifier or a long write to it (R8), too many bytes, or an address out of
range. -/
def rffeBad (typ bc usid addr : Nat) : Bool :=
  decide (4 ≤ typ) || ((typ == 2 || typ == 3) && usid == 0) || (typ == 1 && decide (15 < bc)) || (typ == 2 && decide (7 < bc)) ||
    ((typ == 0 || typ == 3) && decide (0x1F < addr)) || (typ == 1 && decide (0xFF < addr))

/-- The data bytes of a command, taken from SYN_RFFE_DATA at the write of the command. -/
def rffeData (d : Dev) (m n : Nat) : List Nat :=
  (List.range n).map fun k => bitsOf (d.reg .SYN_RFFE_DATA m (k / 4)).toNat (8 * (k % 4)) 8

/-- A word written to SYN_RFFE_CMD[m] enqueues its command, or is discarded with CMD_REJ, or with OVF and the NOTE
fault RFFE_OVF at a full FIFO (R83). Answers whether it was accepted. -/
def rffeEnqueue (e : Env) (m : Nat) (w : Word) (d : Dev) : Dev × Bool :=
  let typ := SYN_RFFE_CMD.TYPE.of w
  let bc := SYN_RFFE_CMD.BC.of w
  let usid := SYN_RFFE_CMD.USID.of w
  let addr := SYN_RFFE_CMD.ADDR.of w
  if rffeBad typ bc usid addr then (d.setBit SYN_RFFE_STAT.CMD_REJ m, false)
  else if 64 ≤ (d.rffeM m).fifo.length then (report e (d.setBit SYN_RFFE_STAT.OVF m) Ev.RFFE_OVF m, false)
  else
    let n := if typ = 1 ∨ typ = 2 then bc + 1 else 1
    let c : RffeCmd := { typ := typ, usid := usid, addr := addr, data := if typ = 3 then [] else rffeData d m n }
    (d.setRffe m { d.rffeM m with fifo := (d.rffeM m).fifo ++ [c] }, true)

/-- Insert a timed write: inverses ahead of every other timed write, the rest by execution time and then queue order
(R82, R249). -/
def insertTimed (now : Nat) (x : RffeTimed) : List RffeTimed → List RffeTimed
  | [] => [x]
  | y :: ys =>
    let first : Bool := match x.act, y.act with
      | none, some _ => true
      | some _, none => false
      | none, none => false
      | some _, some _ =>
        decide (ftAhead now x.at_ < ftAhead now y.at_) || (x.at_ == y.at_ && decide (x.ord < y.ord))
    if first then x :: y :: ys else y :: insertTimed now x ys

/-- Give a master a timed write. -/
def rffeTimed (m : Nat) (x : RffeTimed) (d : Dev) : Dev :=
  d.setRffe m { d.rffeM m with timed := insertTimed (ftNow d) x (d.rffeM m).timed }

/-- What a master puts on its free bus now (R82): the first timed write whose boundary has come, else a FIFO command
that ends before the next timed write's start. -/
inductive RffePick where
  | nothing
  | timed (x : RffeTimed) (late : Int)
  | fifo (c : RffeCmd)
deriving DecidableEq, Repr

/-- Cycles until each timed write of a master may start (R82): those that wait for its bus, and those that PENDING Carve actions will
give it. -/
def rffeStarts (d : Dev) (m : Nat) : List Int :=
  let start (at_ : Nat) : Int := ftAhead (ftNow d) (busBoundary (rffeDiv d m) at_)
  (d.rffeM m).timed.map (fun x => start x.at_) ++ d.crv.epochs.flatMap fun x => x.acts.filterMap fun a =>
    match a.target with
    | .rffe k _ _ => if k = m ∧ a.st = .pending then some (start a.time) else none
    | _ => none

/-- The arbitration of R82 at the present instant. -/
def rffePick (d : Dev) (m : Nat) : RffePick :=
  let r := d.rffeM m
  let div := rffeDiv d m
  let now := ftNow d
  if r.bus.isSome || !d.flag SYN_RFFE_CFG.EN m || now % div != 0 then .nothing
  else
    let fromFifo : RffePick :=
      match r.fifo with
      | [] => .nothing
      | c :: _ => if (rffeStarts d m).all fun l => decide (((c.periods * div : Nat) : Int) < l) then .fifo c else .nothing
    match r.timed with
    | [] => fromFifo
    | x :: _ =>
      let start := ftAhead now (busBoundary div x.at_)
      if start ≤ 0 then .timed x (-start) else fromFifo

/-- A late timed write is counted; more than 2 µs (1,966 core cycles) late raises RFFE_LATE (R82). -/
def rffeLate (e : Env) (m : Nat) (late : Int) (d : Dev) : Dev :=
  if 0 < late then
    let d1 := d.setRffe m { d.rffeM m with lateCnt := satN ((d.rffeM m).lateCnt + 1) 0xFF }
    if 1966 < late then report e d1 Ev.RFFE_LATE m else d1
  else d

/-- Put the picked sequence on the bus; answers the Carve action it executes, if any. -/
def rffeStart (e : Env) (m : Nat) (d : Dev) : Dev × Option (Nat × Nat) :=
  match rffePick d m with
  | .nothing => (d, none)
  | .timed x late =>
    let r := d.rffeM m
    (rffeLate e m late (d.setRffe m { r with timed := r.timed.tail, bus := some x.cmd, lastSeq := some x.cmd }), x.act)
  | .fifo c =>
    let r := d.rffeM m
    (d.setRffe m { r with fifo := r.fifo.tail, bus := some c, lastSeq := some c }, none)

/-- The sequence on the bus ends; a Register Read delivers its byte, whatever its parity, and a parity failure sets PERR
and raises RFFE_PARITY (R84). -/
def rffeDone (e : Env) (m byte : Nat) (parityOk : Bool) (d : Dev) : Dev :=
  let r := d.rffeM m
  match r.bus with
  | none => d
  | some c =>
    if c.typ = 3 then
      let d1 := d.setRffe m { r with bus := none, rdValid := true, rdData := byte % 256 }
      if parityOk then d1 else report e (d1.setBit SYN_RFFE_STAT.PERR m) Ev.RFFE_PARITY m
    else d.setRffe m { r with bus := none }

end Sys2Proof.Machine
end

