-- ==== Sys2Proof/Machine/BiasDac.lean ====
section
/-! DEFINITION. Bias DAC channels (chapter 14): states, codes, the slew limiter, spans, sine mode and read-back. -/
namespace Sys2Proof.Machine

/-! ### The sine of R335

`sin` by its series in units of 2^-40, on a quarter turn: the rounding of R335 to whole codes is decided by it. -/

/-- One in the fixed point of the sine. -/
def sinOne : Int := 2 ^ 40

/-- π/2 in that fixed point. -/
def halfPi : Int := 1727108826179

/-- The series x − x³/3! + x⁵/5! − …, `n` further terms. -/
def sinSeries : Nat → Int → Int → Nat → Int
  | 0, _, term, _ => term
  | n + 1, x2, term, k => term + sinSeries n x2 (-(term * x2 / sinOne) / ((2 * k) * (2 * k + 1) : Nat)) (k + 1)

/-- The sine of `q / 3,840,000` of a quarter turn, in units of 2^-40. -/
def sinQuarter (q : Nat) : Int :=
  let x := halfPi * (q : Int) / 3840000
  sinSeries 10 (x * x / sinOne) x 1

/-- sin(2π·acc / 15,360,000) in units of 2^-40 (R335). -/
def sinTurn (acc : Nat) : Int :=
  let a := acc % 15360000
  if a ≤ 3840000 then sinQuarter a
  else if a ≤ 7680000 then sinQuarter (7680000 - a)
  else if a ≤ 11520000 then - sinQuarter (a - 7680000)
  else - sinQuarter (15360000 - a)

/-- round(AMP × sin(2π·acc / 15,360,000)) (R335). -/
def sineCode (amp acc : Nat) : Int := roundDivAway (amp * sinTurn acc) (2 ^ 40)

/-! ### Loops that drive channels (R328, R330) -/

/-- The general loops in MANUAL, AUTO or HOLD that name channel `c`, lowest first (R330). -/
def loopsOn (d : Dev) (c : Nat) : List Nat :=
  ((List.range 56).map (· + 200)).filter fun i => (d.loop i).mode ≠ .open_ && d.get LOOP_SRC.BDAC i == c

/-- The channel is loop-driven (R330). -/
def loopDriven (d : Dev) (c : Nat) : Bool := !(loopsOn d c).isEmpty

/-! ### Channel state -/

/-- The parking code of a channel. -/
def parkCode (d : Dev) (c : Nat) : Nat := d.get BDAC_CFG.PARK c

/-- The code OUT is heading for: T in DRIVE, PARK otherwise (R333). -/
def bdacGoal (d : Dev) (c : Nat) : Nat := if (d.chan c).st = .drive then (d.chan c).t else parkCode d c

/-- OUT differs from its goal (BDAC_STAT.SLEWING). -/
def slewing (d : Dev) (c : Nat) : Bool := (d.chan c).out != bdacGoal d c

/-- The bank's domain is on while any channel is not OFF (R323, R354). -/
def bankDomain (d : Dev) : Dev :=
  let want := d.bdac.ch.any fun p => p.2.st ≠ .off || p.2.starting
  if want = (d.dom 71).req then d else if want then domRequest 71 d else domRelease 71 d

/-- The enable row of OFF (R325): the output stage powers up. -/
def bdacPowerOn (c : Nat) (d : Dev) : Dev := bankDomain (d.setChan c { d.chan c with starting := true, queued := false })

/-- A sine ends at once: OUT of a driving channel leaves for PARK without slew limiting (R335). -/
def sineCut (c : Nat) (d : Dev) : Dev :=
  let x := d.chan c
  if x.sineOn then
    (d.setChan c { x with sineOn := false, sineStop := false, probe := none, acc := 0
                          out := if x.st = .drive then parkCode d c else x.out }).put BDAC_SINE.RUN c 0
  else d

/-- Release the output (R325): OFFING for 20 µs. A slew back to T that was still owed stays owed (R328). -/
def bdacRelease (c : Nat) (d : Dev) : Dev :=
  let d1 := sineCut c d
  d1.setChan c { d1.chan c with st := .offing, driven := false }

/-- The sleep sequence has begun to take the channels to OFF (R360): from then on none leaves its way there. -/
def chansLeave (d : Dev) : Bool := d.pwr.sleep = .entering && decide (1 ≤ d.pwr.stage)

/-- Release the output for the span switch (R334). -/
def bdacSpanOut (c : Nat) (d : Dev) : Dev := d.setChan c { d.chan c with st := .span, driven := false }

/-- OUT has reached PARK (R325, R334): on to the span switch, OFFING or PARKED. -/
def bdacAtPark (c : Nat) (d : Dev) : Dev :=
  let x := d.chan c
  if x.st = .parking ∧ x.out = parkCode d c then
    if x.chg.isSome then bdacSpanOut c d
    else if !d.flag BDAC_CFG.EN c ∨ d.pwr.sleep = .entering then bdacRelease c d
    else if !x.pcause.isEmpty then d.setChan c { x with st := .parked }
    else d.setChan c { x with st := .drive, back := true }
  else d

/-- Start to park a driving channel (R325). -/
def bdacPark (c : Nat) (d : Dev) : Dev :=
  if (d.chan c).st = .drive then
    let d1 := sineCut c d
    bdacAtPark c (d1.setChan c { d1.chan c with st := .parking, back := true, moved := true })
  else d

/-- Drive again towards T (R325, R326). -/
def bdacDrive (c : Nat) (d : Dev) : Dev :=
  let x := d.chan c
  d.setChan c { x with st := .drive, back := decide (x.out ≠ x.t), moved := true }

/-- EN written 1 (R325); on the way to SLEEP it turns no channel back (R360). -/
def bdacEnable (c : Nat) (d : Dev) : Dev :=
  let x := d.chan c
  if chansLeave d then d
  else match x.st with
  | .off => if x.starting then d else bdacPowerOn c d
  | .parking => if x.pcause.isEmpty ∧ x.chg.isNone then bdacDrive c d else d
  | .offing => d.setChan c { x with queued := true }
  | _ => d

/-- EN written 0 (R325): during a span change it takes effect at its end (R334), and on a channel that a warm restart holds at
PARK when the hold ends (R327). An output stage that powers up completes its power-up first (R326, R355), and a queued
enable falls back to OFF. -/
def bdacDisable (c : Nat) (d : Dev) : Dev :=
  let x := d.chan c
  match x.st with
  | .drive => bdacPark c d
  | .parked => if x.chg.isNone ∧ HoldCause.warm ∉ x.pcause then bdacRelease c d else d
  | .offing => d.setChan c { x with queued := false }
  | _ => d

/-- The sleep sequence takes a channel to PARK and OFF (R360). -/
def bdacSleep (c : Nat) (d : Dev) : Dev :=
  let x := d.chan c
  match x.st with
  | .drive => bdacPark c d
  | .parked => if x.chg.isNone then bdacRelease c d else d
  | .offing => d.setChan c { x with queued := false }
  | _ => d

/-- A park cause arises on a channel (R327): it stops a sine in every state (R335). -/
def bdacCause (h : HoldCause) (c : Nat) (d : Dev) : Dev :=
  let d0 := sineCut c d
  let x := d0.chan c
  let d1 := d0.setChan c { x with pcause := sadd x.pcause h }
  if x.chg.isNone then bdacPark c d1 else d1

/-- A park cause is released: with none left, the channel leaves PARKED or reverses its parking (R325, R327). -/
def bdacUncause (h : HoldCause) (c : Nat) (d : Dev) : Dev :=
  let x := d.chan c
  if h ∈ x.pcause then
    let d1 := d.setChan c { x with pcause := sdel x.pcause h }
    if (sdel x.pcause h).isEmpty ∧ d.flag BDAC_CFG.EN c ∧ !chansLeave d ∧ x.chg.isNone ∧ (x.st = .parked ∨ x.st = .parking) then bdacDrive c d1 else d1
  else d

/-- Every channel a cause reaches: all of them, or those of a group (R327). -/
def bdacCauseAll (h : HoldCause) (which : Nat → Bool) (d : Dev) : Dev :=
  forN 48 (fun c d => if which c then bdacCause h c d else d) d
def bdacUncauseAll (h : HoldCause) (which : Nat → Bool) (d : Dev) : Dev :=
  forN 48 (fun c d => if which c then bdacUncause h c d else d) d

/-- Channels with GRP = g (R327). -/
def chanOfGroup (d : Dev) (g c : Nat) : Bool := d.get BDAC_CFG.GRP c == g

/-- The output stage has powered up, 2 µs after the bank is on (R323, R325): OUT is driven at PARK. A channel whose EN has been
written 0 meanwhile, or that sleep takes down, goes on to OFFING (R326, R355, R360). A first enable opens no window of R328: one
that an earlier park opened goes on until the slew to T ends. -/
def bdacPowered (c : Nat) (d : Dev) : Dev :=
  let x := d.chan c
  if x.starting ∧ (d.dom 71).phase = .on then
    let y := { x with starting := false, driven := true, out := parkCode d c, moved := true }
    if !d.flag BDAC_CFG.EN c ∨ chansLeave d then bdacRelease c (d.setChan c y)
    else if x.pcause.isEmpty then d.setChan c { y with st := .drive, back := x.back && decide (x.t ≠ parkCode d c) }
    else d.setChan c { y with st := .parked, back := true }
  else d

/-- 20 µs of OFFING have passed (R325). -/
def bdacOffed (c : Nat) (d : Dev) : Dev :=
  let x := d.chan c
  if x.st = .offing then
    let d1 := d.setChan c { x with st := .off, queued := false }
    if x.queued ∧ !chansLeave d then bdacPowerOn c d1 else bankDomain d1
  else d

/-! ### Codes (R328, R329) -/

/-- T takes a code: in sine mode the change is a step (R335). -/
def setT (c code : Nat) (d : Dev) : Dev :=
  let x := d.chan c
  let d1 := d.setChan c { x with t := code % 4096, moved := x.moved || x.t != code % 4096 }
  if d.flag BDAC_CFG.MODE c && x.st = .drive && !x.sineOn then d1.setChan c { d1.chan c with out := code % 4096 } else d1

/-- A Carve load or inverse (R328, R240): discarded on a channel not in DRIVE or driven by a loop. Its code stands over a register
load at the same update tick (R329). -/
def bdacCarve (c code : Nat) (d : Dev) : Dev × Bool :=
  if (d.chan c).st ≠ .drive ∨ loopDriven d c then (d, false)
  else
    let d1 := setT c code d
    (d1.setChan c { d1.chan c with carved := some (64 * (coreNow d / 64) + 64) }, true)

/-- A code that a register loads reaches T, unless Carve has set T for the same update tick (R329). -/
def loadT (c code : Nat) (d : Dev) : Dev :=
  if (d.chan c).carved.any fun t => decide (coreNow d ≤ t) then d else setT c code d

/-- The Tow time that the load timer waits for (R332). -/
def timerTime (d : Dev) : Nat := (d.reg .BDAC_TT_HI).toNat * 4294967296 + (d.reg .BDAC_TT_LO).toNat

/-- The armed load timer comes due (R332): every channel with UPD = timer and a pending code takes it at this tick, but for a
loop-driven one, which takes no register load (R329). -/
def timerLoad (d : Dev) : Dev :=
  if d.flag BDAC_TT_CTL.ARM ∧ timerTime d ≤ towNow d then
    let d1 := forN 48 (fun c d =>
      if d.get BDAC_CFG.UPD c = 2 ∧ (d.chan c).pend ∧ !loopDriven d c then
        loadT c (d.chan c).pcode (d.setChan c { d.chan c with pend := false })
      else d) d
    Dev.put { d1 with bdac := { d1.bdac with ttDone := true } } BDAC_TT_CTL.ARM 0 0
  else d

/-- One slew step: OUT moves up to SLEW codes towards its goal; SLEW = 0 takes the goal at once (R333). -/
def slewTo (slew out goal : Nat) : Nat :=
  if slew = 0 then goal
  else if out < goal then min (out + slew) goal else max (out - slew) goal

/-- A slew step of a channel in DRIVE or PARKING (R333). -/
def bdacStep (c : Nat) (d : Dev) : Dev :=
  let x := d.chan c
  if x.st = .parking ∨ (x.st = .drive ∧ !x.sineOn) then
    let o := slewTo (d.get BDAC_CFG.SLEW c) x.out (bdacGoal d c)
    d.setChan c { x with out := o, moved := x.moved || o != x.out,
                         back := x.back && !(x.st = .drive && o == x.t) }
  else d

/-- The frequency a running sine uses: FREQ, or f_p while the isolation probe runs on the channel (R335). -/
def sineFreq (d : Dev) (c : Nat) : Nat := match (d.chan c).probe with | some f => f | none => d.get BDAC_SINE.FREQ c

/-- OUT of a running sine (R335). -/
def sineOut (d : Dev) (c acc : Nat) : Nat :=
  (clampI ((d.chan c).t + sineCode (d.get BDAC_SAMP.AMP c) acc) 0 4095).toNat

/-- An update tick (R329, R331, R332, R335): codes written with UPD immediate reach T, strobed and timed channels load, a loop-driven channel taking neither,
and every running sine advances its accumulator, which drives OUT in DRIVE. Carve's claim on T ends with the tick it belongs to. -/
def bdacTick (d : Dev) : Dev :=
  let step (c : Nat) (d : Dev) : Dev :=
    let d1 := match (d.chan c).imm with
      | some v =>
        let d0 := d.setChan c { d.chan c with imm := none }
        if loopDriven d c then d0 else loadT c v d0
      | none => d
    let d2 := if c ∈ d.bdac.load ∧ (d1.chan c).pend ∧ !loopDriven d c then
        loadT c (d1.chan c).pcode (d1.setChan c { d1.chan c with pend := false })
      else d1
    let x := { d2.chan c with carved := (d2.chan c).carved.filter fun t => decide (coreNow d2 ≤ t) }
    if x.sineOn then
      let acc := (x.acc + sineFreq d2 c) % 15360000
      d2.setChan c { x with acc := acc, out := if x.st = .drive then sineOut d2 c acc else x.out, moved := true }
    else d2.setChan c x
  let d1 := forN 48 step d
  { d1 with bdac := { d1.bdac with load := [] } }

/-- A requested stop meets the next zero crossing: OUT of a driving channel returns to T (R335). -/
def sineZero (c : Nat) (d : Dev) : Dev :=
  let x := d.chan c
  if x.sineOn ∧ x.sineStop then
    (d.setChan c { x with sineOn := false, sineStop := false, acc := 0, out := if x.st = .drive then x.t else x.out, probe := none }).put BDAC_SINE.RUN c 0
  else d

/-! ### Changing span (R334) -/

/-- An accepted write of BDAC_SPAN.GO. Answers whether the state takes it. -/
def spanChange (c span park code : Nat) (d : Dev) : Dev × Bool :=
  let x := d.chan c
  let s : SpanChg := { span := span, park := park, code := code }
  match x.st with
  | .off => ((d.setChan c { x with span := span, t := code }).put BDAC_CFG.PARK c park, true)
  | .drive =>
    let d1 := sineCut c (d.setChan c { x with chg := some s })
    (bdacAtPark c (d1.setChan c { d1.chan c with st := .parking, back := true, moved := true }), true)
  | .parked => (bdacSpanOut c (d.setChan c { x with chg := some s, back := true }), true)
  | _ => (d, false)

/-- The 20 µs of the switch have passed: the new span and PARK = PARK_NEW are driven, and the channel slews to CODE_NEW;
a park cause holds it PARKED, and EN = 0 or the way to SLEEP releases it (R334, R360). -/
def spanDone (c : Nat) (d : Dev) : Dev :=
  let x := d.chan c
  match x.st, x.chg with
  | .span, some s =>
    let d1 := (d.setChan c { x with span := s.span, t := s.code, out := s.park, driven := true, chg := none, moved := true,
                                    st := if x.pcause.isEmpty then .drive else .parked, back := true }).put BDAC_CFG.PARK c s.park
    if !d.flag BDAC_CFG.EN c ∨ d.pwr.sleep = .entering then (if x.pcause.isEmpty then bdacPark c d1 else bdacRelease c d1) else d1
  | _, _ => d

/-! ### Read-back (R323, R336) -/

/-- V(OUT) in units of 1/4,096 µV: V_MIN + code × W / 4,096 (R323). -/
def bdacVolts (span code : Nat) : Int :=
  match span with
  | 0 => code * 2500000
  | 1 => code * 5000000
  | 2 => code * 5000000 - 4096 * 5000000
  | _ => code * 5000000 - 4096 * 2500000

/-- A reading of a channel's pin in millivolts (R336): compared when the channel was in DRIVE or PARKED, not slewing, not
in sine mode and T unchanged throughout the reading. -/
def readBack (e : Env) (c : Nat) (mv : Int) (d : Dev) : Dev :=
  let x := d.chan c
  let tol := d.get BDAC_RB.RB_TOL c
  let x1 := { x with rbValid := true, rbMv := mv, moved := false }
  let comparable := (x.st = .drive || x.st = .parked) && !slewing d c && !x.sineOn && !d.flag BDAC_CFG.MODE c && !x.moved && tol != 0
  if !comparable then d.setChan c x1
  else
    let miss := decide ((tol * 5000 * 4096 : Nat) < (mv * 1000 * 4096 - bdacVolts x.span x.out).natAbs)
    let m := if miss then x.miss + 1 else 0
    let h := if miss then 0 else x.hit + 1
    let mism := if 2 ≤ m then true else if 2 ≤ h then false else x.mism
    setLive e Ev.BDAC_RB_MISMATCH c mism (d.setChan c { x1 with miss := min m 2, hit := min h 2, mism := mism })

end Sys2Proof.Machine
end

