-- ==== Sys2Proof/Machine/Tgpio.lean ====
section
/-! DEFINITION. Timed general-purpose outputs (R86 to R89). -/
namespace Sys2Proof.Machine

/-- The signal a FOLLOW pin follows (SYN_TGPIO_CFG.FSEL, INV). -/
def followSig (d : Dev) (n : Nat) : Bool :=
  let g := d.get SYN_TGPIO_CFG.GRP n
  let st := (d.group g).state
  let s := match d.get SYN_TGPIO_CFG.FSEL n with
    | 0 => st = .tx || st = .duplex
    | 1 => st = .rx || st = .duplex
    | 2 => (d.synth (2 * g + 1)).lock
    | _ => decide (2 ≤ st.code)
  xor s (d.flag SYN_TGPIO_CFG.INV n)

/-- The SAFE level of a pin. -/
def safeLevel (d : Dev) (n : Nat) : Bool := d.flag SYN_TGPIO_CFG.SAFE n

/-- The group a pin is assigned to; a held pin keeps the one it had when the hold began (R89). -/
def pinGrp (d : Dev) (n : Nat) : Nat := (d.pin n).heldGrp.getD (d.get SYN_TGPIO_CFG.GRP n)

/-- A pin takes the first level of its mode: at its enable, at a change of MODE, and at the release of a hold (R86,
R88). A held pin that is enabled drives SAFE. -/
def pinStart (n : Nat) (d : Dev) : Dev :=
  let p := d.pin n
  if !d.flag SYN_TGPIO_CFG.EN n then d.setPin n { p with drive := none, edges := [], heldGrp := none }
  else if !p.hold.isEmpty then
    d.setPin n { p with drive := some (p.drive.getD (safeLevel d n)), edges := [], heldGrp := some (pinGrp d n) }
  else match d.get SYN_TGPIO_CFG.MODE n with
    | 0 => d.setPin n { p with heldGrp := none, drive := some (bitOf (d.reg .SYN_TGPIO_OUT).toNat n), edges := [] }
    | 1 => d.setPin n { p with heldGrp := none, drive := some (safeLevel d n), edges := [] }
    | _ => if d.get SYN_TGPIO_CFG.DLY n = 0 then d.setPin n { p with heldGrp := none, drive := some (followSig d n), edges := [] }
      else d.setPin n { p with heldGrp := none, drive := some (safeLevel d n), edges := [followSig d n] }

/-- An event of R88 holds a pin: an enabled pin goes to SAFE. A pin that is held already stays as it is, since what is
written to its configuration waits for the release (R89). -/
def holdPin (c : HoldCause) (n : Nat) (d : Dev) : Dev :=
  let p := d.pin n
  d.setPin n { p with hold := sadd p.hold c, edges := [],
                        drive := if p.hold.isEmpty then p.drive.map fun _ => safeLevel d n else p.drive,
                        heldGrp := if p.hold.isEmpty then p.drive.map fun _ => d.get SYN_TGPIO_CFG.GRP n else p.heldGrp }

/-- An event of R88 is released on a pin; with no event left the pin starts its mode afresh. -/
def releasePin (c : HoldCause) (n : Nat) (d : Dev) : Dev :=
  let p := d.pin n
  if c ∈ p.hold then
    let d1 := d.setPin n { p with hold := sdel p.hold c }
    if (sdel p.hold c).isEmpty then pinStart n d1 else d1
  else d

/-- Hold or release every pin that an event reaches (R88): all of them, or those assigned to a group. -/
def holdPins (c : HoldCause) (which : Nat → Bool) (d : Dev) : Dev := forN 32 (fun n d => if which n then holdPin c n d else d) d
def releasePins (c : HoldCause) (which : Nat → Bool) (d : Dev) : Dev :=
  forN 32 (fun n d => if which n then releasePin c n d else d) d

/-- Pins assigned to a group. -/
def pinOfGroup (d : Dev) (g n : Nat) : Bool := pinGrp d n == g

/-- FOLLOW pins take up a change of their signal: the edge reaches the pin DLY core cycles later (R86), at once where DLY
is 0 and no edge is under way. -/
def followEdges (d : Dev) : Dev :=
  forN 32 (fun n d =>
    let p := d.pin n
    if d.flag SYN_TGPIO_CFG.EN n && d.get SYN_TGPIO_CFG.MODE n == 2 && p.hold.isEmpty && p.drive.isSome then
      let last := match p.edges.getLast? with | some b => b | none => p.drive.getD false
      if last == followSig d n then d
      else if d.get SYN_TGPIO_CFG.DLY n = 0 ∧ p.edges = [] then d.setPin n { p with drive := some (followSig d n) }
      else d.setPin n { p with edges := p.edges ++ [followSig d n] }
    else d) d

/-- The oldest delayed edge of a FOLLOW pin arrives (R86). -/
def pinEdge (n : Nat) (d : Dev) : Dev :=
  let p := d.pin n
  match p.edges with
  | b :: rest => if p.hold.isEmpty then d.setPin n { p with drive := some b, edges := rest } else d
  | [] => d

/-- A pin is held (R88): an event stands, and the pin drives, which only an enabled pin does, or one that a warm restart found
enabled. -/
def pinHeld (d : Dev) (n : Nat) : Bool := !(d.pin n).hold.isEmpty && (d.pin n).drive.isSome

/-- MANUAL pins take their bit of SYN_TGPIO_OUT (R86); a held pin keeps SAFE (R88). -/
def pinManual (d : Dev) : Dev :=
  forN 32 (fun n d =>
    let p := d.pin n
    if d.flag SYN_TGPIO_CFG.EN n && d.get SYN_TGPIO_CFG.MODE n == 0 && p.hold.isEmpty then
      d.setPin n { p with drive := some (bitOf (d.reg .SYN_TGPIO_OUT).toNat n) }
    else d) d

/-- A Carve edge on a pin; false where R240 discards it (the pin is not in CARVE mode, or held). -/
def pinCarve (n : Nat) (level : Bool) (d : Dev) : Dev × Bool :=
  let p := d.pin n
  if d.get SYN_TGPIO_CFG.MODE n ≠ 1 ∨ pinHeld d n then (d, false)
  else (d.setPin n { p with drive := p.drive.map fun _ => level }, true)

/-- The level sensed at a pin: the driven level, or the level the board's pull holds (SYN_TGPIO_IN). -/
def pinSense (e : Env) (d : Dev) (n : Nat) : Bool :=
  match (d.pin n).drive with
  | some b => b
  | none => bitOf e.pulls n

/-! ### The pair token (R432) -/

/-- The pair-token gate closes; the line is released 2 µs later (R432). -/
def tokenRelease (d : Dev) : Dev :=
  let t := d.tow.tok
  { d with tow := { d.tow with tok := { t with gate := false, letting := t.letting || t.hold } } }

end Sys2Proof.Machine
end

