-- ==== Sys2Proof/Machine/Groups.lean ====
section
/-! DEFINITION. Radio groups and synthesisers (R57 to R80): the sequencer, the lock waits, the band cache and retuning. -/
namespace Sys2Proof.Machine

/-! ### Synthesisers -/

/-- The VCO frequency of an LO frequency, in the units of R67: times the smallest divider of 2, 4, 8, 16, 32 that puts it
into 7.2 to 14.4 GHz. -/
def vcoOf (f : Nat) : Nat :=
  if 786432000 ≤ f * 2 then f * 2
  else if 786432000 ≤ f * 4 then f * 4
  else if 786432000 ≤ f * 8 then f * 8
  else if 786432000 ≤ f * 16 then f * 16
  else f * 32

/-- The fallback of a sensor (R343). -/
def sensorFallback (n : Nat) : Nat :=
  match n with
  | 0 => 1 | 1 => 0 | 2 => 3 | 3 => 2 | 4 => 5 | 5 => 4 | 6 => 12 | 7 => 8 | 8 => 9 | 9 => 10 | 10 => 7 | 11 => 8
  | 12 => 13 | 13 => 12 | 14 => 13 | _ => 14

/-- The reading a consumer of sensor `n` takes: the sensor, its fallback, and the fallback's fallback (R343). -/
def servingTemp (d : Dev) (n : Nat) : Option Int :=
  if !(d.sensor n).broken then (d.sensor n).temp
  else
    let m := sensorFallback n
    if !(d.sensor m).broken then (d.sensor m).temp
    else if !(d.sensor (sensorFallback m)).broken then (d.sensor (sensorFallback m)).temp else none

/-- The die temperature of synthesiser `n`: the present reading of the sensor that serves it, 0.01 °C (R68, R343, R346). -/
def dieTemp (d : Dev) (n : Nat) : Option Int := servingTemp d (4 + n / 2)

/-- A cache entry covers a tuning within ±20 MHz of its VCO frequency (R68); 38.4 MHz / 2^22 to the unit. -/
def BandEntry.coversVco (b : BandEntry) (vco : Nat) : Bool :=
  decide (((vco : Int) - b.vco).natAbs * 384 ≤ 838860800)

/-- A cache entry that serves a tuning at a die temperature: it covers it and was not found more than 40 °C from it (R68). DESIGN CHOICE
(log 223): with no reading, then or now, no difference is known, and the entry serves. -/
def BandEntry.serves (b : BandEntry) (vco : Nat) (temp : Option Int) : Bool :=
  b.coversVco vco &&
    match b.temp, temp with
    | some a, some t => decide ((a - t).natAbs ≤ 4000)
    | _, _ => true

/-- A synthesiser starts to tune to a frequency: it searches for a band unless a cached one serves (R68), and the entry it
uses becomes the most recently used. -/
def tune (f : Nat) (temp : Option Int) (x : Synth) : Synth :=
  match x.cache.find? fun b => b.serves (vcoOf f) temp with
  | some b => { x with freq := f, lock := false, search := false, cache := b :: x.cache.erase b }
  | none => { x with freq := f, lock := false, search := true }

/-- A band search ends with a band: it enters the cache of 16 and replaces the entry used least recently (R68). -/
def foundBand (band : Nat) (temp : Option Int) (x : Synth) : Synth :=
  if x.search then
    { x with search := false, cache := ({ vco := vcoOf x.freq, band := band, temp := temp } :: x.cache).take 16 }
  else x

/-- The accepted frequencies of R67: 400 MHz to 7.2 GHz. -/
def freqOk (f : Nat) : Bool := decide (43690667 ≤ f ∧ f ≤ 786432000)

/-- The group of a synthesiser, and a group's two synthesisers. -/
def rxSyn (g : Nat) : Nat := 2 * g
def txSyn (g : Nat) : Nat := 2 * g + 1

/-! ### The group state -/

/-- The phase of the domains of group `g` that are on from state `low` upwards (R354, R355): POWERING in the step up to
that state, DRAINING and OFFING in the step down from it. -/
def groupDomPhase (x : Group) (low : GSt) : DomPhase :=
  let below : GSt := if low = .standby then .sleep else .standby
  match x.phase with
  | .draining => if x.step = below then .draining else if low.code ≤ x.state.code then .on else .off
  | .offing => if x.step = below then .offing else if low.code ≤ x.state.code then .on else .off
  | .moving => if low.code ≤ x.state.code then .on else if x.step = low then .powering else .off
  | .steady => if low.code ≤ x.state.code then .on else .off

/-- The domains that a group powers: number, whether its masks select it, and the state from which upwards it is on (R354). -/
def groupDoms (g : Nat) (d : Dev) : List (Nat × Bool × GSt) :=
  let chain (base mask c : Nat) : Nat × Bool × GSt := (base + 4 * g + c, bitOf mask c, .standby)
  (List.range 4).map (chain 50 (d.get SYN_GRP_CTL.RX_MASK g)) ++ (List.range 4).map (chain 58 (d.get SYN_GRP_CTL.TX_MASK g)) ++
    [(66 + rxSyn g, true, .synth), (66 + txSyn g, true, .synth)]

/-- The group wants the chains that its masks select from STANDBY upwards and its synthesisers from SYNTH upwards, in the step
up to that state too, and again behind OFFING when a re-enable is queued (R354, R355). -/
def groupDomains (g : Nat) (d : Dev) : Dev :=
  let x := d.group g
  forL (groupDoms g d) (fun p d =>
    let ph := groupDomPhase x p.2.2
    domWant p.1 (p.2.1 && (ph = .on || ph = .powering || (ph = .offing && x.queued))) (ph = .offing) d) d

/-- A step of the group has ended in state `st`: what it powered up is ON, or drains when it is no longer wanted, and what it
powered down is OFF (R355). -/
def groupDomsDone (g : Nat) (st : GSt) (d : Dev) : Dev :=
  forL (groupDoms g d) (fun p d => if p.2.2.code ≤ st.code then domUp p.1 d else domGone p.1 d) d

/-- A drain of the group has reversed: its domains are ON again (R64, R355). -/
def groupDomsBack (g : Nat) (d : Dev) : Dev :=
  forL (groupDoms g d) (fun p d => if (d.dom p.1).req then domDrained p.1 d else d) (groupDomains g d)

/-- The ORX domain is on while either group is in SYNTH or above (R354). -/
def orxDomain (d : Dev) : Dev :=
  let want := decide (2 ≤ (d.group 0).state.code ∨ 2 ≤ (d.group 1).state.code)
  if want = (d.dom 70).req then d else if want then domRequest 70 d else domRelease 70 d

/-- The RX chains of a group that its mask selects receive in RX and DUPLEX (R57). -/
def receives (d : Dev) (chain : Nat) : Bool :=
  let st := (d.group (chain / 4)).state
  (st = .rx || st = .duplex) && bitOf (d.get SYN_GRP_CTL.RX_MASK (chain / 4)) (chain % 4)

/-- An RX chain delivers samples to slices while it receives and is calibrated; otherwise it delivers zeros (R57, R58, R100). -/
def delivers (d : Dev) (chain : Nat) : Bool := receives d chain && decide ((d.rxChain chain).cal = .done)

/-- A group shows a state (R57): the power of its chains, the ORX and the FOLLOW pins go with it. -/
def showGroup (g : Nat) (d : Dev) : Dev := followEdges (orxDomain (groupDomains g d))

/-- The state the sequencer passes through next on its way (R59): down from RX, TX or DUPLEX to SYNTH directly, up to
DUPLEX through RX, and between RX, TX and DUPLEX directly. -/
def nextState (s t : GSt) : GSt :=
  if s = t then s
  else match s with
    | .sleep => .standby
    | .standby => if t = .sleep then .sleep else .synth
    | .synth => match t with
      | .sleep => .standby
      | .standby => .standby
      | .duplex => .rx
      | t => t
    | .rx => if t = .tx then .tx else if t = .duplex then .duplex else .synth
    | .tx => if t = .rx then .rx else if t = .duplex then .duplex else .synth
    | .duplex => if t = .rx then .rx else if t = .tx then .tx else .synth

/-- A target that turns on TX chains (chapter 3, "Lock gating of transmit"). -/
def GSt.transmits (t : GSt) : Bool := t = .tx || t = .duplex

/-- Start the step from the state a steady group holds towards `nxt`. The STANDBY → SYNTH step powers the synthesisers on
the stored frequencies (R70). -/
def startStep (g : Nat) (nxt : GSt) (d : Dev) : Dev :=
  let x := d.group g
  let down := (x.state = .synth && nxt = .standby) || (x.state = .standby && nxt = .sleep)
  let d1 := d.setGroup g { x with phase := if down then .draining else .moving, step := nxt, reversing := false,
                                  queued := false, txWait := false, nominal := false, stepAt := coreNow d }
  if x.state = .standby ∧ nxt = .synth then
    let up (n : Nat) (d : Dev) : Dev :=
      d.setSynth n { tune (d.reg .SYN_LO_FREQ n).toNat (dieTemp d n) (d.synth n) with
        on := true, retune := false, start := none, pend := none, shut := false, lost := false, tables := 0 }
    showGroup g (up (txSyn g) (up (rxSyn g) d1))
  else showGroup g d1

/-- Go on towards the target (R61, R64, R72): a drain reverses or a re-enable queues behind OFFING; a steady group starts
its next step, or stays where it is while a transmit request waits for the TX synthesiser; a group that has just reached SYNTH first has its
start-up calibration (R102). DEDUCED (log 170): the drain of a failed or backed-off
STANDBY → SYNTH step, which leaves no state, reverses into that step, since its synthesisers return to ON (R355), and a step
that was to back off at its nominal time goes on. -/
def advance (g : Nat) (d : Dev) : Dev :=
  let x := d.group g
  match x.phase with
  | .draining =>
    if (x.state.code ≤ x.target.code ∧ x.state ≠ x.step) ∨ (x.state = x.step ∧ 2 ≤ x.target.code) then
      d.setGroup g { x with reversing := true }
    else d
  | .offing => groupDomains g (d.setGroup g { x with queued := decide (x.step.code < x.target.code) })
  | .moving => if x.reversing ∧ 2 ≤ x.target.code then d.setGroup g { x with reversing := false } else d
  | .steady =>
    if x.state = x.target then d.setGroup g { x with txWait := false }
    else if x.fresh then d
    else if x.target.transmits && 2 ≤ x.state.code && !(d.synth (txSyn g)).lock then
      d.setGroup g { x with txWait := true }
    else startStep g (nextState x.state x.target) d

/-- A group comes to rest in a state. -/
def arrive (g : Nat) (st : GSt) (d : Dev) : Dev :=
  let x := d.group g
  let d1 := d.setGroup g { x with state := st, phase := .steady, step := st, reversing := false, txWait := false, nominal := false
                                  fresh := st = .synth }
  showGroup g (groupDomsDone g st d1)

/-- The power of the synthesisers goes away: they are off and not locked. LO_UNLOCK stays live until lock returns (R75). -/
def synthsOff (g : Nat) (d : Dev) : Dev :=
  let off (n : Nat) (d : Dev) : Dev :=
    d.setSynth n { d.synth n with on := false, lock := false, retune := false, start := none, pend := none,
                                  search := false, shut := false, lost := false, tables := 0 }
  followEdges (off (txSyn g) (off (rxSyn g) d))

/-- A group in the STANDBY → SYNTH step powers its synthesisers down again, through the ordinary phases back to STANDBY (R74,
R76): inside the nominal time of the step they complete their POWERING first (R355). Any other goes on towards its target. -/
def backOff (g : Nat) (d : Dev) : Dev :=
  let x := d.group g
  if x.state = .standby ∧ x.phase = .moving ∧ x.step = .synth then
    if x.nominal then
      groupDomains g ((domUp (66 + txSyn g) (domUp (66 + rxSyn g) d)).setGroup g
        { x with phase := .draining, step := .standby, reversing := false, txWait := false, nominal := false })
    else d.setGroup g { x with reversing := true }
  else advance g d

/-- The STANDBY → SYNTH step has failed to lock (R74). A latest request for SLEEP stands (R61, R360). -/
def giveUp (e : Env) (g : Nat) (d : Dev) : Dev :=
  let x := d.group g
  let d1 := raiseLive e d Ev.LO_LOCK_FAIL g
  backOff g (d1.setGroup g { d1.group g with target := if x.target = .sleep then .sleep else .standby, txWait := false, nominal := false })

/-- The end of the nominal time of STANDBY → SYNTH, or a lock after it (R72, R74): the step completes when the RX
synthesiser has locked and, for a transmit request, the TX synthesiser too. -/
def trySynth (g : Nat) (d : Dev) : Dev :=
  let x := d.group g
  if !(d.synth (rxSyn g)).lock then
    d.setGroup g { x with nominal := true, txWait := x.target.transmits && !(d.synth (txSyn g)).lock }
  else if x.target.transmits && !(d.synth (txSyn g)).lock then d.setGroup g { x with nominal := true, txWait := true }
  else advance g (arrive g .synth d)

/-- Go on after the target has changed: a STANDBY → SYNTH step past its nominal time is judged afresh (R61, R72). -/
def goOn (g : Nat) (d : Dev) : Dev :=
  let x := d.group g
  if x.phase = .moving ∧ x.state = .standby ∧ x.step = .synth ∧ x.nominal then trySynth g d else advance g d

/-- A phase of the step in progress ends (R59, R63, R64). -/
def stepDone (g : Nat) (d : Dev) : Dev :=
  let x := d.group g
  match x.phase with
  | .steady => d
  | .draining =>
    if x.reversing ∧ x.state = x.step then
      trySynth g (groupDomsBack g (d.setGroup g { x with phase := .moving, step := .synth, reversing := false, nominal := true }))
    else if x.reversing then advance g (groupDomsBack g (d.setGroup g { x with phase := .steady, step := x.state, reversing := false }))
    else
      let d1 := groupDomains g (d.setGroup g { x with phase := .offing })
      advance g (if x.step = .standby then synthsOff g d1 else d1)
  | .offing => advance g (arrive g x.step (d.setGroup g { x with queued := false }))
  | .moving =>
    if x.step = .synth ∧ x.state = .standby then
      if x.reversing then backOff g (d.setGroup g { x with nominal := true }) else trySynth g d
    else advance g (arrive g x.step d)

/-! ### Requests (R61, R62, R76, R77, R80) -/

/-- Whether a target request is discarded from outside (R274, R351, R360): TX and DUPLEX while a STOP stands, everything
above SLEEP after SHUTDOWN or while the device goes to sleep, everything above STANDBY in the boot fallback. -/
def requestBarred (d : Dev) (t : GSt) : Bool :=
  (t.transmits && d.ptl.phase ≠ .none_) || (t ≠ .sleep && (d.thm.sd || d.pwr.sleep ≠ .awake)) || d.pwr.failed ||
    (decide (2 ≤ t.code) && d.boot.phase = .fallback)

/-- A target request reaches the sequencer. It is discarded where R274, R351 or R360 says so, and above STANDBY while HELD
(R76); CRITICAL holds a request above STANDBY (R349), and a calibration every request (R77); above STANDBY without both
frequencies the group goes no further than STANDBY, with CFG_REJ (R80). -/
def request (g : Nat) (t : GSt) (d : Dev) : Dev :=
  let x := d.group g
  if requestBarred d t then d
  else if x.held ∧ 2 ≤ t.code then d
  else if d.thm.crit.on ∧ 2 ≤ t.code then d.setGroup g { x with critReq := some t }
  else if x.cal then d.setGroup g { x with heldReq := some t }
  else if 2 ≤ t.code ∧ ((d.reg .SYN_LO_FREQ (rxSyn g)).toNat = 0 ∨ (d.reg .SYN_LO_FREQ (txSyn g)).toNat = 0) then
    goOn g ((d.setBit SYN_GRP_STAT.CFG_REJ g).setGroup g { x with target := .standby })
  else goOn g (d.setGroup g { x with target := t })

/-! ### Lock (R69 to R75) -/

/-- The TX wait ends without lock (R73): the transmit part of the request is dropped, or the whole request where the RX
synthesiser has not locked either (R74). DESIGN CHOICE (log 169): a group that waited in TX or DUPLEX, which R73 does not name, stays there
on a request for TX. -/
def txWaitEnd (e : Env) (g : Nat) (d : Dev) : Dev :=
  let x := d.group g
  if !x.txWait || !x.target.transmits then d
  else
    let d1 := raiseLive e (d.setGroup g { x with txWait := false, txtoCnt := satN (x.txtoCnt + 1) 0xFF }) Ev.TX_LOCK_TIMEOUT g
    if !(d1.synth (rxSyn g)).lock then giveUp e g d1
    else
      let waited : GSt := if x.nominal then .synth else x.state
      let d2 := d1.setGroup g { d1.group g with target := if x.target = .duplex then .rx else waited }
      if x.nominal then trySynth g d2 else advance g d2

/-- The RX lock wait ends without lock (R74). -/
def rxWaitEnd (e : Env) (g : Nat) (d : Dev) : Dev :=
  let x := d.group g
  if x.nominal && x.state = .standby && !(d.synth (rxSyn g)).lock then giveUp e g d else d

/-- A synthesiser declares lock (R69): a search result enters the cache, the faults that wait for it clear, a retune ends,
and the group goes on. -/
def locked (n band : Nat) (d : Dev) : Dev :=
  let g := n / 2
  let y := foundBand band (dieTemp d n) (d.synth n)
  let d1 := d.setSynth n { y with lock := true, lockAt := coreNow d, lost := false, retune := false, tables := y.freq }
  let d2 := clearLive d1 Ev.LO_UNLOCK n
  let d3 := if n % 2 = 1 then clearLive d2 Ev.TX_LOCK_TIMEOUT g else clearLive d2 Ev.LO_LOCK_FAIL g
  let x := d3.group g
  let d4 := if x.nominal ∧ x.state = .standby ∧ x.phase = .moving then trySynth g d3
    else if x.phase = .steady then advance g d3 else d3
  followEdges d4

/-- A loss of lock while the group is in SYNTH or above, or a retune that fails to lock (R70, R75): counted, LO_UNLOCK
live, the TX lock gate shut. -/
def lostLock (e : Env) (n : Nat) (d : Dev) : Dev :=
  let y := d.synth n
  let d1 := d.setSynth n { y with lock := false, lost := true, unlockCnt := satN (y.unlockCnt + 1) 0xFF,
                                  shut := y.shut || n % 2 = 1 }
  followEdges (raiseLive e d1 Ev.LO_UNLOCK n)

/-- A shut TX lock gate reopens at the first boundary after lock has held for 10 µs, 9,831 core cycles (R75). -/
def reopenGates (d : Dev) : Dev :=
  forN 4 (fun n d =>
    let y := d.synth n
    if y.shut && y.lock && decide (y.lockAt + 9831 ≤ coreNow d) then d.setSynth n { y with shut := false } else d) d

/-- The lock and state gate of the group's TX chains (R26, R72, R75). -/
def lockGate (d : Dev) (g : Nat) : Bool :=
  (d.group g).state.transmits && (d.synth (txSyn g)).lock && !(d.synth (txSyn g)).shut

/-- The frequency of the retune that starts at the next boundary (R70): one that a write scheduled, or a pending one once the retune
or the STANDBY → SYNTH step that it waited for is over. -/
def Synth.due (y : Synth) : Option Nat :=
  match y.start with
  | some f => some f
  | none => if y.retune then none else y.pend

/-- The retune that is due starts at this boundary (R70). -/
def startRetune (n : Nat) (d : Dev) : Dev :=
  let y := d.synth n
  match y.due with
  | some f => if 2 ≤ (d.group (n / 2)).state.code then
      followEdges (d.setSynth n { tune f (dieTemp d n) y with retune := true, start := none, pend := none })
    else d.setSynth n { y with start := none }
  | none => d

/-- An accepted frequency takes effect by the state of the group (R70); the register holds it already. A step towards STANDBY
counts as going down from the step out of RX, TX or DUPLEX on. -/
def newFreq (n f : Nat) (d : Dev) : Dev :=
  let g := n / 2
  let x := d.group g
  let y := d.synth n
  let goingDown := ((x.phase = .draining || x.phase = .offing) && decide (x.step.code ≤ 1) && !x.reversing) ||
    (x.phase = .moving && decide (x.target.code ≤ 1) && x.step = .synth)
  if x.state.code ≤ 1 then
    (if x.phase = .moving ∧ x.step = .synth then d.setSynth n { y with pend := some f } else d)
  else if goingDown then d
  else if y.retune || y.pend.isSome then d.setSynth n { y with pend := some f }
  else d.setSynth n { y with start := some f }

/-- A GROUP escalation (R76): HELD is set, a group above STANDBY goes to STANDBY and one in STANDBY stays there; a step up
from SLEEP ends in STANDBY. DESIGN CHOICE (log 171): a group that is on its way to SLEEP keeps SLEEP as its target. -/
def holdGroup (g : Nat) (d : Dev) : Dev :=
  let x := d.group g
  let t : GSt := if x.state = .sleep && x.phase = .steady then .sleep
    else if x.target = .sleep then .sleep else .standby
  backOff g (d.setGroup g { x with held := true, target := t })

end Sys2Proof.Machine
end

