-- ==== Sys2Proof/Machine/CarveQueue.lean ====
section
/-! DEFINITION. Carve (chapter 10): actions, epochs, confirmation, unwinding and the closing of epochs from outside. -/
namespace Sys2Proof.Machine

/-! ### Actions as words (CRV_ACT_A, B, C) -/

/-- The target of an action (R238). -/
def targetOf (a b : Word) : Target :=
  let idx := CRV_ACT_B.IDX.of b
  match CRV_ACT_A.TYPE.of a with
  | 0 => .tgpio idx
  | 1 => .rffe (CRV_ACT_B.MST.of b) (CRV_ACT_B.USID.of b) idx
  | 2 => .bdac idx
  | _ => .group idx

/-- A pending action at a frame time. -/
def actionOf (a b c : Word) (time : Nat) : CAct :=
  { target := targetOf a b, xw := CRV_ACT_B.XW.bit b, val := CRV_ACT_C.VAL.of c,
    inv := if CRV_ACT_A.HAS_INV.bit a then some (CRV_ACT_C.INV.of c) else none,
    gated := CRV_ACT_A.GATED.bit a, time := time % ftMod, st := .pending, ord := 0 }

/-- A group value that turns on TX (R239). -/
def codeTransmits (v : Nat) : Bool := v % 8 == 4 || v % 8 == 5

/-- The RANGE checks of R247 that concern one action's target and values. -/
def actionRange (a b c : Word) : Bool :=
  let idx := CRV_ACT_B.IDX.of b
  let v := CRV_ACT_C.VAL.of c
  let inv := CRV_ACT_C.INV.of c
  let hasInv := CRV_ACT_A.HAS_INV.bit a
  match CRV_ACT_A.TYPE.of a with
  | 0 => decide (idx ≤ 31)
  | 1 => decide (idx ≤ (if CRV_ACT_B.XW.bit b then 0xFF else 0x1F))
  | 2 => decide (idx ≤ 47)
  | _ => decide (idx ≤ 1) && decide (v % 8 ≤ 5) && (!hasInv || decide (inv % 8 ≤ 5))

/-! ### Epochs -/

/-- Change Carve. -/
def Dev.modCrv (d : Dev) (f : Carve → Carve) : Dev := { d with crv := f d.crv }

/-- Change one open epoch, named by its order. -/
def setEpoch (ord : Nat) (f : Epoch → Epoch) (d : Dev) : Dev :=
  d.modCrv fun c => { c with epochs := c.epochs.map fun x => if x.ord = ord then f x else x }

/-- Change one action of an epoch. -/
def setAct (ord k : Nat) (f : CAct → CAct) (d : Dev) : Dev := setEpoch ord (fun x => { x with acts := x.acts.modify k f }) d

/-- Entries in use and free (CRV_STAT). -/
def crvUsed (d : Dev) : Nat := d.crv.epochs.foldl (fun n x => n + x.acts.length) 0

/-- The lowest free epoch number. -/
def epochNumber (d : Dev) : Option Nat := (List.range 256).find? fun k => d.crv.epochs.all fun x => x.num != k

/-- An action that stands for good: executed, discarded or cancelled. -/
def ActSt.ended (a : ActSt) : Bool := a = .executed || a = .discarded || a = .cancelled

/-- Drop an epoch; the execution log is needed only while epochs are open. -/
def retire (ord : Nat) (d : Dev) : Dev :=
  d.modCrv fun c =>
    let es := c.epochs.filter fun x => x.ord ≠ ord
    { c with epochs := es, log := if es.isEmpty then [] else c.log }

/-- A CONFIRMED epoch with every action executed or discarded and its window closed retires (R242). -/
def retireIf (ord : Nat) (d : Dev) : Dev :=
  match d.crv.epochs.find? fun x => x.ord = ord with
  | some x => if x.confirmed && x.windowShut && x.acts.all (fun a => a.st.ended) then retire ord d else d
  | none => d

/-- Note the execution of an action, and answer its order. -/
def noteExec (a : CAct) (ord : Nat) (d : Dev) : Dev × Nat :=
  let n := d.crv.execCtr + 1
  (d.modCrv fun c => { c with
    execCtr := n, log := c.log ++ [{ target := a.target, ord := ord, n := n, core := coreNow d, xw := a.xw, val := a.val }] }, n)

/-- The one-byte RFFE write of an action (R238). -/
def rffeWrite (t : Target) (xw : Bool) (v : Nat) : Nat × RffeCmd :=
  match t with
  | .rffe m usid addr => (m, { typ := if xw then 1 else 0, usid := usid, addr := addr, data := [v % 256] })
  | _ => (0, { typ := 0, usid := 0, addr := 0, data := [] })

/-- What became of an attempt to carry out an action on its target. -/
inductive Did where
  | done | dropped | onBus
deriving DecidableEq, Repr

/-- Carry out a value on a target under the discard rules of R240. An RFFE write goes to its master as a timed write. -/
def perform (t : Target) (xw : Bool) (v at_ ord : Nat) (act : Option (Nat × Nat)) (d : Dev) : Dev × Did :=
  match t with
  | .tgpio n => match pinCarve n (v % 2 == 1) d with | (d1, ok) => (d1, if ok then .done else .dropped)
  | .rffe m _ _ =>
    if d.flag SYN_RFFE_CFG.EN m then
      (rffeTimed m { cmd := (rffeWrite t xw v).2, at_ := at_, ord := ord, act := act } d, .onBus)
    else (d, .dropped)
  | .bdac c => match bdacCarve c (v % 4096) d with | (d1, ok) => (d1, if ok then .done else .dropped)
  | .group g => match GSt.ofCode (v % 8) with | some s => (request g s d, .done) | none => (d, .dropped)

/-- An action discarded under R240 is counted. -/
def countDiscard (d : Dev) : Dev := d.modCrv fun c => { c with discard := satN (c.discard + 1) 0xFF }

/-- Execute action `k` of an epoch at a frame time: its own, or the confirmation's (R240, R242). -/
def execAct (ord k : Nat) (at_ : CAct → Nat) (d : Dev) : Dev :=
  match (d.crv.epochs.find? fun x => x.ord = ord).bind fun x => x.acts[k]? with
  | none => d
  | some a =>
    match perform a.target a.xw a.val (at_ a) ord (some (ord, k)) d with
    | (d1, .done) =>
      let (d2, n) := noteExec a ord d1
      setAct ord k (fun a => { a with st := .executed, ord := n }) d2
    | (d1, .dropped) => setAct ord k (fun a => { a with st := .discarded }) (countDiscard d1)
    | (d1, .onBus) => setAct ord k (fun a => { a with st := .onBus }) d1

/-- The sequence of a Carve RFFE action starts on the bus: the action is executed (R238). -/
def rffeExecuted (act : Option (Nat × Nat)) (d : Dev) : Dev :=
  match act with
  | none => d
  | some (ord, k) =>
    match (d.crv.epochs.find? fun x => x.ord = ord).bind fun x => x.acts[k]? with
    | none => d
    | some a =>
      let (d1, n) := noteExec a ord d
      retireIf ord (setAct ord k (fun a => { a with st := .executed, ord := n }) d1)

/-! ### Due actions (R240, R242) -/

/-- The PENDING actions whose time has come: time, epoch order, index. -/
def dueActs (d : Dev) : List (Int × Nat × Nat) :=
  let now := ftNow d
  d.crv.epochs.flatMap fun x =>
    ((List.range x.acts.length).zip x.acts).filterMap fun p =>
      if p.2.st = .pending ∧ ftAhead now p.2.time ≤ 0 then some (ftAhead now p.2.time, x.ord, p.1) else none

/-- Insert by time, keeping the queue order of equal times. -/
def insertDue (x : Int × Nat × Nat) : List (Int × Nat × Nat) → List (Int × Nat × Nat)
  | [] => [x]
  | y :: ys => if x.1 < y.1 then x :: y :: ys else y :: insertDue x ys

/-- Due actions in the order they execute: by time, and at equal times as they entered the queue (R240). -/
def sortDue (l : List (Int × Nat × Nat)) : List (Int × Nat × Nat) := l.foldl (fun acc x => insertDue x acc) []

/-- A due action executes, or is deferred while its epoch is OPEN and it is GATED (R242). -/
def runDue (ord k : Nat) (d : Dev) : Dev :=
  match d.crv.epochs.find? fun x => x.ord = ord with
  | none => d
  | some x =>
    match x.acts[k]? with
    | none => d
    | some a =>
      if a.st ≠ .pending then d
      else if a.gated ∧ !x.confirmed then setAct ord k (fun a => { a with st := .deferred }) d
      else retireIf ord (execAct ord k CAct.time d)

/-- Everything that is due now (R240). -/
def runAllDue (d : Dev) : Dev := forL (sortDue (dueActs d)) (fun p d => runDue p.2.1 p.2.2 d) d

/-! ### Opening epochs (R241) -/

/-- An epoch opens whole or not at all (R241): it needs a number, its entries, and 2 µs (1,966.08 cycles) to its earliest
action. Answers whether it opened. -/
def openEpoch (e : Env) (x : Epoch) (d : Dev) : Dev × Bool :=
  match epochNumber d with
  | none => (report e (d.modCrv fun c => { c with skipFull := satN (c.skipFull + 1) 0xFF }) Ev.CRV_FULL, false)
  | some num =>
    if 4096 < crvUsed d + x.acts.length then
      (report e (d.modCrv fun c => { c with skipFull := satN (c.skipFull + 1) 0xFF }) Ev.CRV_FULL, false)
    else if x.acts.any fun a => decide (ftAhead (ftNow d) a.time < 1967) then
      (report e (d.modCrv fun c => { c with skipLate := satN (c.skipLate + 1) 0xFF }) Ev.CRV_LATE, false)
    else
      (d.modCrv fun c => { c with ordCtr := c.ordCtr + 1, epochs := c.epochs ++ [{ x with num := num, ord := c.ordCtr + 1 }] }, true)

/-- A template's contradicted run (R254). -/
def tplRun (d : Dev) (m : Nat) : Nat := tget (fun _ => 0) d.crv.tplRun m
def setTplRun (e : Env) (m n : Nat) (d : Dev) : Dev :=
  let d1 := d.modCrv fun c => { c with tplRun := tset (fun _ => 0) c.tplRun m (satN n 0xFF) }
  setLive e Ev.CRV_CONTRA_RUN m (decide (16 ≤ n)) d1

/-- The actions of an enabled template around an edge (R244). -/
def templateActs (d : Dev) (m edge : Nat) : List CAct :=
  (List.range (d.get CRV_TPL_CFG.NACT m + 1)).map fun k =>
    let j := d.get CRV_TPL_CFG.FIRST m + k
    let a := d.reg .CRV_ACT_A j
    actionOf a (d.reg .CRV_ACT_B j) (d.reg .CRV_ACT_C j)
      (((edge : Int) + CRV_ACT_A.OFS.int a + ftMod) % ftMod).toNat

/-- The epoch a template makes of an edge (R244). -/
def templateEpoch (d : Dev) (m edge : Nat) : Epoch :=
  let at_ (z : Int) : Nat := (((edge : Int) + z + ftMod) % ftMod).toNat
  { num := 0, ord := 0, tpl := some m, confirmed := false, rise := !d.flag CRV_TPL_CFG.KIND m,
    setconf := d.flag CRV_TPL_CFG.SETCONF m, cslice := d.get CRV_TPL_CFG.CSLICE m,
    wOpen := at_ (d.int CRV_TPL_WIN.W_OPEN m), wClose := at_ (d.int CRV_TPL_WIN.W_CLOSE m),
    fallN := d.get CRV_TPL_AUX.FALL_N m, windowOpen := false, windowShut := false, acts := templateActs d m edge }

/-! ### Unwinding (R248 to R250) -/

/-- The later executions of other epochs on a target (R248). -/
def laterOn (d : Dev) (t : Target) (ord n : Nat) : List CrvExec :=
  d.crv.log.filter fun x => x.target = t && x.ord != ord && decide (n < x.n)

/-- A later action of another epoch has executed on the target (R248), before this core cycle: one of this cycle counts as coming
after the inverse (R250). -/
def overtaken (d : Dev) (t : Target) (ord n : Nat) : Bool := (laterOn d t ord n).any fun x => decide (x.core < coreNow d)

/-- Issue the inverse of an executed action, unless it is overtaken (R248, R249). Other epochs' actions of this core cycle on the
target stand after it (R250). -/
def issueInverse (ord : Nat) (a : CAct) (d : Dev) : Dev :=
  match a.inv with
  | none => d
  | some v =>
    if overtaken d a.target ord a.ord then d.modCrv fun c => { c with invSkip := satN (c.invSkip + 1) 0xFF }
    else
      let d1 := match perform a.target a.xw v (ftNow d) 0 none d with
        | (d1, .dropped) => countDiscard d1
        | (d1, _) => d1
      forL (laterOn d a.target ord a.ord) (fun x d => (perform x.target x.xw x.val (ftNow d) 0 none d).1) d1

/-- Executed actions, latest first. -/
def executedDesc (l : List CAct) : List CAct :=
  (l.filter fun a => a.st = .executed).foldl (fun acc a =>
    (acc.takeWhile fun b => decide (a.ord < b.ord)) ++ [a] ++ (acc.dropWhile fun b => decide (a.ord < b.ord))) []

/-- Unwind an epoch (R248): cancel what has not executed, an action waiting for the bus included (R249), issue the inverses
in reverse order, and retire. -/
def unwind (ord : Nat) (d : Dev) : Dev :=
  match d.crv.epochs.find? fun x => x.ord = ord with
  | none => d
  | some x =>
    let d1 := forN 4 (fun m d => d.setRffe m { d.rffeM m with
      timed := (d.rffeM m).timed.filter fun t => match t.act with | some (o, _) => o ≠ ord | none => true }) d
    retire ord (forL (executedDesc x.acts) (fun a d => issueInverse ord a d) d1)

/-- An epoch is contradicted (R246): it is unwound and its template's run grows. -/
def contradict (e : Env) (ord : Nat) (d : Dev) : Dev :=
  match d.crv.epochs.find? fun x => x.ord = ord with
  | none => d
  | some x =>
    if x.confirmed then d
    else
      let d1 := d.modCrv fun c => { c with contraCnt := (c.contraCnt + 1) % 65536 }
      let d2 := match x.tpl with | some m => setTplRun e m (tplRun d1 m + 1) d1 | none => d1
      unwind ord d2

/-- An epoch is confirmed (R242): its DEFERRED actions execute at once, in queue order (an RFFE write
is timed for now), and its template's run ends. -/
def confirm (e : Env) (ord : Nat) (d : Dev) : Dev :=
  match d.crv.epochs.find? fun x => x.ord = ord with
  | none => d
  | some x =>
    if x.confirmed then d
    else
      let d1 := setEpoch ord (fun x => { x with confirmed := true }) (d.modCrv fun c => { c with confCnt := (c.confCnt + 1) % 65536 })
      let d2 := match x.tpl with | some m => setTplRun e m 0 d1 | none => d1
      let d3 := forL (((List.range x.acts.length).zip x.acts).filter fun p => p.2.st = .deferred)
        (fun p d => execAct ord p.1 (fun _ => ftNow d) d) d2
      retireIf ord d3

/-! ### Who can confirm (R245, R246) -/

/-- The slices whose reports can confirm an epoch (R245). -/
def confirmers (d : Dev) (x : Epoch) : List Nat :=
  if x.setconf then
    (List.range 192).filter fun s => s == x.cslice || (d.flag SLC_CTL.EN s && d.get SLC_CFG0.MSET s == d.get SLC_CFG0.MSET x.cslice)
  else [x.cslice]

/-- A slice that cannot confirm: IDLE, SHED or FAILED, or without a source chain delivering samples (R246). -/
def cannotConfirm (d : Dev) (s : Nat) : Bool :=
  let st := (d.slice s).st
  st = .idle || st = .shed || st = .failed || !delivers d (srcOf d s)

/-- Contradict every OPEN epoch whose window is open and that no slice can confirm (R246). -/
def contradictLost (e : Env) (d : Dev) : Dev :=
  forL (d.crv.epochs.filter fun x => !x.confirmed && x.windowOpen && (confirmers d x).all (cannotConfirm d))
    (fun x d => contradict e x.ord d) d

/-- The last presence report of a slice arrived inside an epoch's window (R245). -/
def reportInside (d : Dev) (x : Epoch) (s : Nat) : Bool :=
  let since : Int := (coreNow d - (d.slice s).presAt : Nat)
  decide (ftAhead (ftNow d) x.wOpen + since ≤ 0) && decide (0 ≤ ftAhead (ftNow d) x.wClose + since)

/-- A slice's presence report confirms an epoch whose window is open (R245): for a RISE, signal in a report that arrived inside the
window; for a FALL, FALL_N windows without signal. -/
def reportConfirms (d : Dev) (x : Epoch) (s : Nat) : Bool :=
  !x.confirmed && x.windowOpen && decide (s ∈ confirmers d x) &&
    (if x.rise then (d.slice s).pres && reportInside d x s else decide (x.fallN ≤ (d.slice s).noSig))

/-! ### Closing from outside (R251) -/

/-- Unwind the epochs a condition picks. -/
def unwindWhere (p : Epoch → Bool) (d : Dev) : Dev := forL (d.crv.epochs.filter p) (fun x d => unwind x.ord d) d

/-- An action targets a group, or a TGPIO or RFFE master assigned to it (R77). -/
def actsOnGroup (d : Dev) (g : Nat) (a : CAct) : Bool :=
  match a.target with
  | .group k => k == g
  | .tgpio n => pinGrp d n == g
  | .rffe m _ _ => d.get SYN_RFFE_CFG.GRP m == g
  | .bdac _ => false

/-- An epoch that still holds an action on the group to come (R77, R251). -/
def epochOnGroup (d : Dev) (g : Nat) (x : Epoch) : Bool :=
  x.acts.any fun a => actsOnGroup d g a && (a.st = .pending || a.st = .deferred || a.st = .onBus)

/-- The calibration of a group. -/
def gcal (d : Dev) (g : Nat) : GCal := if g = 0 then d.cal.g0 else d.cal.g1
def setGcal (g : Nat) (x : GCal) (d : Dev) : Dev :=
  { d with cal := if g = 0 then { d.cal with g0 := x } else { d.cal with g1 := x } }

/-- A group's start-up or on-request calibration is under way: it holds the ORX for its whole time (R97). -/
def calUnderWay (d : Dev) (g : Nat) : Bool := (gcal d g).run || (gcal d g).toSynth

/-- An on-request calibration of a group is under way: its slices are suppressed and its calibration mutes closed (R100, R105). -/
def onReqRuns (d : Dev) (g : Nat) : Bool := (gcal d g).onReq && calUnderWay d g

/-- An epoch that holds an action on the group timed inside its on-request calibration, which started `since` core cycles after the
start of the block and lasts up to 40 ms (R77). DESIGN CHOICE (log 177): an action whose scheduled time has passed when the
calibration starts is not timed inside it, though it may still be deferred. -/
def epochInCal (d : Dev) (g since : Nat) (x : Epoch) : Bool :=
  x.acts.any fun a => actsOnGroup d g a && (a.st = .pending || a.st = .deferred || a.st = .onBus) &&
    decide ((since : Int) ≤ coreNow d + ftAhead (ftNow d) a.time) &&
    decide (coreNow d + ftAhead (ftNow d) a.time ≤ (since : Int) + 39321600)

/-- A master that is disabled discards the Carve writes that wait for its bus (R240). DESIGN CHOICE (log 235): its FIFO stays, and the
sequence on the bus ends with its own command; its lines show low at once (R85). -/
def rffeDisable (m : Nat) (d : Dev) : Dev :=
  let xs := (d.rffeM m).timed
  forL xs (fun t d => match t.act with
    | some (ord, k) => retireIf ord (setAct ord k (fun a => { a with st := .discarded }) (countDiscard d))
    | none => countDiscard d) (d.setRffe m { d.rffeM m with timed := [] })

/-- An epoch may not open (R77, R251, R360): Carve is off, a STOP, benching, SHUTDOWN, a queue fault or the sleep sequence
stands, or the epoch acts on a group that is held, or inside a group's on-request calibration. -/
def openBarred (d : Dev) (x : Epoch) : Bool :=
  !d.flag CRV_CTL.EN || d.ptl.phase = .stopping || d.ptl.phase = .stopped || d.tow.st = .bench || d.thm.sd ||
    isLive d Ev.CRV_CHECK noInst || d.pwr.sleep ≠ .awake ||
    [0, 1].any fun g => ((d.group g).held && epochOnGroup d g x) || (onReqRuns d g && epochInCal d g (gcal d g).since x)

end Sys2Proof.Machine
end

