-- ==== Sys2Proof/Machine/Planes.lean ====
section
/-! DEFINITION. The arithmetic of slice latency (R147 to R153), of carrier frequencies (R126, R128) and of the planes: user
offsets (R111) and the system gain of a slice (R134). -/
namespace Sys2Proof.Machine

/-! ### Latency -/

/-- Cycles of the decimation or interpolation stage of class `c` (R147); class C7 takes 280. -/
def stageCycles (c : Nat) : Nat := if 7 ≤ c then 280 else 265 + 30 * 2 ^ (6 - c)

/-- The fixed part F(c) of a class in core cycles (R147). -/
def fixedPart (c : Nat) : Nat := 118 + stageCycles c + 49 + stageCycles c + 99

/-- Core cycles per slice sample of class `c`: 2^(9 − c). -/
def sampleCycles (c : Nat) : Nat := 2 ^ (9 - c)

/-- MINLAT of a class and filter length (R147). -/
def minLat (c flen : Nat) : Nat := fixedPart c + (flen - 1) / 2 * sampleCycles c

/-- N_lat of a latency setting in core cycles: LAT × 9.8304, rounded to the nearest (R148). -/
def nLat (lat : Nat) : Nat := (2 * lat * 98304 + 10000) / 20000

/-- FILL: ⌈(N_lat − MINLAT) / 2^(9 − c)⌉ slice samples, 0 while MINLAT exceeds N_lat (R150). -/
def fillOf (c flen lat : Nat) : Nat := (nLat lat - minLat c flen + sampleCycles c - 1) / sampleCycles c

/-- DMEAS (R152) and DPRES (R153). -/
def dMeas (c flen : Nat) : Nat := 118 + stageCycles c + (flen - 1) / 2 * sampleCycles c
def dPres (c : Nat) : Nat := 118 + stageCycles c

/-- SU of a class (R120). -/
def suOf (c : Nat) : Nat := if c ≤ 2 then 1 else 2 ^ (c - 2)

/-- Delay-line blocks of a class at a latency: ⌈⌈r·L⌉ × 4 / 4,096⌉, r = 1.92 MS/s · 2^c and L in 0.01 µs (R143). -/
def delayBlocks (c lat : Nat) : Nat :=
  let samples := (lat * 192 * 2 ^ c + 9999) / 10000
  (samples * 4 + 4095) / 4096

/-- Canceller blocks: ⌈R × (T + 32) × 8 / 4,096⌉ (R143). -/
def cnlBlocks (refs taps : Nat) : Nat := (refs * (taps + 32) * 8 + 4095) / 4096

/-- Stencil blocks: ⌈8·NP × 16 / 4,096⌉ (R143, R225). -/
def stnBlocks (np : Nat) : Nat := (8 * np * 16 + 4095) / 4096

/-- The frame time at which the samples of the period just closed began to cross the RX pin, for a detector `delay` core cycles
behind it (R152, R177). -/
def planeStart (d : Dev) (delay : Nat) : Nat := (ftNow d + 2 * ftMod - periodCycles - delay) % ftMod

/-! ### What a slice runs -/

/-- The class, source, sink and NCO words a slice's register file asks for. -/
def wantEff (d : Dev) (s : Nat) : SlEff :=
  { cls := d.get SLC_CFG0.CLASS s, src := d.get SLC_CFG0.SRC s, sink := d.get SLC_CFG0.SINK s,
    rx := (d.reg .SLC_NCO_RX s).toNat, tx := (d.reg .SLC_NCO_TX s).toNat }

/-- The configuration a slice runs: what took effect, or the registers while it is IDLE (R123, R124). -/
def effOf (d : Dev) (s : Nat) : SlEff := if (d.slice s).st = .idle then wantEff d s else (d.slice s).eff

/-- The direction of a slice: true is UL. -/
def isUl (d : Dev) (s : Nat) : Bool := d.flag SLC_CFG0.DIR s

/-- The filter length of a slice. -/
def flenOf (d : Dev) (s : Nat) : Nat := d.get SLC_CFG1.FLEN s

/-- The latency in effect in a slice's direction, in 0.01 µs. -/
def latOf (d : Dev) (s : Nat) : Nat := if isUl d s then d.pool.latUl else d.pool.latDl

/-- The MIMO set of a slice. -/
def msetOf (d : Dev) (s : Nat) : Nat := d.get SLC_CFG0.MSET s

/-! ### Frequencies, in NCO units of 1,875/4,096 Hz (R126) -/

/-- The nominal LO of synthesiser `n` in NCO units: 20 to an LO unit. -/
def loUnits (d : Dev) (n : Nat) : Nat := (d.reg .SYN_LO_FREQ n).toNat * 20

/-- The LO of synthesiser `n` in use, and the LO that the tables of its chains are loaded for (R109), in NCO units. A synthesiser
that is off stands for the frequency stored for it (R70). -/
def loNow (d : Dev) (n : Nat) : Nat := let y := d.synth n; if y.on then y.freq * 20 else loUnits d n
def loTab (d : Dev) (n : Nat) : Nat := let y := d.synth n; if y.on ∧ y.tables ≠ 0 then y.tables * 20 else loUnits d n

/-- Passband edge of a class in NCO units, times 1,875: 781,250·2^c Hz · 4,096 (R119). -/
def edgeScaled (c : Nat) : Nat := 781250 * 2 ^ c * 4096

/-- One side of the range check of R128: the LO is set, |offset| plus the edge is at most 800 MHz, and the carrier's edges
lie within 400 MHz to 7.2 GHz. -/
def rangeSide (lo : Nat) (ofs : Int) (c : Nat) : Bool :=
  let edge : Int := edgeScaled c
  let centre : Int := ((lo : Int) + ofs) * 1875
  lo != 0 && decide (ofs.natAbs * 1875 + edgeScaled c ≤ 800000000 * 4096) &&
    decide ((400000000 * 4096 : Int) ≤ centre - edge) && decide (centre + edge ≤ (7200000000 * 4096 : Int))

/-- The signed NCO word. -/
def ncoInt (w : Nat) : Int := toSigned 32 w

/-- The allowed ranges of a direction (R276): the carrier must lie wholly inside one. -/
def inAllowed (e : Env) (ul : Bool) (lo : Nat) (ofs : Int) (c : Nat) : Bool :=
  match e.fix with
  | none => false
  | some f =>
    let edge : Int := edgeScaled c
    let centre : Int := ((lo : Int) + ofs) * 1875
    (if ul then f.ul else f.dl).any fun r =>
      decide (((r.1 * 1000 * 4096 : Nat) : Int) ≤ centre - edge) && decide (centre + edge ≤ ((r.2 * 1000 * 4096 : Nat) : Int))

/-- The range check of R128 with the allowed ranges of R276, for a configuration of a direction. -/
def rangeOk (e : Env) (d : Dev) (ul : Bool) (x : SlEff) : Bool :=
  rangeSide (loUnits d (2 * (x.src / 4))) (ncoInt x.rx) x.cls &&
    rangeSide (loUnits d (2 * (x.sink / 4) + 1)) (ncoInt x.tx) x.cls &&
    inAllowed e ul (loUnits d (2 * (x.sink / 4) + 1)) (ncoInt x.tx) x.cls

/-- A frequency in NCO units as whole hertz (nearest), for the calibration tables. -/
def unitsHz (u : Int) : Int := roundDivAway (u * 1875) 4096

/-- The carrier's centre on its source and sink side in hertz, by the LO that the tables are loaded for (R109). -/
def carrierRx (d : Dev) (x : SlEff) : Int := unitsHz ((loTab d (2 * (x.src / 4)) : Int) + ncoInt x.rx)
def carrierTx (d : Dev) (x : SlEff) : Int := unitsHz ((loTab d (2 * (x.sink / 4) + 1) : Int) + ncoInt x.tx)

/-! ### Planes -/

/-- Linear interpolation between points of rising frequency, flat beyond the ends, 0 without points (R111). -/
def interp : List (Nat × Int) → Int → Int
  | [], _ => 0
  | [p], _ => p.2
  | p :: q :: t, f =>
    if f ≤ p.1 then p.2
    else if f < q.1 then p.2 + roundDivAway ((q.2 - p.2) * (f - p.1)) (q.1 - p.1)
    else interp (q :: t) f

/-- User offsets in 0.01 dB of an RX and a TX chain at a frequency (R111). -/
def rxOffset (d : Dev) (c : Nat) (f : Int) : Int := interp ((d.ucal.rx.lookup c).getD []) f
def txOffset (d : Dev) (c : Nat) (f : Int) : Int := interp ((d.ucal.tx.lookup c).getD []) f

/-- The factory points and the I/Q and LO-leakage seeds of a chain (R110). -/
def facPoints (d : Dev) (tx : Bool) (c : Nat) : List (Nat × Int × Int) := ((if tx then d.cal.fac.tx else d.cal.fac.rx).lookup c).getD []
def facSeeds (d : Dev) (tx : Bool) (c : Nat) : List (Nat × Cpx × Cpx) := ((if tx then d.cal.fac.txSeed else d.cal.fac.rxSeed).lookup c).getD []

/-- The factory gain of a chain at a frequency, 0.01 dB, with its coefficients at the temperature applied (R110, R346). -/
def facGain (d : Dev) (tx : Bool) (c : Nat) (f : Int) : Int :=
  let ps := facPoints d tx c
  interp (ps.map fun p => (p.1, p.2.1)) f +
    roundDivAway (interp (ps.map fun p => (p.1, p.2.2)) f * (if tx then d.txChain c else d.rxChain c).facD) 10000

/-- The temperature applied to a chain's coefficients goes to that of its sensor, no gain moving by more than 0.05 dB (R346). -/
def facStep (ps : List (Nat × Int × Int)) (ref now : Int) (x : Chain) : Int :=
  let most := ps.foldl (fun (m : Nat) p => max m p.2.2.natAbs) 0
  if most = 0 then now - ref else x.facD + clampI (now - ref - x.facD) (-(50000 / most : Nat)) (50000 / most : Nat)

/-- G_tap and C_tap of an ORX tap at a frequency, where the area holds points. -/
def tapGain (d : Dev) (t : Nat) (f : Int) : Option Int :=
  (d.ucal.tap.lookup t).bind fun ps => if ps.isEmpty then none else some (interp (ps.map fun p => (p.1, p.2.1)) f)
def tapCoup (d : Dev) (t : Nat) (f : Int) : Option Int :=
  (d.ucal.tap.lookup t).bind fun ps => if ps.isEmpty then none else some (interp (ps.map fun p => (p.1, p.2.2)) f)

/-- ADC full scale at the RX pin with the VGA and its inverse digital step (R92), and DAC full scale at the TX pin at an
attenuation of 0 dB (R95), 0.01 dBm. -/
def adcFull : Int := -1200
def dacFull : Int := 1300

/-- The level of DAC full scale of TX chain `c` at the output plane (R95, R110, R111, R175): factory value plus user offset. -/
def planeTx (d : Dev) (c : Nat) (f : Int) : Int := dacFull - 50 * ((d.txChain c).att : Int) + facGain d true c f + txOffset d c f

/-- The level of ADC full scale of RX chain `c` at the input plane. -/
def planeRx (d : Dev) (c : Nat) (f : Int) : Int := adcFull - facGain d false c f - rxOffset d c f

/-- SLC_SYSG (R134): the gain from the input plane to the output plane, in every state; none while either chain is not
CALIBRATED. -/
def sysg (d : Dev) (s : Nat) : Option Int :=
  let x := effOf d s
  if (d.rxChain x.src).cal = .done ∧ (d.txChain x.sink).cal = .done then
    some (clampI (planeTx d x.sink (carrierTx d x) - planeRx d x.src (carrierRx d x) + (d.loop s).out +
      (d.loop (192 + x.sink)).out) (-32767) 32767)
  else none

/-! ### The Fixative's limits -/

/-- The Fixative maximum gain of a direction, 0.01 dB. -/
def fixGain (e : Env) (ul : Bool) : Option Int := e.fix.map fun f => ((if ul then f.gmaxUl else f.gmaxDl : Nat) : Int) * 10

/-- The Fixative maximum composite power of a TX chain, 0.01 dBm. -/
def fixPower (e : Env) (c : Nat) : Option Int := e.fix.map fun f => f.pmax.getD c 0 * 10

/-- The Fixative minimum margin, 0.01 dB. -/
def fixMargin (e : Env) : Int := match e.fix with | some f => (f.margin * 10 : Nat) | none => 0

/-- Patrol's trim limit of a slice: the lowest in force, +327.67 dB while none is (R202, R259). -/
def trimOf (d : Dev) (s : Nat) : Int := (d.psl s).trims.foldl (fun m p => min m p.2) 32767

end Sys2Proof.Machine
end

