-- ==== Sys2Proof/Machine/Loops.lean ====
section
/-! DEFINITION. Glide (R218 to R224) and the loop engine (R188 to R217): the control law, the limit unit, the modes, lost and
frozen feedback, following error and overruns. -/
namespace Sys2Proof.Machine

/-! ### Glide: fixed point with 16 fractional bits, 32 bits, ties away from zero (R220) -/

/-- One unit. -/
def one16 : Int := 65536

/-- Saturation at the ends of the signed 32-bit range. -/
def sat32 (z : Int) : Int := clampI z (-2147483648) 2147483647

/-- A loop period as seconds: numerator and denominator. -/
abbrev Dt := Nat × Nat

/-- A product with the step size, and a quotient by it. -/
def mulDt (x : Int) (dt : Dt) : Int := sat32 (roundDivAway (x * dt.1) dt.2)
def divDt (x : Int) (dt : Dt) : Int := sat32 (roundDivAway (x * dt.2) dt.1)

/-- The sign of a number. -/
def sgn (z : Int) : Int := if 0 < z then 1 else if z < 0 then -1 else 0

/-- The step of R220. -/
def glideStep (vmax amax jmax : Nat) (dt : Dt) (g : Glide) : Glide :=
  let target := g.tgt * one16
  let rest : Glide := { g with pos := target, vel := 0, acc := 0 }
  let d := sat32 (target - g.pos)
  if vmax = 0 then rest
  else
    let vm := sat32 (vmax * one16)
    let am := sat32 (amax * one16)
    let vb : Int := if amax = 0 then vm else sat32 (sqrtNear (2 * amax * d.natAbs * 65536))
    let vg := sgn d * min vm vb
    let ag0 := divDt (sat32 (vg - g.vel)) dt
    let ag1 := if amax = 0 then ag0 else clampI ag0 (-am) am
    let ag2 := if jmax = 0 then ag1
      else
        let jd := mulDt (jmax * one16) dt
        let lo := sat32 (g.acc - jd)
        let hi := sat32 (g.acc + jd)
        clampI ag1 (if 0 < g.acc then min lo 0 else lo) (if g.acc < 0 then max hi 0 else hi)
    let vel := sat32 (g.vel + mulDt ag2 dt)
    let next := sat32 (g.pos + mulDt vel dt)
    if d = 0 ∨ (0 < d ∧ target ≤ next) ∨ (d < 0 ∧ next ≤ target) then rest
    else { g with pos := next, vel := vel, acc := ag2 }

/-- At rest, or stopped (R224). -/
def Glide.rest (g : Glide) : Bool :=
  g.shape = .stopped || (g.pos == g.tgt * one16 && g.vel == 0 && g.acc == 0)

/-- A stopped profile. -/
def Glide.stop (g : Glide) : Glide := { g with shape := .stopped, vel := 0, acc := 0, followLo := false }

/-- A profile preset to an output, to shape the output (R208, R218). -/
def glideOutput (out tgt : Int) (follow : Bool) : Glide :=
  { pos := out * one16, vel := 0, acc := 0, tgt := tgt, shape := .output, followLo := follow }

/-- The nearest unit to a position. -/
def unitsOf (pos : Int) : Int := roundDivAway pos 65536

/-! ### Set-points, manual values, periods -/

/-- The output range of a loop (R188). -/
def outRange (i : Nat) : Int × Int := if i < 192 then (-3000, 6000) else if i < 200 then (-4000, 0) else (0, 4095)

/-- The effective set-point: for a composite loop the lesser of LOOP_SP and the Fixative maximum (R197). -/
def effSp (e : Env) (d : Dev) (i : Nat) : Int :=
  let sp := d.int LOOP_SP.SP i
  if 192 ≤ i ∧ i < 200 then match fixPower e (i - 192) with | some p => min sp p | none => sp else sp

/-- The manual value (R207): the gain last accepted for a slice loop, its output where none was; LOOP_MAN otherwise. -/
def manValue (d : Dev) (i : Nat) : Int :=
  if i < 192 then (d.loop i).man.getD (d.loop i).out else d.int LOOP_MAN.VAL i

/-- PER of a loop: every period for loops 0 to 199; 0 is once per lap. -/
def perOf (d : Dev) (i : Nat) : Nat := if i < 200 then 1 else d.get LOOP_SRC.PER i

/-- The loop period in seconds (R219). -/
def loopDt (d : Dev) (i : Nat) : Dt := if perOf d i = 0 then (1024, 100000) else (perOf d i, 8000)

/-! ### The Stencil that serves a slice -/

/-- The enabled Stencil attached to a slice. -/
def stencilOn (d : Dev) (s : Nat) : Option Nat :=
  (List.range 32).find? fun n => d.flag STN_CFG.EN n && d.get STN_CFG.SLICE n == s

/-- Branch 0 of a slice's MIMO set. -/
def branch0 (d : Dev) (s : Nat) : Option Nat :=
  (List.range 192).find? fun b => d.flag SLC_CTL.EN b && msetOf d b == msetOf d s && d.get SLC_CFG0.BRANCH b == 0

/-- The Stencil that serves slice `s`: its own, else the one on branch 0 of its set (R195). -/
def stencilFor (d : Dev) (s : Nat) : Option Nat :=
  match stencilOn d s with
  | some n => some n
  | none => (branch0 d s).bind (stencilOn d)

/-! ### Limits (R202 to R204) -/

/-- HI and LO lowered so that LO does not exceed HI. -/
def ordered (hi lo : Int) : Int × Int := (hi, min lo hi)

/-- The limits of a composite loop (R203); without a Fixative its HI equals its LO (R202). -/
def compLims (e : Env) (d : Dev) (i : Nat) : Int × Int :=
  let hi := min (d.int LOOP_LIM.UCEIL i) 0
  let lo := max (d.int LOOP_LIM.FLOOR i) (-4000)
  if e.fix.isNone then (min lo hi, min lo hi) else ordered hi lo

/-- The non-digital gain of R195: composite gain at its upper limit. -/
def nonDigital (m : Meas) (cgHi : Int) : Option Int := m.sysg.map fun g => g - m.gain - m.comp + cgHi

/-- HI and LO of loop `i` from the records of the last period (R202, R203). -/
def limits (e : Env) (d : Dev) (i : Nat) : Int × Int :=
  if i < 192 then
    let m := (d.slice i).meas
    let cgHi := (compLims e d (192 + (effOf d i).sink)).1
    match nonDigital m cgHi, fixGain e (isUl d i) with
    | some gnd, some gmax =>
      let ceil := min (min gmax (d.canc i).ceil) (d.int LOOP_LIM.UCEIL i)
      let lim := min ceil (trimOf d i)
      ordered (clampI (lim - gnd) (-3000) 6000) (clampI (d.int LOOP_LIM.FLOOR i - gnd) (-3000) 6000)
    | _, _ => (-3000, -3000)
  else if i < 200 then compLims e d i
  else ordered (min (d.int LOOP_LIM.UCEIL i) 4095) (max (d.int LOOP_LIM.FLOOR i) 0)

/-- A value clamped by the limits in force; unclamped before the first boundary. -/
def Loop.clamp (x : Loop) (v : Int) : Int := match x.lims with | some (hi, lo) => clampI v lo hi | none => v

/-! ### Records (R193, R195 to R198) -/

/-- What the slice records of the loop engine hold: y of R195, with the Stencil's prediction. DESIGN CHOICE (log 218): a record with VALID = 1
whose slice shows no system gain gives the loop no y, and still counts for frozen detection. -/
def sliceRec (e : Env) (d : Dev) (i : Nat) : Option LRec :=
  let m := (d.slice i).meas
  let cgHi := (compLims e d (192 + (effOf d i).sink)).1
  let base : Int := match m.rms, nonDigital m cgHi with | some r, some g => r + m.gain + g | _, _ => 0
  let usable := m.valid && m.rms.isSome && m.sysg.isSome
  let (occ, counts) : Int × Bool :=
    if d.flag LOOP_CFG.STN i then
      match (stencilFor d i).map (d.stencil ·) with
      | none => (0, true)
      | some x =>
        if x.withdrawn then (0, false)
        else match x.predB with
          | .none_ => (0, true)
          | .empty => (0, false)
          | .occ z => (z, true)
    else (0, true)
  some { seq := m.seq, raw := m.raw, y := base - occ, valid := usable && counts, frz := m.valid && counts && m.pres, start := m.start }

/-- The record of a composite loop (R193, R197). -/
def compRec (d : Dev) (i : Nat) : Option LRec :=
  (d.eng.comp.lookup (i - 192)).map fun (seq, raw, y, act) => { seq := seq, raw := raw, y := y, valid := act, frz := act }

/-! ### Modes (R206 to R209) -/

/-- Enter HOLD (R208, R212): keep the output, note the cause, start the hold count, record LOOP_HOLD. A MODE write that waits
stays accepted (R206). No valid measurement has come since the entry (R209). -/
def enterHold (e : Env) (c : LCause) (i : Nat) (d : Dev) : Dev :=
  let x := d.loop i
  let d1 := d.setLoop i { x with
    mode := .hold, cause := c, timeout := false, held := 0, staged := none, yLast := none,
    persists := true, holdCnt := satN (x.holdCnt + 1) 0xFF, glide := x.glide.stop, glideWas := none, fe := false, feCnt := 0 }
  report e (clearLive d1 Ev.LOOP_FOLLOW i) Ev.LOOP_HOLD i

/-- A loop leaves its mode for OPEN: Glide stops, the output stays (R208). -/
def enterOpen (i : Nat) (shed : Bool) (d : Dev) : Dev :=
  let x := d.loop i
  let d1 := clearLive (clearLive d Ev.LOOP_FOLLOW i) Ev.LOOP_HOLD_TO i
  d1.setLoop i { x with
    mode := .open_, cause := .none_, timeout := false, staged := none, computes := false, yLast := none,
    glide := x.glide.stop, glideWas := none, fe := false, feCnt := 0, shedAuto := shed }

/-- Enter MANUAL: Glide preset to the present output, target the manual value (R208). -/
def enterManual (i : Nat) (d : Dev) : Dev :=
  let x := d.loop i
  let d1 := clearLive (clearLive d Ev.LOOP_FOLLOW i) Ev.LOOP_HOLD_TO i
  d1.setLoop i { x with
    mode := .manual, cause := .none_, timeout := false, staged := none, phase := 0, u := 256 * x.out, yLast := none, seenSeq := none,
    glide := glideOutput x.out (manValue d i) false, glideWas := none, fe := false, feCnt := 0, shedAuto := false }

/-- A record is new to a loop: not the last one that it used (R210), nor the last one that closed for it in OPEN. -/
def Loop.isNew (x : Loop) (r : LRec) : Bool := x.lastSeq != some r.seq && x.seenSeq != some r.seq

/-- The last valid measurement of a loop, a new record that closes at this boundary included (R209). -/
def yPresent (x : Loop) (rec_ : Option LRec) : Option Int :=
  match rec_ with
  | some r => if r.valid && x.isNew r then some r.y else x.yLast
  | none => x.yLast

/-- The bumpless transfer into AUTO (R209), with the record that closes at its boundary. -/
def enterAuto (e : Env) (i : Nat) (rec_ : Option LRec) (d : Dev) : Dev :=
  let x := d.loop i
  let sp := effSp e d i
  let d1 := clearLive (clearLive d Ev.LOOP_FOLLOW i) Ev.LOOP_HOLD_TO i
  d1.setLoop i { x with
    mode := .auto, cause := .none_, timeout := false, staged := none, phase := 0,
    u := 256 * x.clamp x.out, sp := sp,
    glide := { pos := (yPresent x rec_).getD sp * one16, vel := 0, acc := 0, tgt := sp, shape := .setPoint, followLo := false }, glideWas := none,
    missRun := 0, frzRun := 0, seenSeq := none, fe := false, feCnt := 0, shedAuto := false }

/-- LOOP_LUT tables are journalled when the first loop selecting one enters MANUAL or AUTO after writes (R216). -/
def lutJournal (e : Env) (i : Nat) (d : Dev) : Dev :=
  let t := d.get LOOP_CFG.LUT_SEL i
  if t ∈ d.eng.dirty then
    let ws := (List.range 64).map fun j => (d.reg .LOOP_LUT t j).toNat
    journalTable e byHw (RegName.LOOP_LUT.addr t 0) (RegName.LOOP_LUT.addr t 63 + 3) (crcWords ws) false
      { d with eng := { d.eng with dirty := sdel d.eng.dirty t } }
  else d

/-- Modes requested take effect at a boundary (R206); a loop that is in the mode already stays as it is, but for the
SHED_AUTO of an OPEN one (R208). -/
def takeMode (e : Env) (i : Nat) (rec_ : Option LRec) (d : Dev) : Dev :=
  match (d.loop i).want with
  | none => d
  | some m =>
    let d1 := d.setLoop i { d.loop i with want := none, back := false }
    if m = (d.loop i).mode then d1.setLoop i { d1.loop i with shedAuto := (d1.loop i).shedAuto && m ≠ .open_ }
    else match m with
    | .open_ => enterOpen i false d1
    | .manual => lutJournal e i (enterManual i d1)
    | .auto => lutJournal e i (enterAuto e i rec_ d1)
    | .hold => d1

/-- A slice is shed, FAILED or IDLE: its loop goes to OPEN (R208). A return to AUTO that waits for its boundary falls away; an
accepted MODE write does not (R206). -/
def loopSliceGone (s : Nat) (shed : Bool) (d : Dev) : Dev :=
  let x := d.loop s
  let d1 := if x.back then d.setLoop s { x with want := none, back := false } else d
  if x.mode = .open_ then d1 else enterOpen s (shed && x.mode = .auto) d1

/-- A restored slice enters ACTIVE: its loop returns to AUTO at the next boundary (R208, R209). -/
def loopRestored (s : Nat) (d : Dev) : Dev :=
  let x := d.loop s
  if x.mode = .open_ ∧ x.shedAuto ∧ x.want = none then d.setLoop s { x with want := some .auto, back := true } else d

/-- SHED_AUTO clears when the slice reaches IDLE (R208). -/
def loopSliceIdle (s : Nat) (d : Dev) : Dev :=
  let d1 := loopSliceGone s false d
  d1.setLoop s { d1.loop s with shedAuto := false }

/-- Whether a loop may enter AUTO: a set-point, and for a general loop a source (R208). -/
def autoOk (d : Dev) (i : Nat) : Bool :=
  decide (d.get LOOP_SP.SP i ≠ 0x8000) && (decide (i < 200) || decide (d.get LOOP_SRC.MSRC i ≠ 0))

/-! ### The control law (R199, R201) -/

/-- Entry `j` of an error table. -/
def lutAt (d : Dev) (t j : Nat) : Int := d.int ⟨.LOOP_LUT, 0, 16⟩ t j

/-- The correction in 2^-8 output units for an error in 2^-16 measurement units (R199). -/
def correction (d : Dev) (i : Nat) (e16 : Int) : Int :=
  let estep := d.get LOOP_CFG.ESTEP i
  let x := clampI (roundDivAway e16 estep) (-2064384) 2064384
  let p := (x + 2064384).toNat
  let j := min (p / 65536) 62
  let f : Int := (p : Int) - j * 65536
  let t := d.get LOOP_CFG.LUT_SEL i
  let c16 := lutAt d t j * 65536 + f * (lutAt d t (j + 1) - lutAt d t j)
  let corr := roundDivAway (c16 * 2 ^ d.get LOOP_CFG.KSH i) 65536
  if d.flag LOOP_CFG.NEG i then -corr else corr

/-- The integrator of R201 between HI and LO: the new state and whether integration was frozen. -/
def integrate (u corr hi lo : Int) (valid : Bool) : Int × Bool :=
  let u0 := if 256 * hi < u then 256 * hi else u
  let u1 := if u0 < 256 * lo then 256 * lo else u0
  if valid then
    let frz := (256 * hi ≤ u1 && 0 < corr) || (u1 ≤ 256 * lo && corr < 0)
    (if frz then u1 else clampI (u1 + corr) (256 * lo) (256 * hi), frz)
  else (u1, false)

/-- The cycles an instance costs in a period in which it computes (R194); one in HOLD costs a Glide step that it takes (R224). -/
def loopCost (d : Dev) (i : Nat) : Nat :=
  let x := d.loop i
  let glide := if (x.glideWas.getD x.glide).rest then 0 else 270
  match x.mode with
  | .open_ => 0
  | .manual => if x.computes then 180 + glide else 0
  | .hold => match x.glideWas with
    | some g => if g.shape = .stopped then 0 else 180 + glide
    | none => 0
  | .auto =>
    if x.computes then
      180 + (if i < 192 ∧ d.flag LOOP_CFG.STN i ∧ (stencilFor d i).any (fun n => (d.stencil n).st = .armed) then 90 else 0) +
        glide + (if d.get LOOP_SUP.FE_N i = 0 then 0 else 100)
    else 0

/-- Freshness and frozen records (R210, R211): the counts after this loop period's record. -/
def feed (x : Loop) : Loop :=
  match x.rec_ with
  | none => { x with missRun := x.missRun + 1, missCnt := satN (x.missCnt + 1) 0xFF }
  | some r =>
    if x.lastSeq = some r.seq then { x with missRun := x.missRun + 1, missCnt := satN (x.missCnt + 1) 0xFF }
    else
      let frozen := r.frz && x.lastRaw == some r.raw
      { x with missRun := 0, lastSeq := some r.seq, lastRaw := some r.raw,
               frzRun := if frozen then x.frzRun + 1 else 0,
               valid := r.valid, yLast := if r.valid then some r.y else x.yLast }

/-- Whether a record is fresh. -/
def fresh (x : Loop) : Bool := match x.rec_ with | some r => x.lastSeq != some r.seq | none => false

/-- Following error (R213). -/
def following (e : Env) (i : Nat) (e16 : Int) (valid frz : Bool) (d : Dev) : Dev :=
  let x := d.loop i
  let n := d.get LOOP_SUP.FE_N i
  let big := valid && !frz && decide ((d.get LOOP_SUP.FE_TH i * d.get LOOP_CFG.ESTEP i : Nat) * one16 < 10 * (e16.natAbs : Int))
  let within := valid && decide (10 * (e16.natAbs : Int) ≤ (d.get LOOP_SUP.FE_TH i * d.get LOOP_CFG.ESTEP i : Nat) * one16)
  if n = 0 then d
  else if big then
    let c := x.feCnt + 1
    let d1 := d.setLoop i { x with feCnt := c, fe := x.fe || decide (n ≤ c) }
    if n ≤ c then raiseLive e d1 Ev.LOOP_FOLLOW i else d1
  else
    let d1 := d.setLoop i { x with feCnt := 0, fe := x.fe && !within }
    if within then clearLive d1 Ev.LOOP_FOLLOW i else d1

/-- An AUTO loop computes its period (R195 to R201, R208, R210, R211, R213). -/
def computeAuto (e : Env) (i : Nat) (d : Dev) : Dev :=
  let was := d.loop i
  let x := feed was
  let d0 := d.setLoop i x
  if 2 ≤ x.missRun then enterHold e .miss i d0
  else if 64 ≤ x.frzRun then enterHold e .frozen i d0
  else if !fresh was then d0
  else match x.rec_ with
    | none => d0
    | some r =>
      let (hi, lo) := x.lims.getD (outRange i).swap
      let e16 := x.glide.pos - r.y * one16
      let (u, frz) := integrate x.u (correction d i e16) hi lo r.valid
      let d1 := d0.setLoop i { x with
        u := u, frz := frz, staged := some (roundDivAway u 256),
        gsp := some (unitsOf x.glide.pos)
        err := if r.valid then clampI (unitsOf e16) (-32768) 32767 else x.err }
      following e i e16 r.valid frz d1

/-- The end of a HOLD's feedback condition ends LOOP_HOLD_TO (R212). -/
def holdFeed (i : Nat) (d : Dev) : Dev :=
  let was := d.loop i
  let x := feed was
  let still := match x.cause with
    | .miss => !fresh was
    | .frozen => fresh was && decide (was.frzRun < x.frzRun)
    | .ovr => decide (d.eng.ovrRun ≠ 0)
    | .none_ => false
  let d1 := d.setLoop i { x with persists := x.persists && still }
  if x.persists && !still then clearLive d1 Ev.LOOP_HOLD_TO i else d1

/-- One loop of the engine in one period. -/
def computeLoop (e : Env) (i : Nat) (d : Dev) : Dev :=
  let x := d.loop i
  if !x.computes then d
  else match x.mode with
    | .auto => computeAuto e i d
    | .manual =>
      let y := feed x
      d.setLoop i { y with staged := some (unitsOf y.glide.pos) }
    | .hold =>
      let d1 := holdFeed i d
      let y := d1.loop i
      if y.timeout then d1.setLoop i { y with staged := some (unitsOf y.glide.pos) } else d1
    | .open_ =>
      match x.rec_ with
      | some r => d.setLoop i { x with seenSeq := some r.seq, yLast := if r.valid && x.isNew r then some r.y else x.yLast }
      | none => d

/-- The limit unit clamps a staged output (R204); a clamped output that Glide shapes takes the profile with it (R223). -/
def clampStaged (i : Nat) (d : Dev) : Dev :=
  let x := d.loop i
  match x.staged with
  | none => d
  | some v =>
    let c := x.clamp v
    let g := if c ≠ v ∧ x.glide.shape = .output then { x.glide with pos := c * one16, vel := 0, acc := 0 } else x.glide
    let u := if x.mode = .auto then x.u else 256 * c
    d.setLoop i { x with staged := some c, glide := g, u := u }

/-- The engine's load of a period (R194): the busiest core in percent of 110,000 cycles. -/
def engineLoad (d : Dev) : Nat :=
  let core (k : Nat) : Nat := (d.loops.filter fun p => p.1 % 4 == k).foldl (fun n p => n + loopCost d p.1) 0
  satN (max (max (core 0) (core 1)) (max (core 2) (core 3)) * 100 / 110000) 0xFF

/-- Periods overrun no longer (R212, R215): LOOP_OVERRUN ends, and the LOOP_HOLD_TO of every loop held with CAUSE = OVR. -/
def endOverrun (d : Dev) : Dev :=
  forN 256 (fun i d =>
    let x := d.loop i
    if x.mode = .hold ∧ x.cause = .ovr ∧ x.persists then clearLive (d.setLoop i { x with persists := false }) Ev.LOOP_HOLD_TO i else d)
    (clearLive { d with eng := { d.eng with ovrRun := 0 } } Ev.LOOP_OVERRUN)

/-- All cores finished in time: the period's outputs are staged (R191, R215). -/
def computeAll (e : Env) (d : Dev) : Dev :=
  if !d.eng.due then d
  else
    let ld := engineLoad d
    let d0 := if d.eng.ovrRun = 0 then d else endOverrun d
    let d1 := forN 256 (fun i d => clampStaged i (computeLoop e i d)) d0
    { d1 with eng := { d1.eng with due := false, load := ld, loadPk := max d1.eng.loadPk ld } }

/-- No output of the running period takes effect, its records are discarded, and Glide steps back. -/
def undoPeriod (d : Dev) : Dev :=
  forN 256 (fun i d =>
    let x := d.loop i
    d.setLoop i { x with glide := x.glideWas.getD x.glide, glideWas := none, staged := none, computes := false }) d

/-- The compute deadline with an unfinished core (R214, R215): no output of the period takes effect, its records are
discarded, Glide steps back, and the fourth in a row holds every loop in MANUAL or AUTO. DESIGN CHOICE (log 217): so does each further one
in a row, for a loop that has been moved to AUTO or MANUAL since. -/
def overrun (e : Env) (d : Dev) : Dev :=
  let d1 := undoPeriod d
  let run := d1.eng.ovrRun + 1
  let d2 := { d1 with eng := { d1.eng with due := false, ovrCnt := satN (d1.eng.ovrCnt + 1) 0xFF, ovrRun := satN run 7 } }
  let d3 := report e d2 Ev.LOOP_OVR
  if run < 4 then d3
  else
    let d4 := raiseLive e d3 Ev.LOOP_OVERRUN
    forN 256 (fun i d => if (d.loop i).mode = .auto ∨ (d.loop i).mode = .manual then enterHold e .ovr i d else d) d4

/-- Some loop of the device is not OPEN. -/
def loopsRun (d : Dev) : Bool := (List.range 256).any fun i => (d.loop i).mode ≠ .open_

/-- The compute deadline (R191, R214). An overrun arises only in a period with more than 16 LOOP_LUT words written and a bulk
transfer served by the pool, and never with every loop OPEN (R498). -/
def loopDeadline (e : Env) (unfinished : Bool) (d : Dev) : Dev :=
  if !d.eng.due then d
  else if unfinished ∧ 16 < d.eng.lutWords ∧ d.eng.bulk ∧ loopsRun d then overrun e d
  else computeAll e d

/-! ### A boundary in the engine (R31, R191, R204, R206, R212, R219) -/

/-- The outputs of the period just ended take effect, clamped (R31, R204); an accepted manual value becomes the output of
an OPEN loop (R207), not at the boundary after an overrun, at which every output stays (R214). -/
def applyOut (i : Nat) (d : Dev) : Dev :=
  let x := d.loop i
  let v := match x.staged with
    | some v => v
    | none => if x.mode = .open_ ∧ x.manGo ∧ d.eng.ovrRun = 0 then manValue d i else x.out
  let c := x.clamp v
  let g := if c ≠ v ∧ x.glide.shape = .output then { x.glide with pos := c * one16, vel := 0, acc := 0 } else x.glide
  d.setLoop i { x with
    out := c, staged := none, manGo := x.manGo && d.eng.ovrRun != 0, glide := g
    outWas := if c = x.out then x.outWas else x.out, outAt := if c = x.out then x.outAt else coreNow d
    u := if x.mode = .auto ∧ c = v then x.u else 256 * c }

/-- A boundary in HOLD: the hold count goes up (R212). -/
def holdTick (i : Nat) (d : Dev) : Dev :=
  let x := d.loop i
  if x.mode = .hold ∧ !x.timeout then d.setLoop i { x with held := satN (x.held + 1) 65535 } else d

/-- The hold count has reached HOLD_TO: the output starts to glide to LO and LOOP_HOLD_TO is raised (R212). -/
def holdTimeout (e : Env) (i : Nat) (d : Dev) : Dev :=
  let x := d.loop i
  if x.mode ≠ .hold ∨ x.timeout ∨ x.held < d.get LOOP_SUP.HOLD_TO i then d
  else
    let lo := match x.lims with | some (_, lo) => lo | none => x.out
    let d1 := d.setLoop i { x with timeout := true, glide := glideOutput x.out lo true, glideWas := none }
    let d2 := raiseLive e d1 Ev.LOOP_HOLD_TO i
    if x.persists then d2 else clearLive d2 Ev.LOOP_HOLD_TO i

/-- Whether a loop's period begins a computation at this boundary: every PER boundaries counted from the one at which it
entered MANUAL or AUTO, or after its slot's result (LOOP_SRC). -/
def beginsHere (d : Dev) (i : Nat) (slotNew : Bool) : Bool :=
  let per := perOf d i
  if per = 0 then slotNew else (d.loop i).phase % per == 0

/-- The target in effect (R218, R221). -/
def glideTarget (e : Env) (d : Dev) (i : Nat) (x : Loop) : Int :=
  match x.glide.shape with
  | .setPoint => effSp e d i
  | .output => if x.glide.followLo then (match x.lims with | some (_, lo) => lo | none => x.glide.tgt) else manValue d i
  | .stopped => x.glide.tgt

/-- Start the loop period of a loop that computes: targets and limits as they stand, one Glide step (R219, R221, R222). -/
def beginLoop (e : Env) (i : Nat) (rec_ : Option LRec) (slotNew : Bool) (d : Dev) : Dev :=
  let x := d.loop i
  let g := { x.glide with tgt := glideTarget e d i x }
  let x1 := { x with
    rec_ := rec_, sp := effSp e d i, manNow := manValue d i, vmax := d.get LOOP_GLD_VMAX.VMAX i,
    amax := d.get LOOP_GLD_AMAX.AMAX i, jmax := d.get LOOP_GLD_JMAX.JMAX i, glide := g, glideWas := none, computes := false }
  if x.mode = .open_ then d.setLoop i { x1 with computes := true, phase := 0 }
  else if beginsHere d i slotNew then
    d.setLoop i { x1 with
      computes := true, phase := x.phase + 1, glideWas := some g
      glide := if g.shape = .stopped then g else glideStep x1.vmax x1.amax x1.jmax (loopDt d i) g }
  else d.setLoop i { x1 with phase := x.phase + 1 }

end Sys2Proof.Machine
end

