-- ==== Sys2Proof/Machine/StencilOps.lean ====
section
/-! DEFINITION. The Stencil (R225 to R237): attachment, observations, classes, learning, predictions and edges. -/
namespace Sys2Proof.Machine

/-! ### The pool (R143, R144) -/

/-- Blocks held by every user, and by the image during the configuration pass (R373). -/
def poolUsed (d : Dev) : Nat :=
  d.slices.foldl (fun n p => n + p.2.dlBlk + p.2.cnlBlk) 0 + d.stn.foldl (fun n p => n + p.2.blocks) 0 +
    d.pool.cap.blocks + d.authBlocks + d.boot.imgBlocks

/-- Free blocks of the 4,096. -/
def poolFree (d : Dev) : Nat := 4096 - poolUsed d

/-- A refused request: counted, and the NOTE fault POOL_DENIED (R144). -/
def poolDenied (e : Env) (d : Dev) : Dev :=
  report e { d with pool := { d.pool with failCnt := satN (d.pool.failCnt + 1) 0xFF } } Ev.POOL_DENIED

/-! ### Period and levels -/

/-- P: pattern bins (R226). -/
def stnP (d : Dev) (n : Nat) : Nat := 8 * d.get STN_CFG.NP n

/-- A power in mW is at or above a level in whole dBm. -/
def reachesDbm (q : Rat) (th : Int) : Bool :=
  decide (0 < q.num) && decide (q.den ^ 10 * 10 ^ th.toNat ≤ q.num.toNat ^ 10 * 10 ^ (-th).toNat)

/-- A level in 0.01 dBm at the input plane; powers below −200.00 dBm read −20,000 (R137). -/
def dbm (q : Rat) : Int := max (db100 q) (-20000)

/-- The largest level. -/
def peakLvl (l : List Rat) : Rat := l.foldl (fun m q => if m < q then q else m) 0

/-- The threshold t of R228 in 0.01 dBm. DESIGN CHOICE (log 219): the peak, and every level it is compared with, is rounded to 0.01 dBm. -/
def stnThreshold (d : Dev) (n : Nat) (lvl : List Rat) : Int :=
  max (dbm (peakLvl lvl) - 100 * (d.get STN_CTL.ACT_REL n : Int)) (100 * d.int SLC_DET.PRES_TH (d.get STN_CFG.SLICE n))

/-- Classes of the bins (R228): true is ACTIVE. DESIGN CHOICE (log 219): on levels rounded to 0.01 dBm. -/
def stnClasses (t : Int) (lvl : List Rat) : List Bool := lvl.map fun q => decide (t ≤ dbm q)

/-- An edge bin: its class differs from a neighbour's, modulo P (R228). -/
def edgeBin (cls : List Bool) (b : Nat) : Bool :=
  let p := cls.length
  let c := cls.getD b false
  c != cls.getD ((b + p - 1) % p) false || c != cls.getD ((b + 1) % p) false

/-- A consistent period (R229). DESIGN CHOICE (log 219): on observations rounded to 0.01 dBm. -/
def consistent (t : Int) (cls : List Bool) (obs : List Rat) : Bool :=
  let high (b : Nat) : Bool := decide (t ≤ dbm (obs.getD b 0))
  (List.range cls.length).all (fun b => cls.getD b false || edgeBin cls b || !high b) &&
    (List.range cls.length).any fun b => cls.getD b false && high b

/-- The update of R230 from a period's observations. -/
def commitLvl (fgt m : Nat) (lvl obs : List Rat) : List Rat :=
  let w : Rat := if m < 2 ^ fgt then 1 / ((m + 1 : Nat) : Rat) else 1 / ((2 ^ fgt : Nat) : Rat)
  (List.range obs.length).map fun b => lvl.getD b 0 + w * (obs.getD b 0 - lvl.getD b 0)

/-! ### Edges (R234) -/

/-- A share clamped to 0 .. 1; without contrast to interpolate across, 1 for an ACTIVE bin and 0 for an IDLE one. -/
def share (num den : Rat) (active : Bool) : Rat :=
  if den ≤ 0 then (if active then 1 else 0)
  else let q := num / den; if q < 0 then 0 else if 1 < q then 1 else q

/-- The edge at bin `b`, if one begins or ends an ACTIVE run there: FALL or RISE, and its offset in core cycles modulo the
period (R234). -/
def edgeAt (lvl : List Rat) (cls : List Bool) (dmeas b : Nat) : Option (Bool × Nat) :=
  let p := cls.length
  let l (k : Nat) : Rat := lvl.getD (k % p) 0
  let c (k : Nat) : Bool := cls.getD (k % p) false
  let fit (z : Rat) : Nat := (roundRat z % ((p * 15360 : Nat) : Int)).toNat
  if c b && !c (b + p - 1) then
    let den := l (b + 1) - l (b + p - 2)
    let fp := share (l (b + p - 1) - l (b + p - 2)) den (c (b + p - 1))
    let fb := share (l b - l (b + p - 2)) den (c b)
    some (false, fit (15360 * (b : Rat) - (dmeas : Rat) - 15360 * fp + 15360 * (1 - fb)))
  else if c b && !c (b + 1) then
    let den := l (b + p - 1) - l (b + 2)
    let fb := share (l b - l (b + 2)) den (c b)
    let fn := share (l (b + 1) - l (b + 2)) den (c (b + 1))
    some (true, fit (15360 * (b : Rat) - (dmeas : Rat) + 15360 * fb + 15360 * fn))
  else none

/-- The FALL of a bin that is a run of its own: the rise is listed by `edgeAt`, the fall here. -/
def soloFall (lvl : List Rat) (cls : List Bool) (dmeas b : Nat) : Option (Bool × Nat) :=
  let p := cls.length
  let c (k : Nat) : Bool := cls.getD (k % p) false
  if c b && !c (b + p - 1) && !c (b + 1) then
    let l (k : Nat) : Rat := lvl.getD (k % p) 0
    let den := l (b + p - 1) - l (b + 2)
    let fb := share (l b - l (b + 2)) den (c b)
    let fn := share (l (b + 1) - l (b + 2)) den (c (b + 1))
    some (true, (roundRat (15360 * (b : Rat) - (dmeas : Rat) + 15360 * fb + 15360 * fn) % ((p * 15360 : Nat) : Int)).toNat)
  else none

/-- Insert an edge in rising order of its offset. -/
def insertEdge (x : Bool × Nat) : List (Bool × Nat) → List (Bool × Nat)
  | [] => [x]
  | y :: ys => if x.2 < y.2 then x :: y :: ys else y :: insertEdge x ys

/-- The edge list of a pattern, ascending. -/
def edgeList (lvl : List Rat) (cls : List Bool) (dmeas : Nat) : List (Bool × Nat) :=
  (List.range cls.length).foldl (fun acc b =>
    let a1 := match edgeAt lvl cls dmeas b with | some x => insertEdge x acc | none => acc
    match soloFall lvl cls dmeas b with | some x => insertEdge x a1 | none => a1) []

/-! ### Learning (R231, R233) -/

/-- An emptied table: L_b = 0, m = 0, unseeded. -/
def Stencil.clear (x : Stencil) : Stencil :=
  { x with lvl := [], cls := [], seeded := false, m := 0, run := 0, bad := 0, incomplete := 0 }

/-- Leave ARMED: STN_DISARM is recorded, nothing is published any more, WITHDRAWN (R231, R233, R237). -/
def disarm (e : Env) (n : Nat) (d : Dev) : Dev :=
  let x := d.stencil n
  if x.st = .armed then
    report e (d.setStencil n { x with edges := [], edgeOvf := false, withdrawn := true }) Ev.STN_DISARM n
  else d

/-- Commit a period and recompute classes; an ARMED Stencil publishes its edges (R230, R234). -/
def commit (n : Nat) (obs : List Rat) (d : Dev) : Dev :=
  let x := d.stencil n
  let lvl := commitLvl (d.get STN_CTL.FGT n) x.m x.lvl obs
  let cls := stnClasses (stnThreshold d n lvl) lvl
  d.setStencil n { x with lvl := lvl, cls := cls, m := x.m + 1 }

/-- Publish the edges of an ARMED Stencil (R234). -/
def publish (n : Nat) (d : Dev) : Dev :=
  let x := d.stencil n
  if x.st ≠ .armed then d
  else
    let s := d.get STN_CFG.SLICE n
    let es := edgeList x.lvl x.cls (dMeas (effOf d s).cls (flenOf d s))
    if 32 < es.length then d.setStencil n { x with edges := [], edgeOvf := true }
    else d.setStencil n { x with edges := es, edgeOvf := false }

/-- Judge a complete period (R229, R231). -/
def judgeComplete (e : Env) (n : Nat) (obs : List Rat) (d : Dev) : Dev :=
  let x := d.stencil n
  let s := d.get STN_CFG.SLICE n
  if x.st = .armed then
    if consistent (stnThreshold d n x.lvl) x.cls obs then
      publish n (commit n obs (d.setStencil n { x with bad := 0, incomplete := 0 }))
    else if x.bad = 0 then d.setStencil n { x with bad := 1, incomplete := 0 }
    else
      let d1 := disarm e n d
      d1.setStencil n { (d1.stencil n).clear with st := .relearn, rlCnt := 0 }
  else if !x.seeded then
    if obs.any fun q => decide (100 * d.int SLC_DET.PRES_TH s ≤ dbm q) then
      commit n obs (d.setStencil n { x with seeded := true, m := 0, run := 0, lvl := [] })
    else d
  else
    if consistent (stnThreshold d n x.lvl) x.cls obs then
      let d1 := commit n obs (d.setStencil n { x with run := x.run + 1 })
      if x.run + 1 < 16 then d1
      else
        let y := d1.stencil n
        publish n (clearLive (d1.setStencil n { y with
          st := .armed, armCnt := satN (y.armCnt + 1) 0xFF, withdrawn := false, bad := 0, incomplete := 0 })
          Ev.STN_NO_PATTERN n)
    else d.setStencil n x.clear

/-- Judge an incomplete period (R231). -/
def judgeIncomplete (e : Env) (n : Nat) (d : Dev) : Dev :=
  let x := d.stencil n
  if x.st = .armed then
    if x.incomplete + 1 < 16 then d.setStencil n { x with incomplete := x.incomplete + 1 }
    else
      let d1 := disarm e n d
      d1.setStencil n { (d1.stencil n).clear with st := .relearn, rlCnt := 0 }
  else d.setStencil n { x with run := 0 }

/-- The 64th period in RELEARN without arming: STN_NO_PATTERN, and LEARNING (R231, R233). -/
def relearnTimeout (e : Env) (n : Nat) (d : Dev) : Dev :=
  let x := d.stencil n
  if x.st = .relearn then
    raiseLive e (d.setStencil n { x with st := .learning, withdrawn := false }) Ev.STN_NO_PATTERN n
  else d

/-- Judge the period that closes at this boundary; the bins are classified first, from the levels as they stand (R228). -/
def judge (e : Env) (n : Nat) (d : Dev) : Dev :=
  let x := d.stencil n
  let relearning : Bool := x.st = .relearn
  let cls := if x.seeded then stnClasses (stnThreshold d n x.lvl) x.lvl else x.cls
  let d0 := d.setStencil n { x with obs := [], pcnt := satN (x.pcnt + 1) 0xFFFFFF, cls := cls }
  let d1 := if x.obs.all (·.isSome) then judgeComplete e n (x.obs.map (·.getD 0)) d0 else judgeIncomplete e n d0
  let y := d1.stencil n
  if relearning ∧ y.st = .relearn then
    let d2 := d1.setStencil n { y with rlCnt := satN (y.rlCnt + 1) 64 }
    if 64 ≤ y.rlCnt + 1 then relearnTimeout e n d2 else d2
  else d1

/-- A Stencil takes the eight bins of the period just closed, and judges at the end of its pattern (R227). -/
def stencilBins (e : Env) (n : Nat) (bins : List (Option Rat)) (d : Dev) : Dev :=
  let x := d.stencil n
  if x.st = .off ∨ x.st = .wait then d
  else
    let eight := (List.range 8).map fun k => (bins.getD k none)
    let d1 := d.setStencil n { x with obs := x.obs ++ eight }
    if stnP d n ≤ x.obs.length + 8 then judge e n d1 else d1

/-- The prediction for the control period after the one that starts now (R196, R232). -/
def predict (d : Dev) (n : Nat) : Pred :=
  let x := d.stencil n
  if x.st ≠ .armed then .none_
  else
    let p := x.cls.length
    let ks := (List.range 8).map fun k => (x.obs.length + 8 + k) % p
    let act := ks.filter fun k => x.cls.getD k false
    if act.isEmpty then .empty
    else
      let mean (l : List Nat) : Rat := (l.foldl (fun q k => q + x.lvl.getD k 0) 0) / ((l.length : Nat) : Rat)
      .occ (db100 (mean ks / mean act))

/-- Take the predictions at a boundary (R196). -/
def takePredictions (d : Dev) : Dev :=
  forL (d.stn.map (·.1)) (fun n d =>
    let x := d.stencil n
    d.setStencil n { x with predB := x.predA, predA := predict d n }) d

/-! ### Entries and exits (R225, R226, R231) -/

/-- Into WAIT for a new anchor: RESTART, or a slice sync. An instance that has been ARMED is WITHDRAWN there (R233). -/
def stencilWait (e : Env) (n : Nat) (d : Dev) : Dev :=
  if (d.stencil n).st = .off then d
  else
    let d1 := clearLive (disarm e n d) Ev.STN_NO_PATTERN n
    let y := d1.stencil n
    d1.setStencil n { y.clear with st := .wait, obs := [], rlCnt := 0, withdrawn := y.withdrawn || y.armCnt != 0 }

/-- The anchor: the first frame boundary with an even frame number after WAIT (R226). -/
def stencilAnchor (n frame : Nat) (d : Dev) : Dev :=
  let x := d.stencil n
  if x.st = .wait then
    d.setStencil n { x with st := .learning, withdrawn := false, frame := frame, pcnt := 0, obs := [] }
  else d

/-- Detach (R225): blocks released, the instance stops at once; STN_DISARM is recorded at the exit from ARMED (R237). -/
def stencilOff (e : Env) (n : Nat) (d : Dev) : Dev := clearLive ((disarm e n d).setStencil n {}) Ev.STN_NO_PATTERN n

/-- Attach (R225, R231): refused with the error bit of each case that holds, ATTACH, CFG and POOL, else the blocks are taken and the
instance waits. Answers whether EN stands. -/
def stencilAttach (e : Env) (n slice np : Nat) (d : Dev) : Dev × Bool :=
  let taken := (List.range 32).any fun k => k != n && d.flag STN_CFG.EN k && d.get STN_CFG.SLICE k == slice
  let attach := 191 < slice || taken
  let cfg := decide (np < 4 ∨ 160 < np)
  let pool := decide (poolFree d < stnBlocks np)
  let d1 := if attach then d.setBit STN_ERR.ATTACH n else d
  let d2 := if cfg then d1.setBit STN_ERR.CFG n else d1
  let d3 := if pool then poolDenied e (d2.setBit STN_ERR.POOL n) else d2
  if attach || cfg || pool then (d3, false) else (d.setStencil n { st := .wait, blocks := stnBlocks np }, true)

/-- The class and level words of bin `j` (STN_BIN). -/
def stnBinWord (d : Dev) (n j : Nat) : Nat :=
  let x := d.stencil n
  if x.seeded ∧ j < x.lvl.length then
    packBits [(31, 1, b2n (x.cls.getD j false)), (30, 1, b2n (edgeBin x.cls j)), (0, 16, fromSigned 16 (dbm (x.lvl.getD j 0)))]
  else 0x8000

end Sys2Proof.Machine
end

