-- ==== Sys2Proof/Machine/CarveOps.lean ====
section
/-! DEFINITION. Carve: the edges that templates take, epoch windows, the queue check (chapter 10). -/
namespace Sys2Proof.Machine
open Fld

/-! ### Edges (R235, R244) -/

/-- Core cycles to each edge that a Stencil template finds ahead, within `horizon` (R234, R235). -/
def stencilAhead (d : Dev) (n : Nat) (fall : Bool) (horizon : Nat) : List Nat :=
  let x := d.stencil n
  let p := stnP d n * 15360
  if x.st ≠ .armed ∨ p = 0 then []
  else
    let now := (x.obs.length * 15360 + d.clk.ofs) % p
    let first := (x.edges.filter fun ed => ed.1 == fall).map fun ed => (ed.2 + p - now) % p
    ((List.range (horizon / p + 1)).flatMap fun k => first.map fun a => a + k * p).filter fun a => decide (a ≤ horizon)

/-- Core cycles to each edge that a frame template finds ahead: this frame's and the next one's (R244). -/
def frameAhead (d : Dev) (m horizon : Nat) : List Nat :=
  [0, 1].filterMap fun k =>
    let f := (d.clk.frame + k) % 256
    let a := ftAhead (ftNow d) (f * frameCycles + d.get CRV_TPL_AUX.FOFS m)
    let sel : Bool := match d.get CRV_TPL_AUX.FSEL m with | 0 => true | 1 => f % 2 == 0 | 2 => f % 2 == 1 | _ => false
    if sel = true ∧ 0 ≤ a ∧ a ≤ (horizon : Int) then some a.toNat else none

/-- The edges of a template that lie HORIZON or less ahead (R244), as core cycles from now. -/
def edgesAhead (d : Dev) (m : Nat) : List Nat :=
  let n := d.get CRV_TPL_CFG.STN m
  let h := d.get CRV_CTL.HORIZON * 15360
  if !d.flag CRV_TPL_CFG.EN m then []
  else if !d.flag CRV_TPL_CFG.SRC m then stencilAhead d n (d.flag CRV_TPL_CFG.KIND m) h
  else if d.flag CRV_TPL_CFG.STN_GATE m && (d.stencil n).st = .armed then []
  else frameAhead d m h

/-- Where a template's edges come from: 64 for the frame, else its Stencil and the kind of the edge. -/
def edgeSource (d : Dev) (m : Nat) : Nat :=
  if d.flag CRV_TPL_CFG.SRC m then 64 else 2 * d.get CRV_TPL_CFG.STN m + b2n (d.flag CRV_TPL_CFG.KIND m)

/-- An edge is one that a template has taken already: a frame edge at the same time, a Stencil edge that a commit may have moved by less
than a bin. DESIGN CHOICE (log 220): an edge whose epoch a time step has unwound stays taken. -/
def edgeTaken (d : Dev) (m t : Nat) : Bool :=
  d.crv.taken.any fun p => p.1 == m && p.2.1 == edgeSource d m &&
    (if d.flag CRV_TPL_CFG.SRC m then p.2.2 == t else decide ((ftAhead p.2.2 t).natAbs < 15360))

/-- Taken edges that lie a bin or more back are forgotten. -/
def forgetEdges (d : Dev) : Dev :=
  d.modCrv fun c => { c with taken := c.taken.filter fun p => decide (-15360 < ftAhead (ftNow d) p.2.2) }

/-- The next edge that a template takes, as a frame time. DESIGN CHOICE (log 222): one that it took before it was disabled is not taken again
at a re-enable. -/
def nextEdge (d : Dev) (m : Nat) : Option Nat :=
  let ts := ((edgesAhead d m).map fun a => (a, (ftNow d + a) % ftMod)).filter fun p => !edgeTaken d m p.2
  (ts.foldl (fun (b : Option (Nat × Nat)) p => match b with
    | some q => if p.1 < q.1 then some p else some q
    | none => some p) none).map (·.2)

/-- Carve makes an epoch of a template's next edge (R241, R244), once. -/
def instantiate (e : Env) (m : Nat) (d : Dev) : Dev :=
  match nextEdge d m with
  | none => d
  | some t =>
    let x := templateEpoch d m t
    if openBarred d x then d
    else
      let d1 := d.modCrv fun c => { c with taken := (m, edgeSource d m, t) :: c.taken }
      match openEpoch e x d1 with
      | (d2, true) => d2.modCrv fun c => { c with tplCnt := tset (fun _ => 0) c.tplCnt m ((tget (fun _ => 0) c.tplCnt m + 1) % 65536) }
      | (d2, false) => d2

/-! ### Windows (R245, R246) -/

/-- The open epoch of a number. -/
def epochNum (d : Dev) (n : Nat) : Option Epoch := d.crv.epochs.find? fun x => x.num == n

/-- A presence report of a slice reaches an epoch inside its window (R243, R245); an outside event of the same core cycle counts in its
place. -/
def epochReport (e : Env) (n s : Nat) (outside : Bool) (d : Dev) : Dev :=
  if outside then d
  else match epochNum d n with
  | some x => if reportConfirms d x s ∧ 0 ≤ ftAhead (ftNow d) x.wClose then confirm e x.ord d else d
  | none => d

/-- The window of an epoch opens (R246). -/
def windowOpens (e : Env) (n : Nat) (d : Dev) : Dev :=
  match epochNum d n with
  | some x =>
    if x.windowOpen ∨ x.windowShut ∨ 0 < ftAhead (ftNow d) x.wOpen then d
    else contradictLost e (setEpoch x.ord (fun y => { y with windowOpen := true }) d)
  | none => d

/-- The window of an epoch closes: unconfirmed, it is contradicted; confirmed, it may retire (R242, R246). A report that has
arrived by this cycle confirms first (R243). DESIGN CHOICE (log 178): of events of one core cycle the sender gives an outside event of
R251 first, then a presence report, then a window's close, then due actions. Where an outside event of the cycle unwinds the epoch, that
event alone counts, whichever comes first in the queue. -/
def windowCloses (e : Env) (n : Nat) (outside : Bool) (d0 : Dev) : Dev :=
  let d := match epochNum d0 n with
    | some x => if !outside ∧ (confirmers d0 x).any (reportConfirms d0 x) ∧ ftAhead (ftNow d0) x.wClose = 0 then confirm e x.ord d0 else d0
    | none => d0
  match (if outside then none else epochNum d n) with
  | some x =>
    if x.windowShut ∨ 0 < ftAhead (ftNow d) x.wClose then d
    else if x.confirmed then retireIf x.ord (setEpoch x.ord (fun y => { y with windowOpen := false, windowShut := true }) d)
    else contradict e x.ord d
  | none => d

/-- The parity check of the queue and template memory (R251, R254). -/
def carveCheck (e : Env) (fails : Bool) (d : Dev) : Dev :=
  if fails then unwindWhere (fun _ => true) (raiseLive e d Ev.CRV_CHECK) else clearLive d Ev.CRV_CHECK

end Sys2Proof.Machine
end

