-- ==== Sys2Proof/Machine/Canceller.lean ====
section
/-! DEFINITION. The feedback canceller (R166 to R180): references, adaptation, states, snapshots and the figures of a period. -/
namespace Sys2Proof.Machine

/-! ### Complex arithmetic -/

def cAdd (a b : Cpx) : Cpx := (a.1 + b.1, a.2 + b.2)
def cSub (a b : Cpx) : Cpx := (a.1 - b.1, a.2 - b.2)
def cMul (a b : Cpx) : Cpx := (a.1 * b.1 - a.2 * b.2, a.1 * b.2 + a.2 * b.1)
def cConj (a : Cpx) : Cpx := (a.1, -a.2)
def cScale (q : Rat) (a : Cpx) : Cpx := (q * a.1, q * a.2)
def cNorm (a : Cpx) : Rat := a.1 * a.1 + a.2 * a.2
def cSum (l : List Cpx) : Cpx := l.foldl cAdd (0, 0)
def qSum (l : List Rat) : Rat := l.foldl (· + ·) 0

/-! ### References (R166 to R169) -/

/-- The TX chain that reference `r` of a slice stands for: chain r of the group opposite its source (R25, R166). -/
def refChain (x : SlEff) (r : Nat) : Nat := (if x.src < 4 then 4 else 0) + r

/-- Reference `r` is out of range: its chain passband, TX LO ± 800 MHz, does not hold the carrier's edges (R166). -/
def refOor (d : Dev) (x : SlEff) (r : Nat) : Bool :=
  let lo : Int := loNow d (2 * (refChain x r / 4) + 1)
  let centre : Int := ((loNow d (2 * (x.src / 4)) : Int) + ncoInt x.rx) * 1875
  let edge : Int := edgeScaled x.cls
  let half : Int := 800000000 * 4096
  decide (centre - edge < lo * 1875 - half) || decide (lo * 1875 + half < centre + edge)

/-- The references a slice's canceller uses: selected and in range. -/
def refsUsed (d : Dev) (s : Nat) : List Nat :=
  (List.range 4).filter fun r => bitOf (d.canc s).mask r && !refOor d (effOf d s) r

/-- Bits set in a four-bit mask. -/
def maskCount (m : Nat) : Nat := ((List.range 4).filter (bitOf m)).length

/-- Taps in use (R169); on A0 a C7 slice with four references runs 80 (R169, "On A0"; chapter 23). -/
def tapsEff (d : Dev) (s : Nat) : Nat :=
  let x := d.canc s
  if (effOf d s).cls = 7 then min x.taps (if maskCount x.mask = 4 then 80 else 160) else x.taps

/-- BULK of reference `r` in effect. -/
def bulkOf (x : Cnl) (r : Nat) : Nat := bitsOf x.bulk (8 * r) 8

/-- The taps of reference `r`. -/
def coefOf (w : Coefs) (r : Nat) : List Cpx := (w.lookup r).getD []

/-- Sample `n − back` of a reference history whose last element is sample 63 of the block. -/
def histAt (h : List Cpx) (n back : Nat) : Cpx :=
  let fromEnd := 63 - n + back
  if h.length ≤ fromEnd then (0, 0) else h.getD (h.length - 1 - fromEnd) (0, 0)

/-! ### State changes (R172) -/

/-- ACQUIRE, or FROZEN with FREEZE = 1; AUTO_FRZ clears in any state but FROZEN, and CNL_UNSTABLE is live with it (R187). -/
def acquireOrFrozen (s : Nat) (d : Dev) : Dev :=
  let x := d.canc s
  if d.flag CNL_CTL.FREEZE s then
    let d1 := d.setCanc s { x with st := .frozen, dSeen := [] }
    if x.autoFrz then d1 else clearLive d1 Ev.CNL_UNSTABLE s
  else clearLive (d.setCanc s { x with st := .acquire, dSeen := [], autoFrz := false }) Ev.CNL_UNSTABLE s

/-- Clear coefficients and snapshot. -/
def Cnl.clear (x : Cnl) : Cnl := { x with w := [], snap := none }

/-- The configuration words come into effect. -/
def cnlLoad (d : Dev) (s : Nat) (x : Cnl) : Cnl :=
  { x with mu := d.get CNL_CFG.MU_EXP s, leak := d.get CNL_CFG.LEAK_EXP s, taps := d.get CNL_CFG.TAPS s, mask := d.get CNL_CFG.REFMASK s, bulk := (d.reg .CNL_BULK s).toNat, chg := false }

/-- The slice leaves IDLE (R172, R178). -/
def cnlStart (s : Nat) (d : Dev) : Dev :=
  let x := cnlLoad d s (d.canc s)
  acquireOrFrozen s (d.setCanc s { x.clear with
    measured := false, pubIso := 100 * (d.get CNL_CTL.ISO_ASSUME s : Int), pubDepth := 0, depth := 0, dPub := 0, noRef := 0, young := true, acc := {},
    divs := [], trackCnt := 0, lastDiv := none })

/-- The slice is restored from SHED, or a spare takes it: the snapshot is loaded if one is held (R172). A configuration written meanwhile
waits for its boundary (R170), and a run of periods without reference goes on (R178). -/
def cnlResume (s : Nat) (d : Dev) : Dev :=
  let x := d.canc s
  acquireOrFrozen s (d.setCanc s { x with w := x.snap.getD [], acc := {}, young := true })

/-- The canceller goes OFF with the snapshot it holds (R172). -/
def cnlHalt (s : Nat) (d : Dev) : Dev :=
  let x := d.canc s
  if x.st = .off then d else clearLive (d.setCanc s { x with st := .off, autoFrz := false, acc := {} }) Ev.CNL_UNSTABLE s

/-- The slice enters SHED or FAILED: a snapshot from TRACK without divergence in the period; stop (R172). DESIGN CHOICE (log 243): the
period is the last one closed, since divergence is judged at the boundary that closes a period. -/
def cnlStop (s : Nat) (d : Dev) : Dev :=
  let x := d.canc s
  cnlHalt s (if x.st = .track ∧ x.lastDiv ≠ some d.clk.periods then d.setCanc s { x with snap := some x.w } else d)

/-- The slice reaches IDLE: the snapshot is released and a standing shortfall ends (R172, R185). -/
def cnlIdle (s : Nat) (d : Dev) : Dev :=
  let x := d.canc s
  clearLive (clearLive (d.setCanc s { x with
    st := .off, snap := none, w := [], hist := [], acc := {}, autoFrz := false, short := 0, prbLim := false })
    Ev.CNL_UNSTABLE s) Ev.ISO_DISAGREE s

/-- The coupling path or the reference moved: clear coefficients and snapshot (R172). -/
def cnlRestart (s : Nat) (d : Dev) : Dev :=
  if (d.canc s).st = .off then d else acquireOrFrozen s (d.setCanc s (d.canc s).clear)

/-- CLR: the same, and AUTO_FRZ clears (R172). -/
def cnlClr (s : Nat) (d : Dev) : Dev :=
  if (d.canc s).st = .off then d else acquireOrFrozen s (d.setCanc s { (d.canc s).clear with autoFrz := false })

/-- FREEZE changes from 0 to 1 or from 1 to 0 (R172). -/
def cnlFreeze (s : Nat) (on : Bool) (d : Dev) : Dev :=
  let x := d.canc s
  if on then (if x.st = .acquire ∨ x.st = .track ∨ x.st = .hold then d.setCanc s { x with st := .frozen } else d)
  else if x.st = .frozen then clearLive (d.setCanc s { x with st := .acquire, dSeen := [], autoFrz := false }) Ev.CNL_UNSTABLE s
  else d

/-- A configuration change takes effect (R170): a reference that stays selected with an unchanged BULK keeps its
coefficients below the new TAPS. MU_EXP and LEAK_EXP alone change no state. -/
def cnlReconfig (s : Nat) (d : Dev) : Dev :=
  let x := d.canc s
  if !x.chg then d
  else
    let y := cnlLoad d s x
    if y.taps = x.taps ∧ y.mask = x.mask ∧ y.bulk = x.bulk then d.setCanc s y
    else if x.st = .off then d.setCanc s { y with snap := none }
    else
      let keep := (List.range 4).filterMap fun r =>
        if bitOf x.mask r && bitOf y.mask r && bulkOf x r == bulkOf y r then some (r, (coefOf x.w r).take y.taps) else none
      acquireOrFrozen s (d.setCanc s { y with w := keep, snap := none })

/-! ### A block (R167, R171) -/

/-- −60 dBFS as a power. -/
def refFloor : Rat := 1 / 1000000

/-- What a block computes. -/
structure CnlBlock where
  est : List Cpx
  err : List Cpx
  /-- Per reference in use: its power sum over the block. -/
  pw : List (Nat × Rat)
deriving DecidableEq, Repr

/-- The estimate and the remainder of a block (R167). -/
def cnlEval (x : Cnl) (refs : List Nat) (taps : Nat) (sub : Bool) (inp : List Cpx) : CnlBlock :=
  let est := (List.range 64).map fun n =>
    cSum (refs.map fun r =>
      let h := coefOf x.hist r
      cSum (((List.range taps).zip (coefOf x.w r)).map fun p => cMul p.2 (histAt h n (bulkOf x r + p.1))))
  let err := (List.range 64).map fun n =>
    let i := inp.getD n (0, 0)
    if sub then cSub i (est.getD n (0, 0)) else i
  { est := est, err := err,
    pw := refs.map fun r => (r, qSum ((List.range 64).map fun n => cNorm (histAt (coefOf x.hist r) n 0))) }

/-- The sum over the block of e[n]·conj(x[n − bulk − k]) for every tap of a reference. -/
def cnlGrad (x : Cnl) (taps r : Nat) (err : List Cpx) : List Cpx :=
  (List.range taps).map fun k =>
    cSum ((List.range 64).map fun n => cMul (err.getD n (0, 0)) (cConj (histAt (coefOf x.hist r) n (bulkOf x r + k))))

/-- New history of the references: the block's samples behind the old ones, as far back as the taps reach. DESIGN CHOICE (log 245): samples
that the window has not held are zeros, and after OFF the history goes on from where it stopped. -/
def cnlHistory (x : Cnl) (refs : List (Nat × List Cpx)) : List (Nat × List Cpx) :=
  (List.range 4).filterMap fun r =>
    let h := coefOf x.hist r ++ (List.range 64).map fun n => ((refs.lookup r).getD []).getD n (0, 0)
    let keep := x.taps + bulkOf x r + 64
    if bitOf x.mask r then some (r, h.drop (h.length - keep)) else none

/-- Add two tap lists. -/
def cAddList (a b : List Cpx) : List Cpx := (List.range (max a.length b.length)).map fun k => cAdd (a.getD k (0, 0)) (b.getD k (0, 0))

/-- A 64-sample block ends (R171): the estimate is formed, the coefficients adapt, and the sums of the period grow. -/
def cnlBlockEnd (s : Nat) (inp : List Cpx) (refs : List (Nat × List Cpx)) (d : Dev) : Dev :=
  let x0 := d.canc s
  if x0.st = .off then d
  else
    let x := { x0 with hist := cnlHistory x0 refs }
    let used := refsUsed d s
    let taps := tapsEff d s
    let b := cnlEval x used taps (d.flag CNL_CTL.SUB s) inp
    let pSum := qSum (b.pw.map (·.2))
    let present := (b.pw.filter fun p => decide (64 * refFloor ≤ p.2)).map (·.1)
    let hasRef := !present.isEmpty
    let st := if x.st = .hold ∧ hasRef then (if x.fromTrack ∧ x.holdCnt ≤ d.get CNL_CTL.HOLD_T s then .track else .acquire)
      else x.st
    let adapts := (st = .acquire || st = .track) && !(d.slice s).suppressed && decide (64 * refFloor ≤ pSum)
    let eff := effOf d s
    let live (r : Nat) : Bool :=
      let c := refChain eff r
      decide (r ∈ present) && (d.txChain c).cal = .done && bitOf (d.get SYN_GRP_CTL.TX_MASK (c / 4)) (c % 4)
    let p : Rat := pSum / 64 + Config.cnlEps
    let leak : Rat := if x.leak = 0 then 1 else 1 - 1 / ((2 ^ x.leak : Nat) : Rat)
    let mu : Rat := 1 / ((2 ^ x.mu : Nat) : Rat)
    let grads := used.map fun r => (r, cnlGrad x taps r b.err)
    let w := if adapts then
        (List.range 4).filterMap fun r =>
          if live r && decide (r ∈ used) then
            let g := coefOf grads r
            some (r, (List.range x.taps).map fun k =>
              let old := (coefOf x.w r).getD k (0, 0)
              if k < taps then cAdd (cScale leak old) (cScale (mu / (64 * p)) (g.getD k (0, 0))) else old)
          else (x.w.lookup r).map fun l => (r, l)
      else x.w
    let a := x.acc
    let acc := if hasRef then
        { a with
          blocks := a.blocks + 1, samples := a.samples + 64
          c := used.map fun r => (r, cAddList (coefOf a.c r) (coefOf grads r))
          p := used.map fun r => (r, (a.p.lookup r).getD 0 + (b.pw.lookup r).getD 0)
          est := a.est + qSum (b.est.map cNorm), inp := a.inp + qSum (inp.map cNorm), err := a.err + qSum (b.err.map cNorm)
          present := present.foldl (fun m r => putBits m r 1 1) a.present }
      else a
    d.setCanc s { x with st := st, w := w, acc := acc, dSeen := if st = x.st then x.dSeen else [] }

/-! ### The figures of a period (R174 to R178) -/

/-- The coupling at unit reference power, referred to the planes: I_phys in 0.01 dB, unclipped. DESIGN CHOICE (log 244): the quotients c / p
of a reference without power in the period are free values, since R175 states none. -/
def rawIphys (d : Dev) (s : Nat) : Int :=
  let x := d.canc s
  let eff := effOf d s
  let taps := tapsEff d s
  let n : Rat := (x.acc.samples : Nat)
  let used := refsUsed d s
  let f := carrierRx d eff
  let plane (r : Nat) : Int := planeTx d (refChain eff r) f
  let base := match used with | r :: _ => plane r | [] => 0
  let g := qSum (used.map fun r =>
    let pr := (x.acc.p.lookup r).getD 0 / n
    lin100 (base - plane r) * qSum ((List.range taps).map fun k =>
      let c := cScale (1 / n) ((coefOf x.acc.c r).getD k (0, 0))
      cNorm (cAdd ((coefOf x.w r).getD k (0, 0)) (if pr = 0 then Config.cnlNoPower r k else cScale (1 / pr) c))))
  (if g = 0 then 15000 + 32768 else - db100 g) + base - planeRx d eff.src f

/-- D of a period (R175), 0.01 dB; what a reference without power adds to the remainder is a free value (log 244). -/
def rawDepth (d : Dev) (s : Nat) : Int :=
  let x := d.canc s
  let n : Rat := (x.acc.samples : Nat)
  let taps := tapsEff d s
  if !d.flag CNL_CTL.SUB s then 0
  else
    let pEst := x.acc.est / n
    let pRes := qSum ((refsUsed d s).map fun r =>
      let pr := (x.acc.p.lookup r).getD 0 / n
      if pr = 0 then Config.cnlNoPowerRes r
      else qSum ((List.range taps).map fun k => cNorm (cScale (1 / n) ((coefOf x.acc.c r).getD k (0, 0)))) / pr)
    if pRes = 0 then (if pEst = 0 then clampI Config.cnlDepthZero (-2000) 6000 else 6000)
    else clampI (db100 (pEst / pRes)) (-2000) 6000

/-- Whether the canceller's output power exceeds its input power by 3.0 dB or more (R174). -/
def outGrew (a : CnlAcc) : Bool := if a.inp = 0 then decide (0 < a.err) else decide (300 ≤ db100 (a.err / a.inp))

/-- A power over the period's blocks with reference, 0.01 dBm at the input plane. -/
def cnlPower (d : Dev) (s : Nat) (sum : Rat) : Option Int :=
  let x := d.canc s
  if x.acc.blocks = 0 then none
  else some (clampI (max (db100 (sum / (x.acc.samples : Nat))) (-20000) + planeRx d (effOf d s).src (carrierRx d (effOf d s)))
    (-20000) 32767)

/-- A divergent period (R172, R174). -/
def diverged (e : Env) (s : Nat) (d : Dev) : Dev :=
  let x := d.canc s
  let now := d.clk.periods
  let d0 := report e (d.setCanc s { x with divCnt := satN (x.divCnt + 1) 0xFF, lastDiv := some now }) Ev.CNL_DIVERGE s
  let y := d0.canc s
  if y.st = .acquire ∨ y.st = .track then
    let recent := (y.divs.filter fun t => decide (now < t + 8000)) ++ [now]
    let z := { y with w := y.snap.getD [], divs := recent, dSeen := [] }
    if recent.length < 3 then d0.setCanc s { z with st := .acquire }
    else raiseLive e (d0.setCanc s { z with st := .frozen, autoFrz := true }) Ev.CNL_UNSTABLE s
  else d0

/-- The D values of 8 consecutive periods all lie within ±1.0 dB of the first of them (R172). -/
def dSettled (l : List Int) : Bool := l.length == 8 && l.all fun z => decide ((z - l.headD 0).natAbs ≤ 100)

/-- The canceller's state at the end of a period with reference, without divergence (R172). -/
def cnlAdvance (s : Nat) (depth : Int) (d : Dev) : Dev :=
  let x := d.canc s
  let all := x.dSeen ++ [depth]
  let l := all.drop (all.length - 8)
  if x.st ≠ .acquire then d
  else if dSettled l then d.setCanc s { x with st := .track, dSeen := [] }
  else d.setCanc s { x with dSeen := l }

/-- Every 80th boundary in TRACK, the snapshot is taken unless a divergence fell in the 80 periods before (R173). DESIGN CHOICE
(log 182): the boundaries in TRACK are counted together from when the slice leaves IDLE. -/
def cnlSnapshot (s : Nat) (d : Dev) : Dev :=
  let x := d.canc s
  if x.st ≠ .track then d
  else if x.trackCnt + 1 < 80 then d.setCanc s { x with trackCnt := x.trackCnt + 1 }
  else d.setCanc s { x with trackCnt := 0, snap := if x.lastDiv.all fun t => decide (t + 80 ≤ d.clk.periods) then some x.w else x.snap }

/-- The margin M of R179, 0.01 dB. -/
def marginOf (e : Env) (d : Dev) (s : Nat) : Int := max (10 * (d.get CNL_CTL.MARGIN s : Int)) (fixMargin e)

/-- A boundary in the canceller of a slice (R172 to R176): the figures of the period just closed and the state. DEDUCED (log 184): every
period with reference is measured and judged, also one whose measurement carries VALID = 0, as the example of chapter 7 does at B(1). DESIGN
CHOICE (log 216): SUB written 0 without a reference present leaves the last measured D until a period with reference. DEDUCED (log 242): the
period in which it left OFF, with no block that had reference, does not lead to HOLD, as the example of chapter 7 shows ACQUIRE at B(0). -/
def cnlFigures (e : Env) (s : Nat) (d : Dev) : Dev :=
  let x := d.canc s
  let d1 :=
    if x.st = .off then d
    else if x.acc.blocks = 0 then
      let n := x.noRef + 1
      let y := { x with
        noRef := n, young := false, pin := none, pout := none, refAbs := x.mask, holdCnt := x.holdCnt + 1
        dPub := if d.get CNL_CTL.HOLD_T s < n ∧ 0 < x.dPub then max 0 (x.dPub - 50) else x.dPub }
      if !x.young ∧ (x.st = .acquire ∨ x.st = .track) then
        d.setCanc s { y with st := .hold, fromTrack := decide (x.st = .track), holdCnt := 0 }
      else d.setCanc s y
    else
      let raw := rawIphys d s
      let dep := rawDepth d s
      let y := { x with
        measured := true, young := false, iphys := clampI raw 0 15000, depth := dep, dPub := dep, noRef := 0
        pin := cnlPower d s x.acc.inp, pout := cnlPower d s x.acc.err
        refAbs := (List.range 4).foldl (fun m r => if bitOf x.mask r && !bitOf x.acc.present r then putBits m r 1 1 else m) 0 }
      let d2 := d.setCanc s y
      if outGrew x.acc || decide (raw < 0) then diverged e s d2 else cnlAdvance s dep d2
  cnlSnapshot s d1

/-- I_phys and D of the period just closed (R175, R178): ISO_ASSUME until the first measured period, 150.00 dB and 0 while no reference is
in range. -/
def cnlFigNow (d : Dev) (s : Nat) : Int × Int :=
  let x := d.canc s
  if x.st ≠ .off && (refsUsed d s).isEmpty then (15000, 0)
  else (if x.measured then x.iphys else 100 * (d.get CNL_CTL.ISO_ASSUME s : Int), x.depth)

/-- The published isolation and the ceiling of a slice (R177 to R179): ISO_ASSUME until the first measured period, 150.00 dB while no
reference is in range. The figures carry the pin-plane start time with DPRES. -/
def cnlPublish (e : Env) (s : Nat) (d : Dev) : Dev :=
  let z : Cnl := { d.canc s with acc := {} }
  let allOor := z.st ≠ .off && (refsUsed d s).isEmpty
  let (iphys, dep) := cnlFigNow d s
  let z1 : Cnl := if z.st = .off then z else { z with pubIso := iphys, pubDepth := dep, start := planeStart d (dPres (effOf d s).cls) }
  let pub : Int := if z1.st = .acquire then min z1.dPub 0 else z1.dPub
  let ieff : Int := if z1.st = .off then z1.ieff else if allOor then 15000 else iphys + pub - z1.short
  d.setCanc s { z1 with ieff := ieff, ceil := clampI (ieff - marginOf e d s) (-32768) 32767 }

/-! ### The snapshot window (CNL_COEF_SEL, CNL_COEF_WIN) -/

/-- Whether every part of a tap list fits 16 bits at exponent `x`. -/
def fitsExp (l : List Cpx) (x : Nat) : Bool :=
  l.all fun c => decide (roundRat (c.1 * (2 ^ (15 + x) : Nat)) ≤ 32767) && decide (-32768 ≤ roundRat (c.1 * (2 ^ (15 + x) : Nat))) &&
    decide (roundRat (c.2 * (2 ^ (15 + x) : Nat)) ≤ 32767) && decide (-32768 ≤ roundRat (c.2 * (2 ^ (15 + x) : Nat)))

/-- The exponent a snapshot is shown with: the largest of 0 to 15 at which every tap fits; 0 without a snapshot. -/
def snapExp (l : List Cpx) : Nat :=
  if l.isEmpty then 0 else (((List.range 16).filter (fitsExp l)).getLast?).getD 0

/-- A tap as a window word. -/
def snapWord (l : List Cpx) (k : Nat) : Nat :=
  match l[k]? with
  | none => 0
  | some c =>
    let f (q : Rat) : Nat := fromSigned 16 (clampI (roundRat (q * (2 ^ (15 + snapExp l) : Nat))) (-32768) 32767)
    f c.1 * 65536 + f c.2

end Sys2Proof.Machine
end

