-- ==== Sys2Proof/Machine/Slices.lean ====
section
/-! DEFINITION. The slice array (R116 to R146): states, sets, charges, the slice mute, shedding, settling (R154 to R158) and
glaze fades (R159 to R165). -/
namespace Sys2Proof.Machine

/-! ### Places -/

/-- The physical slice in use (R116). -/
def physOf (d : Dev) (s : Nat) : Nat := (d.slice s).phys.getD s

/-- The tile of a slice. -/
def tileOf (d : Dev) (s : Nat) : Nat := physOf d s / 4

/-- The slices mapped to a tile. -/
def onTile (d : Dev) (t : Nat) : List Nat := (List.range 192).filter fun s => tileOf d s == t

/-- Enabled: EN = 1 (R122 counts FAILED slices as enabled). -/
def enabled (d : Dev) (s : Nat) : Bool := d.flag SLC_CTL.EN s

/-- Change one slice. -/
def Dev.modSlice (d : Dev) (s : Nat) (f : Slice → Slice) : Dev := d.setSlice s (f (d.slice s))

/-- The charged SU (R120). -/
def suUsed (d : Dev) : Nat := d.slices.foldl (fun n p => n + p.2.su) 0

/-- A tile is requested while a slice mapped to it is in a state other than IDLE or SHED (R118), after SHUTDOWN other than FAILED too
(R351), and while a replacement copies a slice into it (R390). -/
def tileWanted (d : Dev) (t : Nat) : Bool :=
  (onTile d t).any (fun s => (d.slice s).st ≠ .idle && (d.slice s).st ≠ .shed && !(d.thm.sd && (d.slice s).st = .failed)) ||
    d.spr.dest.any fun p => p / 4 == t

/-- Give up a tile that no slice needs. -/
def tileCheck (t : Nat) (d : Dev) : Dev := if (d.dom t).req && !tileWanted d t then domRelease t d else d

/-! ### Sets (R121, R122) -/

/-- The enabled slices of a MIMO set. -/
def setMembers (d : Dev) (m : Nat) : List Nat := (List.range 192).filter fun s => enabled d s && msetOf d s == m

/-- The branches of WIDTH: 1, 2 or 4. -/
def widthOf (d : Dev) (s : Nat) : Nat := 2 ^ d.get SLC_CFG0.WIDTH s

/-- A set is consistent (R121). -/
def setConsistent (d : Dev) (ms : List Nat) : Bool :=
  match ms with
  | [] => true
  | a :: _ =>
    let ea := effOf d a
    let br (s : Nat) : Nat := d.get SLC_CFG0.BRANCH s
    ms.all (fun s =>
      let es := effOf d s
      isUl d s == isUl d a && es.cls == ea.cls && d.get SLC_CFG0.WIDTH s == d.get SLC_CFG0.WIDTH a &&
        d.get SLC_CFG0.PRIO s == d.get SLC_CFG0.PRIO a && es.rx == ea.rx && es.tx == ea.tx &&
        decide (br s < widthOf d a) && ms.all fun u => u == s || br u != br s) &&
      (if widthOf d a = 4 then ms.all fun s => (effOf d s).src % 4 == br s && (effOf d s).sink % 4 == br s
       else if widthOf d a = 2 then
         ms.all fun s => ms.all fun u => u == s ||
           ((effOf d s).src != (effOf d u).src && (effOf d s).sink != (effOf d u).sink &&
             (br s != 0 || decide ((effOf d s).src < (effOf d u).src)))
       else true)

/-- A set is complete and consistent. -/
def setOk (d : Dev) (m : Nat) : Bool :=
  let ms := setMembers d m
  match ms with
  | [] => true
  | a :: _ => ms.length == widthOf d a && setConsistent d ms

/-! ### Coefficient banks and glaze (R131, R132, R159 to R165) -/

/-- The table record of a bank that becomes live (R132, R165). -/
def bankJournal (e : Env) (by_ : By) (s : Nat) (bankB : Bool) (d : Dev) : Dev :=
  let n : RegName := if bankB then .SLC_COEF_B else .SLC_COEF_A
  let ws := (List.range 64).map fun j => (d.reg n s j).toNat
  journalTable e by_ (n.addr s 0) (n.addr s 63 + 3) (crcWords ws) false d

/-- The live bank changes without a fade (R160). -/
def bankFlip (e : Env) (by_ : By) (s : Nat) (d : Dev) : Dev :=
  let x := d.slice s
  bankJournal e by_ s (!x.gz.live) (d.setSlice s { x with gz := { x.gz with live := !x.gz.live } })

/-- A fade of LEN samples starts; its record is made now (R159, R165). -/
def fadeStart (e : Env) (s len : Nat) (d : Dev) : Dev :=
  let x := d.slice s
  bankJournal e byHw s (!x.gz.live) (d.setSlice s { x with gz := { x.gz with fade := some len, since := coreNow d }, doze := false })

/-- A fade ends: the bank faded to is live, and a pending request starts its fade on the next sample (R159, R161). -/
def fadeEnd (e : Env) (s : Nat) (d : Dev) : Dev :=
  let x := d.slice s
  match x.gz.fade with
  | none => d
  | some _ =>
    let g := { x.gz with live := !x.gz.live, fade := none, pend := none }
    let d1 := d.setSlice s { x with gz := g }
    match x.gz.pend with
    | some len => fadeStart e s len d1
    | none => d1

/-- A fade and its pending request complete at once (R164). -/
def fadeFinish (e : Env) (s : Nat) (d : Dev) : Dev :=
  let x := d.slice s
  match x.gz.fade with
  | none => d
  | some _ =>
    let d1 := d.setSlice s { x with gz := { x.gz with live := !x.gz.live, fade := none, pend := none } }
    match x.gz.pend with
    | some _ => bankFlip e byHw s d1
    | none => d1

/-- A request for a swap is accepted on one slice (R160, R161). -/
def glazeRequest (e : Env) (by_ : By) (len s : Nat) (d : Dev) : Dev :=
  let x := d.slice s
  let lost (g : Glaze) : Glaze := { g with lost := satN (g.lost + 1) 0xFF }
  if x.st = .idle then bankFlip e by_ s d
  else if x.gz.fade.isSome then
    let g := if x.gz.pend.isSome then lost x.gz else x.gz
    d.setSlice s { x with gz := { g with pend := some len } }
  else
    let g := if x.gz.wait.isSome then lost x.gz else x.gz
    d.setSlice s { x with gz := { g with wait := some len, reqAt := coreNow d } }

/-- A request that waited for its boundary is served (R160); one accepted at a boundary, which a Tow time does, waits for the following one.
DESIGN CHOICE (log 215): the state at the boundary that serves it decides on a fade. -/
def glazeBoundary (e : Env) (s : Nat) (d : Dev) : Dev :=
  let x := d.slice s
  match x.gz.wait with
  | none => d
  | some len =>
    let d1 := d.setSlice s { x with gz := { x.gz with wait := none } }
    if x.gz.reqAt = coreNow d then d
    else if x.st = .active ∨ x.st = .draining then fadeStart e s len d1 else bankFlip e byHw s d1

/-- POS: sample n of the running fade, from 1 to LEN (R159). -/
def fadePos (d : Dev) (s : Nat) : Nat :=
  match (d.slice s).gz.fade with
  | some len => min len ((coreNow d - (d.slice s).gz.since) / sampleCycles (effOf d s).cls + 1)
  | none => 0

/-- A bank that a write may change: either bank in IDLE; else the bank that is not live, with no fade waiting, running or
pending (R131, R162). -/
def bankOpen (d : Dev) (s : Nat) (bankB : Bool) : Bool :=
  let x := d.slice s
  x.st = .idle || (x.gz.live != bankB && x.gz.wait.isNone && x.gz.fade.isNone && x.gz.pend.isNone)

/-! ### Suppression and settling (R154 to R158) -/

/-- FLEN + FILL slice samples (R155). -/
def settleSamples (d : Dev) (s : Nat) : Nat :=
  flenOf d s + fillOf (effOf d s).cls (flenOf d s) (latOf d s)

/-- Settle samples remaining (SLC_SETTLE.REM). -/
def settleRem (d : Dev) (s : Nat) : Nat :=
  let x := d.slice s
  if x.setCnt = 0 then 0 else x.setCnt - (coreNow d - x.setFrom) / sampleCycles (effOf d s).cls

/-- What a settle count waits for when one more cause comes (R154, R155): a cause that starts at a boundary leaves it waiting for more than
that, and two locks are both awaited. -/
def Await.join (w new : Await) : Await :=
  match w, new with
  | .lock a b, .lock x y => .lock (a || x) (b || y)
  | .lock a b, .boundary => .lock a b
  | .cal, .boundary => .cal
  | .range, .boundary => .range
  | .spare, .boundary => .spare
  | _, new => new

/-- A slice's output is suppressed and its mute closes at once (R154 to R158). -/
def suppressOut (cause : Nat) (w : Await) (s : Nat) (d : Dev) : Dev :=
  let x := d.slice s
  if x.st = .settling ∨ x.st = .active ∨ x.st = .draining then
    d.setSlice s { x with
      suppressed := true, supHit := true, mute := .closed, cause := cause, await := x.await.join w, setCnt := 0
      st := if x.st = .active then .settling else x.st
      flushOnly := x.flushOnly || decide (x.st = .draining), doze := false }
  else d

/-- A suppression cause reaches a slice (R154 to R158); a fade that runs completes (R164). -/
def suppress (e : Env) (cause : Nat) (w : Await) (s : Nat) (d : Dev) : Dev :=
  let st := (d.slice s).st
  if st = .settling ∨ st = .active ∨ st = .draining then suppressOut cause w s (fadeFinish e s d) else d

/-- A synthesiser keeps the slices it serves muted: its retune runs (R71), or an RX synthesiser has lost lock (R75). -/
def synBars (d : Dev) (n : Nat) : Bool := (d.synth n).retune || (n % 2 == 0 && isLive d Ev.LO_UNLOCK n)

/-- A settle count may not start: a synthesiser of the slice bars it, an on-request calibration of a group of its chains runs
(R105), the range check stands failed (R128), or it moves to a spare (R390). -/
def settleBarred (d : Dev) (s : Nat) : Bool :=
  let g := srcOf d s / 4
  let h := sinkOf d s / 4
  synBars d (rxSyn g) || synBars d (txSyn h) || onReqRuns d g || onReqRuns d h || (d.slice s).rangeHold ||
    d.spr.now.any fun m => m.s == s

/-- What keeps a settle count from starting has passed (R154): relock, the end of a calibration, a restored range. -/
def awaitOver (d : Dev) (s : Nat) : Bool :=
  let x := d.slice s
  let g := srcOf d s / 4
  let h := sinkOf d s / 4
  match x.await with
  | .counting => false
  | .boundary => true
  | .set => true
  | .lock rx tx => (!rx || (d.synth (rxSyn g)).lock) && (!tx || (d.synth (txSyn h)).lock)
  | .cal => !onReqRuns d g && !onReqRuns d h
  | .range => !x.rangeHold
  | .spare => d.spr.now.all fun m => m.s != s

/-- The instants from which a branch's NCO phases run when its set starts (R123): those of a branch that already runs, else this
boundary. -/
def setPhase (d : Dev) (s : Nat) : Nat × Nat :=
  match (setMembers d (msetOf d s)).find? fun m =>
      m ≠ s && ((d.slice m).st = .active || ((d.slice m).st = .settling && (d.slice m).await = .counting)) with
  | some m => ((d.slice m).rxAt, (d.slice m).txAt)
  | none => (coreNow d, coreNow d)

/-- A boundary for a settling slice: SET_WAIT while its set is incomplete or inconsistent (R122), else the settle count
starts when its cause allows (R154, R155). The count of an enable, or of a set that has become complete, starts with the NCO phases of
the branches together, whatever cause came later (R123; DEDUCED, log 225). DESIGN CHOICE (log 213): a branch that is still QUEUED, POWERING or barred when its set becomes complete starts
its own count later. -/
def settleBoundary (s : Nat) (d : Dev) : Dev :=
  let x := d.slice s
  if x.st ≠ .settling then d
  else if !setOk d (msetOf d s) then
    let d1 := d.setBit SLC_ERR.SET s
    d1.setSlice s { x with setWait := true, phaseDue := true, setCnt := 0, await := if x.await = .counting then .boundary else x.await }
  else
    let y := { x with setWait := false, cause := if x.setWait ∧ x.await = .boundary then 1 else x.cause }
    let d1 := d.setSlice s y
    if awaitOver d1 s ∧ !settleBarred d1 s then
      let (rx, tx) := if y.cause = 1 ∨ y.phaseDue then setPhase d1 s else (y.rxAt, y.txAt)
      d1.setSlice s { y with await := .counting, phaseDue := false, setFrom := coreNow d1, setCnt := settleSamples d1 s, rxAt := rx, txAt := tx }
    else d1

/-- SET_WAIT shows at once on the settling slices of a set that is incomplete or inconsistent (R122), and no longer on those that count
when it is whole again. -/
def setMark (m : Nat) (d : Dev) : Dev :=
  let ok := setOk d m
  forL (setMembers d m) (fun s d => d.modSlice s fun x =>
    if x.st ≠ .settling then x
    else if ok then { x with setWait := x.setWait && x.await ≠ .counting }
    else { x with setWait := true, phaseDue := true }) d

/-- An ACTIVE slice whose set has become incomplete or inconsistent returns to SETTLING (R122, R140). -/
def setBreak (e : Env) (s : Nat) (d : Dev) : Dev :=
  let x := d.slice s
  if setOk d (msetOf d s) then d
  else
    let d1 := if x.st ≠ .idle then d.setBit SLC_ERR.SET s else d
    if x.st = .active then
      let d2 := suppress e 1 .boundary s d1
      d2.modSlice s fun y => { y with setWait := true, phaseDue := true }
    else d1

/-- The settle count elapses (R157): ACTIVE if the set is complete and consistent and the range check passes. DEDUCED (log 250): the mute
of a slice with presence begins to open at that instant. -/
def settleElapsed (e : Env) (s : Nat) (d : Dev) : Dev :=
  let x := d.slice s
  if x.st ≠ .settling ∨ x.await ≠ .counting then d
  else if !setOk d (msetOf d s) then d.setSlice s { x with setWait := true, phaseDue := true, setCnt := 0, await := .boundary }
  else if !rangeOk e d (isUl d s) x.eff then (d.setBit SLC_ERR.RANGE s).setSlice s { x with rangeHold := true, setCnt := 0, await := .range }
  else
    loopRestored s (d.setSlice s { x with
      st := .active, suppressed := false, setWait := false, setCnt := 0, await := .boundary, flushOnly := false
      ramps := [{ at_ := coreNow d, from_ := 0, up := true }]
      mute := if x.pres ∧ !d.flag SLC_CTL.FMUTE s then .opening else .closed })

/-- The range check after a retune or a write (R128): a slice that fails it is held, one that passes again settles from
the next boundary that nothing else bars. -/
def rangeCheck (e : Env) (s : Nat) (d : Dev) : Dev :=
  let x := d.slice s
  if x.st = .idle then d
  else if !rangeOk e d (isUl d s) x.eff then
    let d1 := (suppress e 7 .range s d).setBit SLC_ERR.RANGE s
    let y := d1.slice s
    d1.setSlice s { y with rangeHold := true, await := if y.st = .settling then .range else y.await }
  else if x.rangeHold then
    d.setSlice s { x with rangeHold := false, cause := 7, await := if x.st = .settling then .boundary else x.await }
  else d

/-! ### Entering and leaving service (R139 to R141) -/

/-- The tile is on: its waiting slices settle from the next boundary (R140). -/
def tileOn (t : Nat) (d : Dev) : Dev :=
  forL ((onTile d t).filter fun s => (d.slice s).st = .powering)
    (fun s d => setMark (msetOf d s) (d.modSlice s fun x =>
      { x with st := .settling, suppressed := true, supHit := true, cause := 1, await := .boundary, setCnt := 0 })) d

/-- The tile's power-down has completed and a queued power-up starts (R140). -/
def tileRequeued (t : Nat) (d : Dev) : Dev :=
  forL ((onTile d t).filter fun s => (d.slice s).st = .queued) (fun s d => d.modSlice s fun x => { x with st := .powering }) d

/-- Bring a slice up on its tile (R140); its suppression completes a fade that a shed has left running (R164). -/
def bringUp (e : Env) (s : Nat) (d : Dev) : Dev :=
  let t := tileOf d s
  let d1 := domRequest t (fadeFinish e s d)
  let st : SlSt := match (d1.dom t).phase with
    | .on => .settling
    | .offing => .queued
    | _ => .powering
  setMark (msetOf d s) (d1.modSlice s fun x =>
    { x with st := st, suppressed := true, supHit := true, cause := 1, await := .boundary, setCnt := 0, mute := .closed,
             flushOnly := false, forShed := false, drainRamp := false, doze := false })

/-- The latency written for a slice's direction, which takes effect at the next boundary (R150), in 0.01 µs. -/
def latNew (d : Dev) (s : Nat) : Nat := d.get SLC_LAT.LAT (if isUl d s then 1 else 0)

/-- A class fits the latency of a slice's direction (R149). DESIGN CHOICE (log 181): both the latency in effect and one that an
accepted write puts into effect at the next boundary. -/
def latFits (d : Dev) (s cls : Nat) : Bool := decide (minLat cls (flenOf d s) ≤ nLat (min (latOf d s) (latNew d s)))

/-- Blocks of a slice's delay line and canceller by its registers (R143): what it uses now and what it will use from the next
boundary, whichever is more (R144, R150). -/
def wantDelay (d : Dev) (s : Nat) : Nat := max (delayBlocks (wantEff d s).cls (latOf d s)) (delayBlocks (wantEff d s).cls (latNew d s))
def wantCnl (d : Dev) (s : Nat) : Nat := cnlBlocks (maskCount (d.get CNL_CFG.REFMASK s)) (d.get CNL_CFG.TAPS s)

/-- The routing of R21: a DL slice from a donor RX chain to a service TX chain, a UL slice the other way. -/
def routeOk (ul : Bool) (src sink : Nat) : Bool := if ul then decide (4 ≤ src ∧ sink < 4) else decide (src < 4 ∧ 4 ≤ sink)

/-- The checks of an enable in their order (R139); the first that fails sets its bit. Answers whether all pass. -/
def enableChecks (e : Env) (s : Nat) (d : Dev) : Dev × Bool :=
  let x := wantEff d s
  if !routeOk (isUl d s) x.src x.sink then (d.setBit SLC_ERR.DIR s, false)
  else if !rangeOk e d (isUl d s) x || !latFits d s x.cls then (d.setBit SLC_ERR.RANGE s, false)
  else if 1024 < suUsed d + suOf x.cls then (d.setBit SLC_ERR.SU s, false)
  else if poolFree d < wantDelay d s + wantCnl d s then (poolDenied e (d.setBit SLC_ERR.POOL s), false)
  else (d, true)

/-- The onset detectors of a slice forget the blocks they have seen (R263). -/
def oscForget (p : PSlice) : PSlice := { p with rise := 0, lastP := none, lines := [] }

/-- A slice reaches IDLE (R140, R164, R260): everything is released; trims and an ISO mute end, latched mutes stay. -/
def toIdle (e : Env) (s : Nat) (d : Dev) : Dev :=
  let d1 := fadeFinish e s d
  let t := tileOf d1 s
  let d2 := d1.modSlice s fun x =>
    { x with st := .idle, chg := false, su := 0, dlBlk := 0, cnlBlk := 0, setWait := false, rangeHold := false, suppressed := false,
             mute := .closed, setCnt := 0, await := .boundary, forShed := false, flushOnly := false, drainRamp := false, pres := false,
             noSig := 0, doze := false }
  let d3 := match (d2.slice s).gz.wait with
    | some _ => bankFlip e byHw s (d2.modSlice s fun x => { x with gz := { x.gz with wait := none } })
    | none => d2
  let p := oscForget (d3.psl s)
  let left := p.mutes.filter (· ≠ .iso)
  let d4 := d3.setPsl s { p with
    trims := [], gate := false, onset := none, oscAge := none, isoBad := 0, isoGood := 0, noiseOver := 0, noiseGood := 0, mutes := left }
  let d5 := if left.isEmpty then clearLive d4 Ev.PTL_MUTE_SLICE s else d4
  tileCheck t (cnlIdle s (loopSliceIdle s d5))

/-- A slice reaches SHED: its SU and blocks stay charged (R140). DESIGN CHOICE (log 183): a glaze fade that still runs, and its
pending request, stand; they complete by their length, or at once when the slice is restored or reaches IDLE. -/
def toShed (s : Nat) (d : Dev) : Dev :=
  let t := tileOf d s
  let d1 := (d.setPsl s (oscForget (d.psl s))).modSlice s fun x =>
    { x with st := .shed, suppressed := false, mute := .closed, setCnt := 0, await := .boundary, setWait := false,
             forShed := false, flushOnly := false, drainRamp := false, pres := false, doze := false }
  tileCheck t (cnlStop s (loopSliceGone s true d1))

/-- The level of a ramp at a detector time, one step a slice sample of `c` core cycles. -/
def MuteRamp.level (r : MuteRamp) (c t : Nat) : Nat :=
  let n := (t - r.at_) / c
  if r.up then min 32 (r.from_ + n) else r.from_ - n

/-- The level of the slice mute, 0 closed to 32 open, for the sample at detector time `t` (R136). -/
def muteLevel (d : Dev) (s t : Nat) : Nat :=
  let x := d.slice s
  match x.mute with
  | .open_ => 32
  | .closed => 0
  | _ => match x.ramps.find? fun r => decide (r.at_ ≤ t) with
    | some r => r.level (sampleCycles (effOf d s).cls) t
    | none => 0

/-- The mute starts to ramp at detector time `t` from its level there (R136, R140); what was decided for earlier samples stands. -/
def muteRamp (m : MuteSt) (s t : Nat) (d : Dev) : Dev :=
  let x := d.slice s
  let before : List MuteRamp := match x.mute with
    | .open_ => [{ at_ := 0, from_ := 32, up := true }]
    | .closed => []
    | _ => x.ramps.filter fun r => decide (r.at_ < t)
  d.setSlice s { x with mute := m, ramps := { at_ := t, from_ := muteLevel d s t, up := m = .opening } :: before }

/-- An ACTIVE slice starts to drain: its output ramps down from its present level (R34, R136, R140, R141). -/
def drain (forShed : Bool) (s : Nat) (d : Dev) : Dev :=
  let x := d.slice s
  let opened : Bool := x.mute = .open_ || x.mute = .opening
  let d1 := if opened then muteRamp .closing s (coreNow d) d else d
  d1.modSlice s fun y =>
    { y with st := .draining, forShed := forShed, flushOnly := decide (x.mute = .closed), drainRamp := opened, doze := false }

/-- EN written 0 (R140, R141). -/
def disableSlice (e : Env) (s : Nat) (d : Dev) : Dev :=
  let x := d.slice s
  match x.st with
  | .idle => d
  | .active => drain false s d
  | .draining => d.setSlice s { x with forShed := false }
  | _ => toIdle e s d

/-- Shed (R34, R140): the loop goes OPEN, an ACTIVE slice drains. -/
def shedSlice (s : Nat) (d : Dev) : Dev :=
  let x := d.slice s
  match x.st with
  | .active => loopSliceGone s true (drain true s d)
  | .queued => toShed s d
  | .powering => toShed s d
  | .settling => toShed s d
  | _ => d

/-- A drain reverses (R140, R158): to ACTIVE, the ramp that the drain started going back up from its present level, or to SETTLING
where a suppression cause has reached the slice. A closed mute opens on signal alone (R27, R136). -/
def reverseDrain (s : Nat) (d : Dev) : Dev :=
  let x := d.slice s
  if x.suppressed then
    setMark (msetOf d s) (d.setSlice s { x with st := .settling, forShed := false, flushOnly := false, drainRamp := false, setCnt := 0 })
  else
    let up := !d.flag SLC_CTL.FMUTE s && (if x.mute = .closing then x.drainRamp || x.pres else x.mute = .closed && x.pres)
    (if up then muteRamp .opening s (coreNow d) d else d).modSlice s fun y =>
      { y with st := .active, forShed := false, flushOnly := false, drainRamp := false }

/-- An enable whose checks have passed: charge, load the configuration, start the canceller, journal the live bank, bring
the slice up (R132, R139, R140, R172). Its NCO words take effect at the next boundary (R123). After SHUTDOWN it is SHED like every other (R351).
DESIGN CHOICE (log 214): every enable makes the bank's record, also of a bank unchanged since its last one. -/
def enableSlice (e : Env) (by_ : By) (s : Nat) (d : Dev) : Dev :=
  let x := wantEff d s
  let y := { d.slice s with
    eff := x, chg := false, su := suOf x.cls, dlBlk := wantDelay d s, cnlBlk := wantCnl d s, setWait := false
    rangeHold := false, noSig := 0, phaseDue := true, rxAt := boundaryNext d, txAt := boundaryNext d }
  let d1 := cnlStart s (d.setSlice s y)
  let d2 := bankJournal e by_ s y.gz.live d1
  if d.thm.sd then toShed s d2 else bringUp e s d2

/-- A shed slice is restored: as an enable, without the checks (R140, R172). An accepted change that waits for its boundary keeps it
(R124). -/
def restoreSlice (e : Env) (s : Nat) (d : Dev) : Dev :=
  let x := d.slice s
  match x.st with
  | .shed => bringUp e s (cnlResume s (d.setSlice s { x with phaseDue := true, rxAt := boundaryNext d, txAt := boundaryNext d }))
  | .draining =>
    let d1 := reverseDrain s d
    if !x.forShed then d else if (d1.slice s).st = .active then loopRestored s d1 else d1
  | _ => d

/-- No free spare: the slice FAILS with zero output (R117, R140). -/
def failSlice (s : Nat) (d : Dev) : Dev :=
  let x := d.slice s
  if x.st = .idle ∨ x.st = .shed ∨ x.st = .failed then d
  else
    cnlStop s (loopSliceGone s false (d.setSlice s { x with
      st := .failed, mute := .closed, suppressed := false, setCnt := 0, await := .boundary, setWait := false, pres := false
      doze := false }))

/-- Ramp and flush of a drain complete (R140, R141). -/
def drainDone (e : Env) (s : Nat) (d : Dev) : Dev :=
  let x := d.slice s
  if x.st ≠ .draining then d else if x.forShed ∧ enabled d s then toShed s d else toIdle e s d

/-! ### The slice mute (R136) -/

/-- A presence report reaches the mute: signal opens it in ACTIVE, or reverses a closing ramp, from the first sample of its window
on. -/
def muteSignal (s : Nat) (d : Dev) : Dev :=
  let x := d.slice s
  if x.st = .active ∧ !x.suppressed ∧ !d.flag SLC_CTL.FMUTE s ∧ (x.mute = .closed ∨ x.mute = .closing) then
    (muteRamp .opening s (coreNow d - 8 * sampleCycles (effOf d s).cls) d).modSlice s fun y => { y with doze := false }
  else d

/-- HANG has passed since the last window with signal. A drain that reverses later finds the mute closing for that. -/
def muteHang (s : Nat) (d : Dev) : Dev :=
  let x := d.slice s
  if x.pres then d
  else if x.mute = .open_ ∨ x.mute = .opening then muteRamp .closing s (coreNow d) d
  else d.setSlice s { x with drainRamp := false }

/-- FMUTE = 1 closes the mute with its ramp. -/
def muteForce (s : Nat) (d : Dev) : Dev :=
  let x := d.slice s
  if x.mute = .open_ ∨ x.mute = .opening then muteRamp .closing s (coreNow d) d else d

/-- A 32-sample ramp ends. -/
def muteRampDone (s : Nat) (d : Dev) : Dev :=
  let x := d.slice s
  match x.mute with
  | .opening => d.setSlice s { x with mute := .open_, ramps := [] }
  | .closing => d.setSlice s { x with mute := .closed, ramps := [] }
  | _ => d

/-- A window whose average power (mW at the input plane) is at or above PRES_TH reports signal (R135); a source chain that delivers
zeros gives none (R58). -/
def presenceSignal (d : Dev) (s : Nat) (pw : Rat) : Bool :=
  delivers d (effOf d s).src && reachesDbm pw (d.int SLC_DET.PRES_TH s)

/-- A presence window of 8 samples closes (R135). -/
def presence (s : Nat) (pw : Rat) (d : Dev) : Dev :=
  let x := d.slice s
  let signal := presenceSignal d s pw
  let runs := x.st = .settling ∨ x.st = .active ∨ x.st = .draining
  if ¬ runs then d
  else
    let d1 := d.setSlice s { x with pres := signal, seen := x.seen || signal, noSig := if signal then 0 else x.noSig + 1, presAt := coreNow d,
                                    doze := x.doze && !signal }
    if signal then muteSignal s d1 else d1

/-! ### A boundary in the slice array -/

/-- The same for bin `j` of the period (R152). -/
def binStart (d : Dev) (s j : Nat) : Nat := ((d.slice s).meas.start + 15360 * j) % ftMod

/-- The measurements of the period close (R32, R137, R152, R193): the reading is power, peak, raw word and eight bins, in mW. -/
def sliceClose (s : Nat) (pw pk : Rat) (raw : Nat) (bins : List Rat) (d : Dev) : Dev :=
  let x := d.slice s
  let measures := x.st = .settling || x.st = .active || x.st = .draining
  let valid := measures && !x.supHit
  let m : Meas :=
    { seq := (x.meas.seq + 1) % 256, valid := valid, rms := if measures then some (min (dbm pw) 32767) else none,
      peak := if measures then some (min (dbm pk) 32767) else none, raw := raw % 2 ^ 32, pres := x.seen,
      start := planeStart d (dMeas (effOf d s).cls (flenOf d s)), sysg := sysg d s, gain := (d.loop s).out, comp := (d.loop (192 + (effOf d s).sink)).out }
  d.setSlice s { x with
    meas := m, seen := false, supHit := x.suppressed
    bins := (List.range 8).map fun k => if valid then some (bins.getD k 0) else none }

/-- An accepted change of CLASS, SRC, SINK or an NCO word takes effect (R123, R124, R154, R172): a new NCO word at phase zero. A write
that restores the range ends RANGE_HOLD (R128). DESIGN CHOICE (log 179): that boundary starts the count for both causes, and the
later one, the restored range, shows. -/
def cfgBoundary (e : Env) (s : Nat) (d : Dev) : Dev :=
  let x := d.slice s
  if !x.chg then d
  else
    let y := wantEff d s
    let moved := y.cls != x.eff.cls || y.src != x.eff.src || y.rx != x.eff.rx
    let d1 := suppress e 4 .boundary s d
    let restored := x.rangeHold && rangeOk e d (isUl d s) y
    let d2 := d1.modSlice s fun z =>
      { z with eff := y, chg := false, su := suOf y.cls, dlBlk := delayBlocks y.cls (latOf d s)
               rxAt := if y.rx = x.eff.rx then z.rxAt else coreNow d, txAt := if y.tx = x.eff.tx then z.txAt else coreNow d
               rangeHold := z.rangeHold && !restored, cause := if restored then 7 else z.cause }
    if moved then cnlRestart s d2 else d2

/-- A latency change takes effect in a direction (R150, R154). -/
def latBoundary (e : Env) (ul : Bool) (d : Dev) : Dev :=
  if !(if ul then d.pool.chgUl else d.pool.chgDl) then d
  else
    let lat := d.get SLC_LAT.LAT (if ul then 1 else 0)
    let d1 := { d with pool := if ul then { d.pool with latUl := lat, chgUl := false } else { d.pool with latDl := lat, chgDl := false } }
    forN 192 (fun s d =>
      if isUl d s = ul ∧ (d.slice s).st ≠ .idle then
        suppress e 5 .boundary s (d.modSlice s fun x => { x with dlBlk := delayBlocks x.eff.cls lat })
      else d) d1

/-- Canceller changes take effect, with the blocks of the new configuration (R170). -/
def cnlCfgBoundary (s : Nat) (d : Dev) : Dev :=
  if (d.canc s).chg then
    (cnlReconfig s d).modSlice s fun x => if x.st = .idle then x else { x with cnlBlk := wantCnl d s }
  else d

/-- The suppression of slices that have moved to a spare begins, as cause 0b001 (R390). -/
def movedBoundary (e : Env) (d : Dev) : Dev :=
  forL d.spr.moved (suppress e 1 .boundary) { d with spr := { d.spr with moved := [] } }

/-- Everything a boundary does in the slices, after the measurements have closed. -/
def slicesBoundary (e : Env) (d : Dev) : Dev :=
  let d1 := latBoundary e true (latBoundary e false d)
  let ss := (d1.slices.map (·.1))
  let d2 := forL ss (fun s d => glazeBoundary e s (cnlCfgBoundary s (cfgBoundary e s d))) d1
  let d3 := forL ss (setBreak e) (movedBoundary e d2)
  forL ss settleBoundary d3

end Sys2Proof.Machine
end

