-- ==== Sys2Proof/Machine/Chains.lean ====
section
/-! DEFINITION. The chains (R91 to R115): the ORX and its users, start-up, on-request and background calibration, and what
a boundary does in the chains. -/
namespace Sys2Proof.Machine

/-! ### Serving temperatures (R343, R108) -/

/-- The sensor that serves a chain. -/
def chainSensor (tx : Bool) (c : Nat) : Nat := (if tx then 2 else 0) + c / 4

/-- Change an RX or TX chain. -/
def Dev.modRx (d : Dev) (c : Nat) (f : Chain → Chain) : Dev := d.setRxChain c (f (d.rxChain c))
def Dev.modTx (d : Dev) (c : Nat) (f : Chain → Chain) : Dev := d.setTxChain c (f (d.txChain c))

/-- STALE (R108): a reading more than 8 °C from the temperature at a quantity's last refresh. DESIGN CHOICE (log 238): without a reading
at the refresh or at present there is no difference, and the quantity is not STALE. -/
def Chain.staleAt (x : Chain) (t : Option Int) : Bool :=
  match t with
  | none => false
  | some t =>
    let far (r : Option Int) : Bool := match r with | some a => decide (800 < (t - a).natAbs) | none => false
    far x.tGap || far x.tTrk || far x.tIq

/-- STALE of every chain follows its sensor; CAL_STALE is live for a chain that shows it (R108, R115): instance c for RX
chain c and 8 + c for TX chain c. -/
def staleCheck (e : Env) (d : Dev) : Dev :=
  forN 8 (fun c d =>
    let rx := (d.rxChain c).staleAt (servingTemp d (chainSensor false c))
    let tx := (d.txChain c).staleAt (servingTemp d (chainSensor true c))
    setLive e Ev.CAL_STALE (8 + c) tx (setLive e Ev.CAL_STALE c rx
      ((d.modRx c fun x => { x with stale := rx }).modTx c fun x => { x with stale := tx }))) d

/-! ### The ORX (R96, R97) -/

/-- Attenuation for a tap: the expected peak 6 dB below full scale, 0 to 30 dB (R96). DESIGN CHOICE (log 172): the need is
rounded up to a whole decibel. -/
def orxAtt (d : Dev) (c : Nat) : Nat :=
  let f := unitsHz (loNow d (2 * (c / 4) + 1))
  let peak : Int := (d.txChain c).peak + dacFull - 50 * ((d.txChain c).att : Int) + facGain d true c f + (tapGain d c f).getD 0
  (clampI (-(-(peak + 1600) / 100)) 0 30).toNat

/-- A tap can be selected only while its group's TX synthesiser is locked (R96). -/
def tapOk (d : Dev) (c : Nat) : Bool := (d.synth (txSyn (c / 4))).lock

/-- Abandon the background step in progress (R78, R107); it is retried in a later gap. -/
def bgAbandon (d : Dev) : Dev :=
  let d1 := { d with cal := { d.cal with bg := none } }
  if d1.orx.owner = .bg then { d1 with orx := { d1.orx with owner := .idle, switching := false } } else d1

/-- The sweep segment in progress leaves the ORX: the 2 ms of R493 begin for its tap's group. -/
def sweepRest (d : Dev) : Dev :=
  match d.ptl.seg with
  | some c => { d with cal := if c < 4 then { d.cal with sweep0 := some (coreNow d) } else { d.cal with sweep1 := some (coreNow d) } }
  | none => d

/-- A user of higher priority takes the ORX at once; the step it pre-empts is counted and abandoned (R97). Answers whether
the user owns the ORX. -/
def orxOwn (u : OrxUser) (d : Dev) : Dev × Bool :=
  let o := d.orx.owner
  let mine (d : Dev) : Dev := { d with orx := { d.orx with owner := u } }
  if o = .idle ∨ o = u then (mine d, true)
  else if o.code < u.code then (d, false)
  else
    let d1 := { d with orx := { d.orx with preempt := satN (d.orx.preempt + 1) 0xFF } }
    let d2 := if o = .bg then bgAbandon d1
      else if o = .sweep then
        let d3 := sweepRest d1
        { d3 with ptl := { d3.ptl with seg := none, segBad := false } }
      else d1
    (mine d2, true)

/-- The owner of the ORX selects a tap and sets the attenuation for it (R96). -/
def orxSelect (tap : Nat) (d : Dev) : Dev :=
  { d with orx := { d.orx with tap := tap, att := orxAtt d tap, switching := d.orx.switching || d.orx.tap != tap } }

/-- Take the ORX for a tap. -/
def orxTake (u : OrxUser) (tap : Nat) (d : Dev) : Dev × Bool :=
  let (d1, mine) := orxOwn u d
  if mine then (orxSelect tap d1, true) else (d1, false)

/-- Give the ORX back. -/
def orxGive (u : OrxUser) (d : Dev) : Dev :=
  if d.orx.owner = u then { d with orx := { d.orx with owner := .idle, switching := false } } else d

/-! ### Start-up and on-request calibration (R101 to R105) -/

/-- The calibration gate of a TX chain (R26, R100). -/
def calGate (d : Dev) (c : Nat) : Bool := decide ((d.txChain c).cal = .done) && !onReqRuns d (c / 4)

/-- The masked chains of a group. -/
def rxMasked (d : Dev) (g : Nat) : List Nat := ((List.range 4).filter (bitOf (d.get SYN_GRP_CTL.RX_MASK g))).map (4 * g + ·)
def txMasked (d : Dev) (g : Nat) : List Nat := ((List.range 4).filter (bitOf (d.get SYN_GRP_CTL.TX_MASK g))).map (4 * g + ·)

/-- Durations of R101 in core cycles. -/
def CalStep.cycles : CalStep → Nat
  | .orxSelf => 1474560 | .rx _ => 1966080 | .tx _ => 2260992 | .rxFlat _ => 11796480 | .txFlat _ => 3932160

/-- An on-request step that would end more than 40 ms after the calibration started is not begun (R105). -/
def tooLate (d : Dev) (g : Nat) (st : CalStep) : Bool :=
  (gcal d g).onReq && decide ((gcal d g).since + 39321600 < coreNow d + st.cycles)

/-- The tap check (R101): user calibration covers TX LO ± 800 MHz with G_tap and C_tap points of the chain's tap. -/
def tapCheck (d : Dev) (c : Nat) : Bool :=
  match d.ucal.tap.lookup c with
  | none => false
  | some ps =>
    let lo := unitsHz (loNow d (2 * (c / 4) + 1))
    match ps.head?, ps.getLast? with
    | some a, some b => decide ((a.1 : Int) ≤ lo - 800000000) && decide (lo + 800000000 ≤ (b.1 : Int))
    | _, _ => false

/-- A chain is calibrated: fresh figures at the present temperature, so STALE clears (R108); an on-request calibration clears
COARSE (R109). -/
def chainDone (e : Env) (tx : Bool) (c : Nat) (d : Dev) : Dev :=
  let t := servingTemp d (chainSensor tx c)
  let f (x : Chain) : Chain :=
    { x with cal := .done, coarse := x.coarse && !(gcal d (c / 4)).onReq, seed := none, tGap := t, tTrk := t, tIq := if tx then none else t }
  staleCheck e (if tx then d.modTx c fun x => { f x with noTap := false } else d.modRx c f)

/-- A chain leaves FAILED to be calibrated again: its fault ends (R103, R115). -/
def chainRetry (tx : Bool) (c : Nat) (d : Dev) : Dev :=
  if tx then clearLive (clearLive d Ev.TX_CAL_FAIL c) Ev.TX_NO_TAP_CAL c else clearLive d Ev.RX_CAL_FAIL c

/-- A chain has failed twice (R103). -/
def chainFail (e : Env) (tx : Bool) (c : Nat) (tap : Bool) (d : Dev) : Dev :=
  if tx then
    raiseLive e (d.modTx c fun x => { x with cal := .failed, noTap := tap }) (if tap then Ev.TX_NO_TAP_CAL else Ev.TX_CAL_FAIL) c
  else raiseLive e (d.modRx c fun x => { x with cal := .failed }) Ev.RX_CAL_FAIL c

/-- An abandoned step keeps the chain's previous corrections; the chain shows COARSE (R105). -/
def chainSkip (tx : Bool) (c : Nat) (d : Dev) : Dev :=
  if tx then d.modTx c fun x => { x with cal := if x.cal = .calibrating then .done else x.cal, coarse := true }
  else d.modRx c fun x => { x with cal := if x.cal = .calibrating then .done else x.cal, coarse := true }

/-- Slices of a group's chains come under suppression for an on-request calibration (R105, R154). -/
def calSuppress (e : Env) (g : Nat) (d : Dev) : Dev :=
  forN 192 (fun s d => if sliceOfGroup d g s then suppress e 6 .cal s d else d) d

/-- The calibration of a group ends (R77, R105): CAL clears and the held request is resolved. -/
def calEnd (g : Nat) (d : Dev) : Dev :=
  let d1 := setGcal g {} { d with cal := { d.cal with order := sdel d.cal.order g } }
  let x := d1.group g
  let d2 := d1.setGroup g { x with cal := false, heldReq := none, aim := none }
  match x.heldReq with
  | some t => request g t d2
  | none => d2

/-- The groups in calibration whose ORX steps are open, in order. -/
def calOrder (d : Dev) : List Nat := d.cal.order.filter fun g => (gcal d g).run

/-- A group's calibration has nothing left to do. -/
def calFinished (d : Dev) (g : Nat) : Bool :=
  let x := gcal d g
  x.run && x.rxNow.isEmpty && (x.txTodo.isEmpty || x.orxFail) &&
    (match d.cal.now with
      | some (.tx c) => c / 4 != g
      | some (.txFlat c) => c / 4 != g
      | some .orxSelf => x.orxDone || x.txTodo.isEmpty && !x.onReq
      | _ => true) && (x.orxDone || x.orxFail || (x.txTodo.isEmpty && !x.onReq))

/-- A step that R105 no longer begins is next in a group's calibration. -/
def nextLate (d : Dev) (g : Nat) : Bool :=
  if !(gcal d g).orxDone then tooLate d g .orxSelf
  else match (gcal d g).txTodo with
    | c :: _ => tooLate d g (.tx c)
    | [] => false

/-- A running group still needs the ORX self-calibration. -/
def needsOrx (d : Dev) (g : Nat) : Bool :=
  let x := gcal d g
  x.run && !x.orxDone && !x.orxFail && (x.onReq || !d.orx.selfOk)

/-- Every group that needs the ORX self-calibration would have it end too late (R105). -/
def orxTooLate (d : Dev) : Bool :=
  let gs := [0, 1].filter (needsOrx d)
  !gs.isEmpty && gs.all fun g => tooLate d g .orxSelf

/-- The next ORX step: a self-calibration where the group next in order needs one, else its next TX chain. A chain that
fails its tap check is FAILED without a step (R101 to R103). DEDUCED (log 173): a group whose TX synthesiser is not locked has no
tap to select (R96), so its steps wait for the lock, or until R105 no longer begins them, and the other group's go on. DESIGN CHOICE (log 174): the self-calibration
takes the LO of the group it runs for, through tap 4·g. The fuel bounds the chains passed over. -/
def calKick (e : Env) : Nat → Dev → Dev
  | 0, d => d
  | n + 1, d =>
    if d.cal.now.isSome then d
    else
      match (calOrder d).find? fun g =>
          !(gcal d g).orxFail && (tapOk d (4 * g) || nextLate d g) && (!(gcal d g).txTodo.isEmpty || (!(gcal d g).orxDone && ((gcal d g).onReq || !d.orx.selfOk))) with
      | none => d
      | some g =>
        let x := gcal d g
        if !x.orxDone then
          if (d.orx.selfOk ∧ !x.onReq) ∨ nextLate d g then calKick e n (setGcal g { x with orxDone := true } d)
          else
            let d1 := (orxTake .cal (4 * g) d).1
            { d1 with cal := { d1.cal with now := some .orxSelf, again := false } }
        else match x.txTodo with
          | [] => d
          | c :: rest =>
            if tapOk d c ∧ !tapCheck d c then calKick e n (chainFail e true c true (setGcal g { x with txTodo := rest } (chainRetry true c d)))
            else let d := if tapOk d c then d.modTx c fun y => { y with noTap := false } else d
            if tooLate d g (.tx c) then calKick e n (chainSkip true c (setGcal g { x with txTodo := rest } d))
            else
              let d1 := (orxTake .cal c (chainRetry true c d)).1.modTx c fun y => { y with cal := .calibrating }
              setGcal g { x with txTodo := rest, txWas := (d.txChain c).cal } { d1 with cal := { d1.cal with now := some (.tx c), again := false } }

/-- The ORX is free of calibrations once none is under way and no self-calibration runs (R97). -/
def calRelease (d : Dev) : Dev := if calUnderWay d 0 || calUnderWay d 1 || d.cal.now.isSome then d else orxGive .cal d

/-- End the calibrations that are finished and start the next ORX step. -/
def calGo (e : Env) (d : Dev) : Dev :=
  let d1 := calKick e 16 d
  let endIf (g : Nat) (d : Dev) : Dev := if calFinished d g then calEnd g d else d
  let d2 := endIf 1 (endIf 0 d1)
  calRelease (calKick e 16 d2)

/-- GRP_D enters SYNTH in the core cycle in which GRP_S has: it takes the ORX first (R370), and a TX step that GRP_S has begun in that
cycle waits. Answers whether it does. -/
def calYield (g : Nat) (onReq : Bool) (d : Dev) : Dev × Bool :=
  let y := d.cal.g1
  if g ≠ 0 ∨ onReq ∨ !y.run ∨ y.onReq ∨ y.since ≠ coreNow d then (d, false)
  else match d.cal.now with
    | some (.tx c) =>
      if c / 4 = 1 then
        let d1 := d.modTx c fun x => { x with cal := y.txWas }
        ({ d1 with cal := { d1.cal with now := none, g1 := { y with txTodo := c :: y.txTodo } } }, true)
      else (d, true)
    | _ => (d, true)

/-- Begin a calibration in SYNTH (R102, R105). The ORX self-calibration runs in the first one of a start, and is tried again at
the next entry into SYNTH after it has failed, chains or no chains (R103). -/
def calBegin (e : Env) (g : Nat) (onReq : Bool) (d : Dev) : Dev :=
  let x := gcal d g
  let todo (l : List Nat) (ch : Nat → Chain) : List Nat := if onReq then l else l.filter fun c => (ch c).cal ≠ .done
  let rx := todo (rxMasked d g) d.rxChain
  let tx := todo (txMasked d g) d.txChain
  if rx.isEmpty ∧ tx.isEmpty ∧ !onReq ∧ !isLive d Ev.ORX_CAL_FAIL noInst then d
  else
    let (d0, first) := calYield g onReq d
    let d1 := forL rx (fun c d => chainRetry false c (d.modRx c fun y => { y with cal := .calibrating })) d0
    let d2 := setGcal g { x with
      run := true, onReq := onReq, pend := false, toSynth := false, since := if onReq then x.since else coreNow d, rxNow := rx, rxFlat := false
      rxAgain := false, rxOk := [], txTodo := tx, orxDone := false, orxFail := false } d1
    let d3 := { d2 with cal := { d2.cal with order := if first then g :: d2.cal.order.filter (fun k => k ≠ g) else sadd d2.cal.order g } }
    let y := d3.group g
    let d4 := d3.setGroup g { y with cal := true, heldReq := if onReq then y.heldReq else some y.target,
                                         aim := (if onReq then none else some y.target), target := .synth }
    calGo e (orxOwn .cal d4).1

/-- A group has reached SYNTH: an on-request calibration that waited for it begins, or the start-up calibration of its masked
chains that are not CALIBRATED (R102); without any, and on a way down that a reaction or the sleep sequence forces, the group
goes on. -/
def calAtSynth (e : Env) (g : Nat) (d : Dev) : Dev :=
  let x := d.group g
  if x.state ≠ .synth ∨ x.phase ≠ .steady ∨ (gcal d g).run then d
  else if (gcal d g).toSynth then calBegin e g true (d.setGroup g { x with fresh := false })
  else if !x.fresh then d
  else
    let d0 := d.setGroup g { x with fresh := false }
    if x.held ∨ d.thm.crit.on ∨ d.thm.sd ∨ d.pwr.sleep ≠ .awake then advance g d0
    else
      let d1 := calBegin e g false d0
      if (gcal d1 g).run then d1 else advance g d1

/-- The RX step of a group ends for the chains that passed (R101, R103): a failed chain is retried once, then FAILED; an
on-request calibration goes on to the flatness step. DESIGN CHOICE (log 237): the chains that passed are CALIBRATED when the
group's parallel step has ended, the retry of the others included. -/
def calRxDone (e : Env) (g : Nat) (passed : Nat → Bool) (d : Dev) : Dev :=
  let x := gcal d g
  if x.rxNow.isEmpty then d
  else
    let bad := x.rxNow.filter fun c => !passed c
    let ok := x.rxOk ++ x.rxNow.filter passed
    let late := tooLate d g (if x.rxFlat then .rxFlat g else .rx g)
    if !bad.isEmpty ∧ !x.rxAgain ∧ !late then
      setGcal g { x with rxNow := bad, rxAgain := true, rxOk := ok } d
    else
      let d1 := forL bad (fun c d => if x.rxAgain then chainFail e false c false d else chainSkip false c d) d
      if x.onReq ∧ !x.rxFlat ∧ !ok.isEmpty then
        if tooLate d1 g (.rxFlat g) then
          calGo e (setGcal g { x with rxNow := [], rxOk := [] }
            (forL ok (fun c d => chainSkip false c d) d1))
        else setGcal g { x with rxNow := ok, rxFlat := true, rxAgain := false, rxOk := [] } d1
      else
        calGo e (setGcal g { x with rxNow := [], rxOk := [] } (forL ok (fun c d => chainDone e false c d) d1))

/-- The ORX self-calibration ends (R103): a second failure leaves every uncalibrated TX chain UNCALIBRATED, and the
calibrations go on without TX steps. A retry that would end too late is not begun (R105): it ends the step with the previous
corrections, unless another group needs it still. -/
def calOrxDone (e : Env) (passed : Bool) (d : Dev) : Dev :=
  if passed then
    let mark (g : Nat) (d : Dev) : Dev := if (gcal d g).run then setGcal g { gcal d g with orxDone := true } d else d
    let d1 := { d with cal := { d.cal with now := none }, orx := { d.orx with selfOk := true } }
    calGo e (mark 1 (mark 0 (clearLive d1 Ev.ORX_CAL_FAIL)))
  else if !d.cal.again then
    (if orxTooLate d then calGo e { d with cal := { d.cal with now := none } } else { d with cal := { d.cal with again := true } })
  else
    let mark (g : Nat) (d : Dev) : Dev := if (gcal d g).run then setGcal g { gcal d g with orxFail := true, txTodo := [] } d else d
    let d1 := { d with cal := { d.cal with now := none }, orx := { d.orx with selfOk := false } }
    calGo e (mark 1 (mark 0 (raiseLive e d1 Ev.ORX_CAL_FAIL)))

/-- The retry of a TX step would come too late: the chain keeps the corrections it had before the step (R105); one that was FAILED
has failed again. -/
def txTooLate (e : Env) (c : Nat) (flat : Bool) (d : Dev) : Dev :=
  match if flat then .done else (gcal d (c / 4)).txWas with
  | .failed => chainFail e true c false d
  | .uncal => d.modTx c fun x => { x with cal := .uncal, coarse := true }
  | _ => chainSkip true c d

/-- A TX step ends (R101, R103). -/
def calTxDone (e : Env) (c : Nat) (flat passed : Bool) (d : Dev) : Dev :=
  let g := c / 4
  if passed then
    if (gcal d g).onReq ∧ !flat then
      if tooLate d g (.txFlat c) then calGo e (chainSkip true c { d with cal := { d.cal with now := none } })
      else { d with cal := { d.cal with now := some (.txFlat c), again := false } }
    else calGo e (chainDone e true c { d with cal := { d.cal with now := none } })
  else if !d.cal.again then
    (if tooLate d g (if flat then .txFlat c else .tx c) then calGo e (txTooLate e c flat { d with cal := { d.cal with now := none } })
     else { d with cal := { d.cal with again := true } })
  else calGo e (chainFail e true c false { d with cal := { d.cal with now := none } })

/-- A calibration step ends: the step, and which of its chains pass (chain c in bit c; the ORX in bit 0). -/
def calStepDone (e : Env) (st : CalStep) (ok : Nat) (d : Dev) : Dev :=
  match st with
  | .orxSelf => if d.cal.now = some .orxSelf then calOrxDone e (bitOf ok 0) d else d
  | .rx g => if (gcal d g).run ∧ !(gcal d g).rxFlat then calRxDone e g (bitOf ok) d else d
  | .rxFlat g => if (gcal d g).run ∧ (gcal d g).rxFlat then calRxDone e g (bitOf ok) d else d
  | .tx c => if d.cal.now = some (.tx c) then calTxDone e c false (bitOf ok c) d else d
  | .txFlat c => if d.cal.now = some (.txFlat c) then calTxDone e c true (bitOf ok c) d else d

/-- An on-request calibration starts (R77, R105): background steps are abandoned, the slices of the group are suppressed,
Carve unwinds what acts on the group, and the group moves to SYNTH. -/
def onReqStart (e : Env) (g : Nat) (d : Dev) : Dev :=
  let x := d.group g
  let d0 := bgAbandon (orxOwn .cal d).1
  let d1 := unwindWhere (epochInCal d0 g (coreNow d0)) (calSuppress e g d0)
  let d2 := setGcal g { gcal d1 g with pend := false, toSynth := true, onReq := true, since := coreNow d1 } d1
  let d3 := d2.setGroup g { d2.group g with cal := true, heldReq := some x.target, target := .synth }
  calAtSynth e g (goOn g d3)

/-- The ORX is held by the other group's start-up or on-request calibration. -/
def orxBusyWith (d : Dev) (g : Nat) : Bool := calUnderWay d (1 - g)

/-- A request for an on-request calibration (R104). -/
def calRequest (e : Env) (g : Nat) (d : Dev) : Dev :=
  let x := d.group g
  let c := gcal d g
  if x.state.code ≤ 1 ∨ x.held then d.setBit CAL_STAT.REQ_REJ
  else if c.run ∨ c.pend ∨ c.toSynth then d
  else if orxBusyWith d g then setGcal g { c with pend := true } d
  else onReqStart e g d

/-- A pending on-request calibration starts once the ORX is free (R104). DESIGN CHOICE (log 175): one whose group has meanwhile
gone to STANDBY or below, or is HELD, is dropped and sets no REQ_REJ. -/
def onReqPending (e : Env) (g : Nat) (d : Dev) : Dev :=
  if (gcal d g).pend ∧ !orxBusyWith d g then
    (if (d.group g).state.code ≤ 1 ∨ (d.group g).held then setGcal g { gcal d g with pend := false } d else onReqStart e g d)
  else d

/-- The group leaves SYNTH and above while it is calibrated: the calibration ends where it stands (R76, R351), and so does an
ORX self-calibration with no group left in SYNTH or above (R354). DESIGN CHOICE (log 212): a chain that it cuts off is UNCALIBRATED, also
one that was CALIBRATED before an on-request run. -/
def calAbort (g : Nat) (d : Dev) : Dev :=
  let x := gcal d g
  if (x.run ∨ x.toSynth) ∧ (d.group g).target.code ≤ 1 then
    let undo (_ : Nat) (y : Chain) : Chain := if y.cal = .calibrating then { y with cal := .uncal } else y
    let d1 := forL [0, 1, 2, 3] (fun k d => (d.modRx (4 * g + k) (undo k)).modTx (4 * g + k) (undo k)) d
    let mine : Bool := match d1.cal.now with
      | some (.tx c) => c / 4 == g
      | some (.txFlat c) => c / 4 == g
      | some .orxSelf => !(gcal d1 (1 - g)).run
      | _ => false
    let d2 := if mine then { d1 with cal := { d1.cal with now := none } } else d1
    let d3 := setGcal g {} { d2 with cal := { d2.cal with order := sdel d2.cal.order g } }
    calRelease (d3.setGroup g { d3.group g with cal := false, heldReq := none, aim := none })
  else if d.cal.now = some .orxSelf ∧ (d.group 0).state.code ≤ 1 ∧ (d.group 1).state.code ≤ 1 then
    calRelease { d with cal := { d.cal with now := none } }
  else d

/-! ### Background calibration (R106 to R109) -/

/-- Durations of the background steps in core cycles, with the 50 µs of R106 for a gap step. -/
def BgKind.cycles : BgKind → Nat
  | .rxGap => 147456 | .txGap => 196608 | .txTrack => 98304

/-- Whether an armed Stencil on a slice predicts that the interval in progress lasts `need` cycles more (R106, R235). -/
def gapFrom (d : Dev) (n need : Nat) : Bool :=
  let x := d.stencil n
  let p := stnP d n * 15360
  let now := x.obs.length * 15360 + d.clk.ofs
  if x.st ≠ .armed ∨ p = 0 then false
  else
    let ahead := x.edges.map fun ed => (ed.2 + p - now % p - 1) % p + 1
    !ahead.isEmpty && ahead.all fun a => decide (need ≤ a)

/-- A gap for a chain: an armed Stencil attached to a slice that uses it (R106). -/
def gapOk (d : Dev) (tx : Bool) (c need : Nat) : Bool :=
  (List.range 32).any fun n =>
    let s := d.get STN_CFG.SLICE n
    (if tx then (effOf d s).sink == c else (effOf d s).src == c) && gapFrom d n need

/-- No TX step starts on a group within 2 ms of a sweep segment on one of its taps (R493). -/
def sweepBlocks (d : Dev) (g : Nat) : Bool :=
  match if g = 0 then d.cal.sweep0 else d.cal.sweep1 with
  | some t => decide (coreNow d < t + 1966080)
  | none => false

/-- The state of the group that a step needs throughout (R101). -/
def bgStateOk (d : Dev) (k : BgKind) (c : Nat) : Bool :=
  let x := d.group (c / 4)
  x.phase = .steady && !x.cal &&
    match k with
    | .rxGap => x.state = .tx && x.target = .tx
    | .txGap => x.state = .rx && !x.target.transmits
    | .txTrack => x.state.transmits

/-- The composite level of a TX chain over the last period is at least −30 dBFS (R101). -/
def levelOk (d : Dev) (c : Nat) : Bool :=
  match d.eng.comp.lookup c with
  | some (_, _, y, act) => act && decide (-3000 ≤ y - planeTx d c (unitsHz (loTab d (2 * (c / 4) + 1))))
  | none => false

/-- A background step could run on a chain (R101, R106, R493): enabled, its group in the state it needs, a predicted gap for a
gap step, the composite level for a tracking step. -/
def bgCan (d : Dev) (k : BgKind) (c : Nat) : Bool :=
  bgStateOk d k c &&
    match k with
    | .rxGap => bitOf (d.get CAL_CTL.BG_RX_EN) c && (d.rxChain c).cal = .done && gapOk d false c k.cycles
    | .txGap => bitOf (d.get CAL_CTL.BG_TX_EN) c && (d.txChain c).cal = .done && !sweepBlocks d (c / 4) && tapOk d c &&
        (d.orx.owner = .idle) && gapOk d true c k.cycles
    | .txTrack => bitOf (d.get CAL_CTL.BG_TX_EN) c && d.flag TXC_CFG.TRK_EN c && (d.txChain c).cal = .done &&
        !sweepBlocks d (c / 4) && tapOk d c && d.orx.owner = .idle && levelOk d c

/-- The place of a chain in the rotation of background steps: RX chains, then TX chains. -/
def bgPlace (p : Nat × Nat) : Nat := 8 * p.1 + p.2

/-- A step may start now: none runs, and no chain that stands before it in the rotation could take its turn (R106). DESIGN CHOICE
(log 176): a chain that cannot run a step now is passed over. -/
def bgMay (d : Dev) (k : BgKind) (c : Nat) : Bool :=
  let far (p : Nat × Nat) : Nat := (bgPlace p + 15 - bgPlace d.cal.lastBg) % 16
  let mine := far (if k = .rxGap then 0 else 1, c)
  d.cal.bg.isNone && bgCan d k c &&
    (List.range 8).all fun j =>
      (decide (mine ≤ far (0, j)) || !bgCan d .rxGap j) &&
        (decide (mine ≤ far (1, j)) || !(bgCan d .txGap j || bgCan d .txTrack j))

/-- A background step starts. -/
def bgStart (k : BgKind) (c : Nat) (d : Dev) : Dev :=
  if bgMay d k c then
    let d1 := { d with cal := { d.cal with bg := some (k, c), lastBg := (if k = .rxGap then 0 else 1, c) } }
    if k = .rxGap then d1 else (orxTake .bg c d1).1
  else d

/-- A background step whose conditions no longer hold is abandoned (R78, R107). -/
def bgCheck (d : Dev) : Dev :=
  match d.cal.bg with
  | some (k, c) => if bgStateOk d k c && (k = .rxGap || d.orx.owner = .bg) && (k ≠ .txTrack || levelOk d c) then d else bgAbandon d
  | none => d

/-- A background step completes; its corrections apply at the next boundary (R107). -/
def bgDone (d : Dev) : Dev :=
  match d.cal.bg with
  | some b =>
    orxGive .bg { d with cal := { d.cal with bg := none, bgCnt := (d.cal.bgCnt + 1) % 65536, bgDone := d.cal.bgDone ++ [b] } }
  | none => d

/-- Corrections of completed steps apply (R107 to R109): the quantity is refreshed, and COARSE clears once every quantity
the background refreshes has been. -/
def bgApply (e : Env) (d : Dev) : Dev :=
  let one (b : BgKind × Nat) (d : Dev) : Dev :=
    let t := servingTemp d (chainSensor (b.1 ≠ .rxGap) b.2)
    match b.1 with
    | .rxGap => d.modRx b.2 fun x => { x with tGap := t, tTrk := t, tIq := t, seed := none, bgGap := true, coarse := false }
    | .txGap => d.modTx b.2 fun x => { x with tGap := t, seed := none, bgGap := true, coarse := x.coarse && !x.bgTrk }
    | .txTrack => d.modTx b.2 fun x => { x with tTrk := t, bgTrk := true, coarse := x.coarse && !x.bgGap }
  let d1 := forL d.cal.bgDone one { d with cal := { d.cal with bgDone := [] } }
  if d.cal.bgDone.isEmpty then d1 else staleCheck e d1

/-- A synthesiser locks after a retune: the chains it serves load the factory seeds at the new LO and show COARSE (R109); a
background step that ended before belongs to the old LO. DEDUCED (log 224): so does one in progress, which is abandoned. -/
def retuneCoarse (n : Nat) (d : Dev) : Dev :=
  let rx := n % 2 = 0
  let mine (b : BgKind × Nat) : Bool := decide ((b.1 = .rxGap) ↔ rx) && b.2 / 4 == n / 2
  let d0 := if d.cal.bg.any mine then bgAbandon d else d
  let d1 := { d0 with cal := { d0.cal with bgDone := d0.cal.bgDone.filter fun b => !mine b } }
  forL [0, 1, 2, 3] (fun k d =>
    let c := 4 * (n / 2) + k
    let f (x : Chain) : Chain := { x with coarse := true, bgGap := false, bgTrk := false, seed := some (d.synth n).freq }
    if rx then d.modRx c f else d.modTx c f) d1

/-- RX tracking in the period that ends: the DC and I/Q corrections of a chain that delivers follow the live samples, each while
its bit is set (R101, R108); STALE and its fault clear once nothing stale is left. -/
def rxTracking (d : Dev) : Dev :=
  forN 8 (fun c d =>
    if delivers d c then
      let t := servingTemp d (chainSensor false c)
      let d1 := d.modRx c fun x => { x with tTrk := if d.flag RXC_CFG.DC_TRK c then t else x.tTrk, tIq := if d.flag RXC_CFG.IQ_TRK c then t else x.tIq }
      if (d1.rxChain c).stale && !(d1.rxChain c).staleAt t then clearLive (d1.modRx c fun x => { x with stale := false }) Ev.CAL_STALE c else d1
    else d) d

/-- Temperature coefficients of the factory layer are applied at a boundary (R110, R346). -/
def facBoundary (d : Dev) : Dev :=
  let go (tx : Bool) (c : Nat) (d : Dev) : Dev :=
    let ps := facPoints d tx c
    match (if ps.isEmpty then none else servingTemp d (chainSensor tx c)) with
    | some t =>
      let f (x : Chain) : Chain := { x with facD := facStep ps d.cal.fac.ref t x }
      if tx then d.modTx c f else d.modRx c f
    | none => d
  forN 8 (fun c d => go true c (go false c d)) d

/-! ### A boundary in the chains (R92 to R95) -/

/-- Attenuator and VGA codes take effect. -/
def chainsBoundary (d0 : Dev) : Dev :=
  let d := facBoundary (rxTracking d0)
  forN 8 (fun c d =>
    (d.modRx c fun x => { x with vga := d.get RXC_CFG.VGA c }).modTx c fun x => { x with att := d.get TXC_CFG.ATT c }) d

/-- An RX chain's reading of the period: power, raw word, clipped samples of all (R93, R94). -/
def rxReading (e : Env) (c : Nat) (pw : Int) (raw clipped total : Nat) (d : Dev) : Dev :=
  let d1 := d.modRx c fun x => { x with pwr := some (clampI pw (-32767) 32767), raw := raw, seq := (x.seq + 1) % 256 }
  if d.get RXC_CFG.CLIP_TH c * total < 1000 * clipped then
    report e (d1.modRx c fun x => { x with clipCnt := satN (x.clipCnt + 1) 0xFFFF }) Ev.RX_CLIP c
  else d1

end Sys2Proof.Machine
end

