-- ==== Sys2Proof/Machine/Thermal.lean ====
section
/-! DEFINITION. The housekeeping lap and thermal management (R338 to R353): slots, converter checks, supplies, sensors, the
levels, shedding and SHUTDOWN. -/
namespace Sys2Proof.Machine

/-! ### Shedding (R34, R350) -/

/-- Shed a MIMO set; its shadow opens under the record of the level that took the step (R291, R292). -/
def shedSet (parent m : Nat) (d : Dev) : Dev :=
  forL (setMembers d m) shedSlice (openShadow (.shed m) parent d)

/-- Restore a shed set. -/
def restoreSet (e : Env) (m : Nat) (d : Dev) : Dev := forL (setMembers d m) (restoreSlice e) d

/-- The sets with enabled slices that are not on the stack. -/
def shedCandidates (d : Dev) : List Nat :=
  (List.range 192).filter fun m => !(setMembers d m).isEmpty && !(d.thm.stack.any fun p => p.1 == m)

/-- PRIO of a set. DESIGN CHOICE (log 239): where its enabled slices differ, that of the lowest-numbered one. -/
def prioOf (d : Dev) (m : Nat) : Nat := match setMembers d m with | s :: _ => d.get SLC_CFG0.PRIO s | [] => 0

/-- The next set to shed: lowest PRIO, then highest MSET (R125). -/
def shedNext (d : Dev) : Option Nat := leastBy (fun m => (prioOf d m, 191 - m)) (shedCandidates d)

/-- Push a shed set. -/
def pushShed (byCrit : Bool) (parent m : Nat) (d : Dev) : Dev :=
  let d1 := shedSet parent m d
  { d1 with thm := { d1.thm with stack := (m, byCrit) :: d1.thm.stack, since := 0 } }

/-- The record of a shed or restore step that no fault of its own announces (R35). DESIGN CHOICE (log 185): it carries the event code
of the level whose set it is and is no occurrence of that fault. Answers the record too. -/
def shedRecord (e : Env) (byCrit : Bool) (d : Dev) : Dev × Nat :=
  recordEvent e d (if byCrit then Ev.THM_CRITICAL else Ev.THM_THROTTLE) noInst { cls := .minor }

/-- Restore the top of the stack. -/
def popShed (e : Env) (d : Dev) : Dev :=
  match d.thm.stack with
  | [] => d
  | (m, byCrit) :: rest => (shedRecord e byCrit (restoreSet e m { d with thm := { d.thm with stack := rest, since := 0 } })).1

/-- A set disabled while it is shed leaves the stack (R350). -/
def stackClean (d : Dev) : Dev :=
  { d with thm := { d.thm with stack := d.thm.stack.filter fun p => !(setMembers d p.1).isEmpty } }

/-- Shed every set not yet shed, in shed order (R349). -/
def shedAll (byCrit : Bool) (parent : Nat) : Nat → Dev → Dev
  | 0, d => d
  | n + 1, d => match shedNext d with | some m => shedAll byCrit parent n (pushShed byCrit parent m d) | none => d

/-- Every slice of a set shows SHED: the shadow of its shedding closes later (R291). -/
def shedShadows (d : Dev) : Dev :=
  endReaction (fun r => match r with
    | .shed m => (setMembers d m).all fun s => (d.slice s).st ≠ .draining && (d.slice s).st ≠ .active
    | _ => false) d

/-! ### SHUTDOWN (R345, R351) -/

/-- SHUTDOWN is decided under a fault (R345, R351): the reaction of R351 runs once, and the fault's own record is the first of
those that stay in the Lodge (R311). -/
def shutdownNow (e : Env) (code : Nat) (d : Dev) : Dev :=
  if d.thm.sd then raiseLive e d code
  else
    let d1 := raiseLive e (Dev.modRcd { d with thm := { d.thm with sd := true, cool := 0 } } fun x => { x with heldFrom := x.next }) code
    let parent := lastRecord d1 code
    let d2 := unwindWhere (fun _ => true) (holdPins .shutdown (fun _ => true) d1)
    let sleepG (g : Nat) (d : Dev) : Dev := goOn g (calAbort g (d.setGroup g { d.group g with target := .sleep }))
    let d3 := sleepG 1 (sleepG 0 d2)
    let d4 := forL (List.range 192) (fun m d => if (setMembers d m).isEmpty then d else shedSet parent m d) d3
    bdacCauseAll .shutdown (fun _ => true) (tokenRelease (forN 50 tileCheck d4))

/-! ### Sensors (R342 to R344) -/

/-- The user trim of a sensor: an entry beyond 5.00 °C or 0.05 is applied as 0 (R342). -/
def userTrim (d : Dev) (n : Nat) : Int × Int :=
  let (slope, ofs) := (d.ucal.trims.lookup n).getD (0, 0)
  if 500 < ofs.natAbs ∨ 3276 < slope.natAbs then (0, 0) else (slope, ofs)

/-- A reading with the factory one-point trim and the user trim, 0.01 °C (R110, R342). -/
def trimmed (d : Dev) (n : Nat) (t : Int) : Int :=
  let (slope, ofs) := userTrim d n
  let tf := t + tget (fun _ => 0) d.cal.fac.trims n
  tf + ofs + roundDivAway (slope * (tf - 2500)) 65536

/-- A sensor is broken until the next cold start (R344, R345). -/
def breakSensor (e : Env) (n : Nat) (d : Dev) : Dev :=
  if (d.sensor n).broken then d
  else
    let d1 := raiseLive e (d.setSensor n { d.sensor n with broken := true }) Ev.THM_SENSOR n
    if 15 ≤ ((List.range 16).filter fun k => (d1.sensor k).broken).length then
      shutdownNow e Ev.THM_BLIND { d1 with thm := { d1.thm with blind := true } }
    else d1

/-- Two valid sensors read at or above 118 °C and agree within 4 °C (R351). -/
def hotPair (d : Dev) : Bool :=
  let hot := (List.range 16).filterMap fun n =>
    if (d.sensor n).broken then none else (d.sensor n).gate.bind fun t => if 11800 ≤ t then some (n, t) else none
  hot.any fun a => hot.any fun b => a.1 != b.1 && decide ((a.2 - b.2).natAbs ≤ 400)

/-- A 125 °C comparator fires on a valid sensor (R351, R352). -/
def hot125 (d : Dev) (n : Nat) : Bool :=
  !(d.sensor n).broken && match (d.sensor n).gate with | some t => decide (12500 ≤ t) | none => false

/-- At 125 °C every non-volatile write stops at the word in progress (R311, R352): a record slot is left torn, a configuration
commit is abandoned, and the user calibration area keeps its marker clear. -/
def writesTear (d : Dev) : Dev :=
  let d1 := (cutWrite d).modRcd fun x => { x with flushing := false, inPlace := [] }
  { d1 with ucalJob := none
            ret := if d1.ret.job.isSome then { d1.ret with job := none, again := false, failCnt := satN (d1.ret.failCnt + 1) 0xFF } else d1.ret }

/-- A gate of 5,120 cycles ends: its count, the reading it stands for before the trims and whether the count lies in the factory range
(R344, R351). Within the sensor's own slot it adds to the lap reading (R342). The comparators run once a start has loaded the factory
calibration (R351). -/
def gateEnd (e : Env) (n count : Nat) (tf : Int) (inRange : Bool) (d : Dev) : Dev :=
  let x := d.sensor n
  let same := if x.count = some count then x.same + 1 else 1
  let own : Bool := d.hk.slot == 76 + n
  let d1 := d.setSensor n { x with gate := some (trimmed d n tf), count := some count, same := min same 64
                                   gSum := if own then x.gSum + tf else x.gSum, gCnt := if own then x.gCnt + 1 else x.gCnt }
  let d2 := if !inRange || decide (64 ≤ same) then breakSensor e n d1 else d1
  let d3 := if d2.cal.loaded ∧ hotPair d2 ∧ !d2.thm.sd then shutdownNow e Ev.THM_SHUTDOWN { d2 with thm := { d2.thm with hot := true } } else d2
  if d3.cal.loaded ∧ hot125 d3 n then writesTear d3 else d3

/-- Insert in rising order. -/
def insertInt (x : Int) : List Int → List Int
  | [] => [x]
  | y :: ys => if x < y then x :: y :: ys else y :: insertInt x ys

/-- The median of a list of readings. -/
def median (l : List Int) : Option Int :=
  let s := l.foldr insertInt []
  let k := s.length
  if k = 0 then none
  else if k % 2 = 1 then s[k / 2]? else some (roundDivAway (s.getD (k / 2 - 1) 0 + s.getD (k / 2) 0) 2)

/-- Valid sensors with a lap reading. -/
def validTemps (d : Dev) : List (Nat × Int) :=
  (List.range 16).filterMap fun n => if (d.sensor n).broken then none else (d.sensor n).temp.map fun t => (n, t)

/-- The median test of R344. -/
def medianTest (e : Env) (d : Dev) : Dev :=
  forN 16 (fun n d =>
    let x := d.sensor n
    match x.broken, x.temp, median (((validTemps d).filter fun p => p.1 ≠ n).map (·.2)) with
    | false, some t, some m =>
      let off := if 2500 < (t - m).natAbs then x.off + 1 else 0
      let d1 := d.setSensor n { x with off := min off 4 }
      if 4 ≤ off then breakSensor e n d1 else d1
    | _, _, _ => d) d

/-! ### Housekeeping slots (R338 to R341) -/

/-- Nominal supplies in mV, in the order of slots 64 to 71 (R339, R468). -/
def supplyNominal (k : Nat) : Int := [750, 850, 900, 1800, 1800, 1800, 5500, -5500].getD k 0

/-- A supply reading outside its nominal value ± SUP_TOL × 0.5 % (R341). -/
def supplyOut (d : Dev) (k : Nat) (v : Int) : Bool :=
  decide ((supplyNominal k).natAbs * d.get HK_CFG.SUP_TOL * 5 < 1000 * (v - supplyNominal k).natAbs)

/-- A supply after its slot of a lap. -/
def supplyCheck (e : Env) (k : Nat) (v : Int) (d : Dev) : Dev :=
  let out := supplyOut d k v
  let bad := if out then tget (fun _ => 0) d.hk.supBad k + 1 else 0
  let good := if out then 0 else tget (fun _ => 0) d.hk.supGood k + 1
  let d1 := { d with hk := { d.hk with supBad := tset (fun _ => 0) d.hk.supBad k (min bad 2), supGood := tset (fun _ => 0) d.hk.supGood k (min good 2) } }
  if 2 ≤ bad then raiseLive e d1 Ev.HK_SUPPLY k else if 2 ≤ good then clearLive d1 Ev.HK_SUPPLY k else d1

/-- A converter check outside its window: slots 72 to 74 by code, slot 75 by value (R340). -/
def checkOut (slot : Nat) (code : Nat) (v : Int) : Bool :=
  match slot with
  | 72 => decide (8 < code)
  | 73 => decide (8 < ((code : Int) - 2048).natAbs)
  | 74 => decide (8 < ((code : Int) - 3900).natAbs)
  | _ => decide (6 < (v - 1200).natAbs)

/-- KIND of a slot (HK_SLOT): millivolts, tenths of a millivolt for the inputs, hundredths of a degree. -/
def slotKind (d : Dev) (k : Nat) : Nat :=
  if 48 ≤ k ∧ k ≤ 63 then 1
  else if 76 ≤ k ∧ k ≤ 91 then 2
  else if 92 ≤ k ∧ k ≤ 123 then (if 48 ≤ d.get HK_ASSIGN.SRC (k - 92) then 1 else 0)
  else 0

/-- The lap reading of a sensor before the trims: the mean of the gates completed within its slot (R342), or what the command
gives when no gate of the slot came as a command. -/
def slotMean (d : Dev) (n : Nat) (v : Int) : Int :=
  let x := d.sensor n
  if x.gCnt = 0 then v else roundDivAway x.gSum x.gCnt

/-- The reading of a channel's pin begins: what changes from now on makes its lap incomparable (R336). -/
def readStart (k : Nat) (d : Dev) : Dev := if k < 48 then d.setChan k { d.chan k with moved := false } else d

/-- The slot in progress ends with a conversion (R338 to R342): a code and a value in the slot's unit. The next slot begins. -/
def slotEnd (e : Env) (code : Nat) (v : Int) (d : Dev) : Dev :=
  let k := d.hk.slot
  if 127 < k then d
  else
    let isTemp : Bool := decide (76 ≤ k ∧ k ≤ 91)
    let n := k - 76
    let val := if isTemp then trimmed d n (slotMean d n v) else v
    let valid : Bool :=
      if k = 127 then false
      else if isTemp then !(d.sensor n).broken
      else if 92 ≤ k ∧ k ≤ 123 then d.flag HK_ASSIGN.EN (k - 92) && !d.hk.chkFail
      else !d.hk.chkFail
    let r : HkSlot := if k = 127 then {} else
      { valid := valid, kind := slotKind d k, code := if isTemp then 0 else code % 4096, value := clampI val (-32768) 32767, seq := d.hk.seq }
    let d1 := { d with hk := { d.hk with slots := tset (fun _ => {}) d.hk.slots k r, slot := k + 1, fresh := sadd d.hk.fresh k } }
    readStart ((k + 1) % 128) (
    if k < 48 then (if valid then readBack e k v d1 else d1)
    else if 64 ≤ k ∧ k ≤ 71 then (if valid then supplyCheck e (k - 64) v d1 else d1)
    else if 72 ≤ k ∧ k ≤ 75 then
      (if checkOut k code v then { d1 with hk := { d1.hk with chkHit := true } } else d1)
    else if isTemp then
      d1.setSensor n { d1.sensor n with temp := some (clampI val (-32768) 32767), seq := d1.hk.seq, gSum := 0, gCnt := 0 }
    else d1)

/-- The converter checks of a lap (R340). -/
def chkLap (e : Env) (d : Dev) : Dev :=
  let bad := if d.hk.chkHit then d.hk.chkBad + 1 else 0
  let good := if d.hk.chkHit then 0 else d.hk.chkGood + 1
  let fail := if 2 ≤ bad then true else if 2 ≤ good then false else d.hk.chkFail
  setLive e Ev.HK_CHECK noInst fail
    { d with hk := { d.hk with chkHit := false, chkBad := min bad 2, chkGood := min good 2, chkFail := fail } }

/-! ### Levels (R347 to R350) -/

/-- The thresholds in effect, in °C. -/
def thWarn (d : Dev) : Nat := bitsOf d.thm.cfg 24 8
def thThr (d : Dev) : Nat := bitsOf d.thm.cfg 16 8
def thCrit (d : Dev) : Nat := bitsOf d.thm.cfg 8 8
def shedInt (d : Dev) : Nat := bitsOf d.thm.cfg 4 4
def keepPrio (d : Dev) : Nat := bitsOf d.thm.cfg 0 3

/-- A level after a lap with T_max `t` (R347). -/
def Level.lap (x : Level) (th : Nat) (t : Int) : Level :=
  if x.on then
    let n := if t < (th : Int) * 100 - 300 then x.leave + 1 else 0
    if 32 ≤ n then {} else { x with leave := n }
  else
    let n := if (th : Int) * 100 ≤ t then x.enter + 1 else 0
    if 8 ≤ n then { on := true } else { x with enter := n }

/-- The counts of a changed threshold restart (R348). -/
def Level.restart (x : Level) : Level := { x with enter := 0, leave := 0 }

/-- THM_CFG takes effect at a lap end (R348). -/
def thmLoad (d : Dev) : Dev :=
  let w := (d.reg .THM_CFG).toNat
  let t := d.thm
  let f (lo : Nat) (x : Level) : Level := if bitsOf w lo 8 = bitsOf t.cfg lo 8 then x else x.restart
  { d with thm := { t with cfg := w, warn := f 24 t.warn, thr := f 16 t.thr, crit := f 8 t.crit } }

/-- CRITICAL is left: each group heads for the latest request held, or for its TARGET (R349). -/
def critLeave (d : Dev) : Dev :=
  let go (g : Nat) (d : Dev) : Dev :=
    let x := d.group g
    let t := x.critReq.getD ((GSt.ofCode (d.get SYN_GRP_CTL.TARGET g)).getD x.target)
    request g t (d.setGroup g { x with critReq := none })
  go 1 (go 0 d)

/-- CRITICAL is entered: every set not yet shed is shed, both groups go to STANDBY (R349). -/
def critEnter (parent : Nat) (d : Dev) : Dev :=
  let d1 := shedAll true parent 192 d
  let go (g : Nat) (d : Dev) : Dev :=
    let x := d.group g
    if x.state = .sleep ∧ x.phase = .steady ∧ x.target = .sleep then d
    else backOff g (calAbort g (d.setGroup g { x with target := if x.target = .sleep then .sleep else .standby }))
  go 1 (go 0 d1)

/-- The shed and restore steps of a lap end (R350); the record of THM_THROTTLE stands for the step that its entry takes. -/
def shedStep (e : Env) (t : Int) (entered leftThr leftCrit : Bool) (d : Dev) : Dev :=
  let due := decide (shedInt d ≤ d.thm.since)
  if d.thm.crit.on then d
  else if d.thm.thr.on then
    match d.thm.stack with
    | (_, true) :: _ => if leftCrit || due then popShed e d else d
    | _ =>
      if (thThr d : Int) * 100 ≤ t ∧ (entered ∨ due) then
        match shedNext d with
        | some m =>
          let (d1, n) := if entered then (d, lastRecord d Ev.THM_THROTTLE) else shedRecord e false d
          if prioOf d m < keepPrio d then pushShed false n m d1 else d
        | none => d
      else d
  else if leftThr || due then popShed e d else d

/-- A lap ends (R338, R340, R344, R346 to R350). `xoFactory` is the crystal correction that the factory coefficients give
at the present reading, ppb. -/
def lapEnd (e : Env) (xoFactory : Int) (d : Dev) : Dev :=
  let d1 := medianTest e (chkLap e d)
  let tm := (validTemps d1).foldl (fun (m : Option Int) p => match m with | none => some p.2 | some x => some (max x p.2)) none
  let xoUser : Int := match servingTemp d1 6 with
    | some t => interp (((List.range 17).zip d1.ucal.xo).map fun p => (p.1 * 1000, p.2)) (t + 4000)
    | none => 0
  let goal := clampI (xoFactory + xoUser) (-50000) 50000
  let xo := clampI goal (d1.thm.xo - 2) (d1.thm.xo + 2)
  let d2 := thmLoad { d1 with
    thm := { d1.thm with tmax := tm, xo := xo, since := satN (d1.thm.since + 1) 255 }
    hk := { d1.hk with slot := 0, seq := (d1.hk.seq + 1) % 256, fresh := (List.range 127).foldl (fun l k => if d1.hk.slot ≤ k then sadd l k else l) d1.hk.fresh } }
  match tm with
  | none => staleCheck e d2
  | some t =>
    let was := d2.thm
    let now := { was with
      warn := was.warn.lap (thWarn d2) t, thr := was.thr.lap (thThr d2) t, crit := was.crit.lap (thCrit d2) t
      cool := if t < 10000 then was.cool + 1 else if was.cool < 8 then 0 else was.cool }
    let d3 := setLive e Ev.THM_CRITICAL noInst now.crit.on (setLive e Ev.THM_THROTTLE noInst now.thr.on
      (setLive e Ev.THM_WARN noInst now.warn.on { d2 with thm := now }))
    if d3.thm.sd then staleCheck e d3
    else
      let d4 := if now.crit.on && !was.crit.on then critEnter (lastRecord d3 Ev.THM_CRITICAL) d3 else d3
      let leftCrit := !now.crit.on && was.crit.on
      let d5 := if leftCrit then critLeave d4 else d4
      staleCheck e (shedStep e t (now.thr.on && !was.thr.on) (!now.thr.on && was.thr.on) leftCrit d5)

/-- A THM_CFG word that R348 accepts. -/
def thmCfgOk (w : Word) : Bool :=
  let a := THM_CFG.WARN.of w
  let b := THM_CFG.THROTTLE.of w
  let c := THM_CFG.CRITICAL.of w
  decide (60 ≤ a ∧ a + 3 ≤ b ∧ b + 3 ≤ c ∧ c ≤ 115 ∧ THM_CFG.SHED_INT.of w ≠ 0)

end Sys2Proof.Machine
end

