-- ==== Sys2Proof/Machine/PatrolOps.lean ====
section
/-! DEFINITION. Patrol (R255 to R277): the detectors, the four tiers, and STOP with its release. -/
namespace Sys2Proof.Machine

/-- Change Patrol, or Patrol's state of a slice. -/
def Dev.modPtl (d : Dev) (f : Patrol → Patrol) : Dev := { d with ptl := f d.ptl }
def Dev.modPsl (d : Dev) (s : Nat) (f : PSlice → PSlice) : Dev := d.setPsl s (f (d.psl s))

/-- A slice takes part in OSC, ISO, GAIN and NOISE only while ACTIVE or DRAINING (R262). -/
def watched (d : Dev) (s : Nat) : Bool := (d.slice s).st = .active || (d.slice s).st = .draining

/-! ### Tiers (R258 to R260) -/

/-- A trim limit of a cause (R259): the lower of the standing and the new one; a new or lower limit is a trim set, counted
and recorded as PTL_TRIM. -/
def setTrim (e : Env) (s : Nat) (c : TCause) (lim : Int) (d : Dev) : Dev :=
  let ts := (d.psl s).trims
  match ts.find? fun p => p.1 = c with
  | some (_, old) =>
    if old ≤ lim then d
    else
      let d1 := d.modPsl s fun p => { p with trims := ts.map fun q => if q.1 = c then (c, lim) else q }
      report e (d1.modPtl fun p => { p with trimCnt := satN (p.trimCnt + 1) 0xFF }) Ev.PTL_TRIM s
  | none =>
    let d1 := d.modPsl s fun p => { p with trims := ts ++ [(c, lim)] }
    report e (d1.modPtl fun p => { p with trimCnt := satN (p.trimCnt + 1) 0xFF }) Ev.PTL_TRIM s

/-- A trim is in force for a cause. -/
def trimmedBy (d : Dev) (s : Nat) (c : TCause) : Bool := (d.psl s).trims.any fun p => p.1 = c

/-- A cause releases its trim. -/
def dropTrim (s : Nat) (c : TCause) (d : Dev) : Dev :=
  d.modPsl s fun p => { p with trims := p.trims.filter fun q => q.1 ≠ c }

/-- MUTE_SLICE for a cause (R258): the Patrol slice gate closes; each cause's mute is recorded (R35, R277). -/
def muteSlice (e : Env) (s : Nat) (c : MCause) (d : Dev) : Dev :=
  if c ∈ (d.psl s).mutes then d
  else
    let d1 := d.modPsl s fun p => { p with mutes := p.mutes ++ [c] }
    raiseAgain e (d1.modPtl fun p => { p with mslCnt := satN (p.mslCnt + 1) 0xFF }) Ev.PTL_MUTE_SLICE s

/-- A mute of a slice is released for the causes that `which` names. -/
def unmuteSlice (s : Nat) (which : MCause → Bool) (d : Dev) : Dev :=
  let d1 := d.modPsl s fun p => { p with mutes := p.mutes.filter fun c => !which c }
  if (d1.psl s).mutes.isEmpty then clearLive d1 Ev.PTL_MUTE_SLICE s else d1

/-- The instance of a direction: 0 DL, 1 UL. -/
def dirInst (ul : Bool) : Nat := if ul then 1 else 0

/-- The MUTE_DIRECTION causes in force on a direction. -/
def dirCauses (d : Dev) (ul : Bool) : List DCause := if ul then d.ptl.ul else d.ptl.dl

/-- The Patrol direction gate is open (R26, R275). -/
def dirOpen (d : Dev) (ul : Bool) : Bool :=
  (dirCauses d ul).isEmpty && (d.ptl.phase = .none_ || d.ptl.phase = .releasing)

/-- The direction of a TX chain: donor TX chains 0 to 3 carry UL, service TX chains DL (R21). -/
def txUl (c : Nat) : Bool := decide (c < 4)

/-! ### STOP (R273 to R275) -/

/-- Both groups have left TX and DUPLEX for good. -/
def stopGroups (d : Dev) : Bool :=
  [0, 1].all fun g => let x := d.group g; !x.state.transmits && !(x.phase = .moving && x.step.transmits)

/-- Once both groups are in RX or a lower state, the channels go to their parking codes (R274). -/
def stopPark (d : Dev) : Dev :=
  if d.ptl.phase = .stopping ∧ !d.ptl.parkGo ∧ stopGroups d then
    let d1 := d.modPtl fun p => { p with parkGo := true }
    if d1.flag PTL_CFG.BDAC_PARK then bdacCauseAll .stop (fun _ => true) d1 else d1
  else d

/-- The steps of R274 from the decision: pins to SAFE, epochs unwound, groups out of TX and DUPLEX, then the channels parked. -/
def stopSteps (d : Dev) : Dev :=
  let d1 := unwindWhere (fun _ => true) (holdPins .stop (fun _ => true) (d.modPtl fun p => { p with parkGo := false }))
  let down (g : Nat) (d : Dev) : Dev :=
    let x := d.group g
    if x.target.transmits then goOn g (d.setGroup g { x with target := .rx, txWait := false }) else d
  stopPark (down 1 (down 0 d1))

/-- A STOP cause arises (R273 to R275): a STOP starts, or starts again out of RELEASING; a further cause of a STOP that stands is
recorded (R35, R277). -/
def stopFor (e : Env) (c : SCause) (d : Dev) : Dev :=
  let d0 := d.modPtl fun p => { p with causes := sadd p.causes c, relPend := false }
  if d.ptl.phase = .none_ ∨ d.ptl.phase = .releasing then
    let d1 := d0.modPtl fun p => { p with phase := .stopping, stopCnt := satN (p.stopCnt + 1) 0xFF }
    stopSteps (raiseAgain e d1 Ev.PTL_STOP)
  else if c ∈ d.ptl.causes then d0
  else raiseAgain e d0 Ev.PTL_STOP

/-- Every step of a STOP is done (R274): both groups have left TX and DUPLEX for good, no channel slews to its parking code. -/
def stopDone (d : Dev) : Bool :=
  d.ptl.parkGo && stopGroups d &&
  (List.range 48).all fun c =>
    !(decide (HoldCause.stop ∈ (d.chan c).pcause) && ((d.chan c).st = .parking || (d.chan c).st = .drive))

/-- The release of R275: pins, channels, Carve, groups towards TARGET, direction gates. A group's own TARGET request is
served although STOP_PH is not yet 0b00. -/
def stopRelease (d : Dev) : Dev :=
  let d1 := d.modPtl fun p => { p with phase := .none_, relPend := false, causes := [], parkGo := false }
  let d2 := releasePins .stop (fun _ => true) (bdacUncauseAll .stop (fun _ => true) d1)
  let home (g : Nat) (d : Dev) : Dev :=
    match GSt.ofCode (d.get SYN_GRP_CTL.TARGET g) with
    | some t => request g t d
    | none => d
  (home 1 (home 0 d2)).modPtl fun p => { p with phase := .releasing }

/-- Causes whose rule of R273 is met go away; with none left, STOP is released from STOPPED, or waits for it. -/
def stopMet (which : SCause → Bool) (d : Dev) : Dev :=
  let d1 := d.modPtl fun p => { p with causes := p.causes.filter fun c => !which c }
  if d.ptl.causes.isEmpty ∨ !d1.ptl.causes.isEmpty then d1
  else match d1.ptl.phase with
    | .stopped => stopRelease d1
    | .stopping => d1.modPtl fun p => { p with relPend := true }
    | _ => d1

/-- Which causes an authorised REL_STOP meets (R273): cause TOW needs a command that the Tow link carried (R441). DESIGN CHOICE (log
187): with NS_AUTOREL = 0 it meets cause PIN whatever the level of the pin. -/
def relStopMeets (d : Dev) (o : Origin) (c : SCause) : Bool :=
  match c with
  | .pin => !d.flag PTL_CFG.NS_AUTOREL
  | .tow => decide (o = .tow)
  | .local_ => true
  | .esc => true
  | .self => !d.ptl.copyBad
  | .fix => false

/-- STOPPED is reached (R274, R275). -/
def stopReached (d : Dev) : Dev :=
  if d.ptl.phase = .stopping ∧ stopDone d then
    let d1 := d.modPtl fun p => { p with phase := .stopped }
    if d.ptl.relPend then stopRelease d1 else d1
  else d

/-- The release slews have ended (R275). -/
def stopReleased (d : Dev) : Dev :=
  if d.ptl.phase = .releasing ∧ ((List.range 48).all fun c => !((d.chan c).st = .drive && slewing d c)) then
    clearLive (d.modPtl fun p => { p with phase := .none_ }) Ev.PTL_STOP
  else d

/-! ### MUTE_DIRECTION (R258, R270) -/

/-- MUTE_DIRECTION for a cause; a third one from EMIS or CPWR on a direction within 60 s (480,000 periods) is a STOP. -/
def muteDir (e : Env) (ul : Bool) (c : DCause) (d : Dev) : Dev :=
  if c ∈ dirCauses d ul then d
  else
    let d1 := d.modPtl fun p =>
      { p with mdirCnt := satN (p.mdirCnt + 1) 0xFF
               dl := if ul then p.dl else p.dl ++ [c]
               ul := if ul then p.ul ++ [c] else p.ul }
    let d2 := raiseAgain e d1 Ev.PTL_MUTE_DIR (dirInst ul)
    if c = .emis ∨ c = .cpwr then
      let now := d2.clk.periods
      let recent := ((if ul then d2.ptl.recentUl else d2.ptl.recentDl).filter fun t => decide (now ≤ t + 480000)) ++ [now]
      let d3 := d2.modPtl fun p =>
        { p with recentDl := if ul then p.recentDl else recent, recentUl := if ul then recent else p.recentUl }
      if 3 ≤ recent.length then stopFor e .esc d3 else d3
    else d2

/-- A MUTE_DIRECTION is released for the causes `which` names. -/
def unmuteDir (ul : Bool) (which : DCause → Bool) (d : Dev) : Dev :=
  let f (l : List DCause) : List DCause := l.filter fun c => !which c
  let d1 := d.modPtl fun p => { p with dl := if ul then p.dl else f p.dl, ul := if ul then f p.ul else p.ul }
  if (dirCauses d1 ul).isEmpty then clearLive d1 Ev.PTL_MUTE_DIR (dirInst ul) else d1

/-! ### Oscillation onset (R263, R264) -/

/-- The canceller output of a block of 64 samples, as R167 forms it. -/
def blockErr (s : Nat) (inp : List Cpx) (refs : List (Nat × List Cpx)) (d : Dev) : List Cpx :=
  let x := d.canc s
  (cnlEval { x with hist := cnlHistory x refs } (refsUsed d s) (tapsEff d s) (d.flag CNL_CTL.SUB s) inp).err

/-- cos and sin of 2π·k/64. -/
def turn64 (k : Nat) : Cpx :=
  let q (a : Nat) : Rat := (sinTurn (a % 15360000) : Rat) / (sinOne : Rat)
  (q (k % 64 * 240000 + 3840000), q (k % 64 * 240000))

/-- The bin powers of the 64-point transform of a block. -/
def dft64 (x : List Cpx) : List Rat :=
  let tw := (List.range 64).map turn64
  (List.range 64).map fun k =>
    cNorm (cSum (((List.range 64).zip x).map fun p => cMul p.2 (cConj (tw.getD (k * p.1 % 64) (1, 0)))))

/-- The index of the greatest element, the first of equals. -/
def argMax (l : List Rat) : Nat :=
  (((List.range l.length).zip l).foldl (fun (m : Nat × Rat) p => if m.2 < p.2 then p else m) (0, l.getD 0 0)).1

/-- A block carries a line (R263): its strongest bin exceeds the mean of the others by LINE_TH. -/
def lineIn (th : Nat) (bins : List Rat) : Option Nat :=
  let k := argMax bins
  let top := bins.getD k 0
  let mean := (qSum bins - top) / 63
  if top = 0 then none
  else if mean = 0 ∨ 100 * (th : Int) ≤ db100 (top / mean) then some k else none

/-- Two bins of the transform are the same ±1. -/
def nearBin (a b : Nat) : Bool := decide ((a + 64 - b) % 64 ≤ 1 ∨ (b + 64 - a) % 64 ≤ 1)

/-- The reactions to an isolation margin below the Fixative minimum (R265). -/
def marginReact (e : Env) (s : Nat) (m : Int) (d : Dev) : Dev :=
  if m < 10 * (d.get PTL_CFG.ISO_MUTE : Int) then muteSlice e s .iso d
  else if m < fixMargin e then setTrim e s .iso ((d.canc s).ieff - fixMargin e - 10 * (d.get PTL_CFG.TRIM_HEAD : Int)) d
  else d

/-- The margin check at an onset, on the last published figures (R30, R264); a figure with VALID = 0 or without a system gain is
skipped (R262). DESIGN CHOICE (log 186): the boundaries of ISO_N count as at a boundary's own check, from the first one that finds the
margin short. -/
def marginAtOnset (e : Env) (s : Nat) (d : Dev) : Dev :=
  match (d.slice s).meas.valid, (d.slice s).meas.sysg, e.fix with
  | true, some g, some _ => marginReact e s ((d.canc s).ieff - g) d
  | _, _, _ => d

/-- An onset on a slice (R264): the gate attenuation at once, the margin check, MUTE_SLICE until OSC_WIN boundaries after the trim
limit of the last onset was set, the count restarting N_lat + GUARD after the 32-cycle ramp. -/
def oscOnset (e : Env) (s : Nat) (d : Dev) : Dev :=
  let p := d.psl s
  let again := p.onset.isSome || p.oscAge.any fun a => decide (a < d.get PTL_TIME.OSC_WIN)
  let lat := nLat (latOf d s)
  let d1 := d.modPsl s fun p =>
    { p with gate := true, onset := some ((sysg d s).getD 32767), oscFrames := 0, oscHit := true, rise := 0, lines := []
             from_ := coreNow d + 32 + lat + (d.get PTL_OSC.GUARD * 98304 + 999) / 1000 }
  marginAtOnset e s (if again then muteSlice e s .osc d1 else d1)

/-- The last `n` of the blocks that carried lines, latest first, lie in one bin ±1, and the power has risen by at least 3.0 dB over
them (R263). -/
def lineOnset (n : Nat) (l : List (Nat × Rat)) : Bool :=
  match l[n - 1]?, l.head? with
  | some old, some new => (l.take n).all (fun q => nearBin q.1 old.1) && decide (0 < old.2) && decide (300 ≤ db100 (new.2 / old.2))
  | _, _ => false

/-- A block reaches the onset detectors (R263). Inside the guard of the last onset it counts for nothing but the power that the next
block is compared with (R264); a slice that is not ACTIVE or DRAINING takes no part (R262). -/
def oscBlock (e : Env) (s : Nat) (err : List Cpx) (d : Dev) : Dev :=
  let p := d.psl s
  let eff := effOf d s
  if !watched d s || (d.canc s).st = .off then d.modPsl s oscForget
  else if coreNow d < p.from_ + 64 * sampleCycles eff.cls then
    d.modPsl s fun p => { oscForget p with lastP := some (qSum (err.map cNorm) / 64) }
  else
    let pw := qSum (err.map cNorm) / 64
    let level := dbm pw + planeRx d eff.src (carrierRx d eff)
    let rises := match p.lastP with
      | some q => (if q = 0 then decide (0 < pw) else decide ((d.get PTL_OSC.GROW : Int) ≤ db100 (pw / q))) &&
          decide (100 * d.int SLC_DET.PRES_TH s ≤ level)
      | none => false
    let rise := if rises then p.rise + 1 else 0
    let lines := match lineIn (d.get PTL_OSC.LINE_TH) (dft64 err) with
      | none => []
      | some k => ((k, pw) :: p.lines).take 16
    let d1 := d.modPsl s fun p => { p with rise := min rise 15, lastP := some pw, lines := lines }
    if d.get PTL_OSC.OSC_N ≤ rise ∨ lineOnset (d.get PTL_OSC.LINE_N) lines then oscOnset e s d1 else d1

/-- The first boundary after an onset sets its trim limit; the one after ends the gate attenuation (R264). -/
def oscBoundary (e : Env) (s : Nat) (d : Dev) : Dev :=
  let p := d.psl s
  match p.onset with
  | some g =>
    let d1 := d.modPsl s fun p => { p with onset := none, oscAge := some 0 }
    setTrim e s .osc (g - 10 * (d.get PTL_CFG.OSC_TRIM : Int)) d1
  | none =>
    if p.gate || p.oscAge.isSome then d.modPsl s fun p => { p with gate := false, oscAge := p.oscAge.map fun a => min (a + 1) 256 } else d

/-- A frame ends: one without an onset on a slice under an OSC trim counts (R264). -/
def oscFrame (s : Nat) (d : Dev) : Dev :=
  let p := d.psl s
  if p.oscHit then d.setPsl s { p with oscHit := false, oscFrames := 0 }
  else if trimmedBy d s .osc then d.setPsl s { p with oscFrames := min (p.oscFrames + 1) 256 }
  else d

/-- OSC_REL frames without onset release the trim (R264). -/
def oscRelease (s : Nat) (d : Dev) : Dev :=
  if trimmedBy d s .osc ∧ (d.psl s).onset.isNone ∧ d.get PTL_TIME.OSC_REL ≤ (d.psl s).oscFrames then dropTrim s .osc d else d

/-! ### Isolation margin and gain (R265, R266) -/

/-- ISO and GAIN at a boundary, on the figures of the period just closed. -/
def isoBoundary (e : Env) (s : Nat) (d : Dev) : Dev :=
  if !watched d s then d.modPsl s fun p => { p with margin := none }
  else match (d.slice s).meas.valid, (d.slice s).meas.sysg, e.fix with
    | true, some g, some _ =>
      let m := (d.canc s).ieff - g
      let mFix := fixMargin e
      let good := decide (mFix ≤ m)
      let p := d.psl s
      let bad := if good then 0 else p.isoBad + 1
      let ok := if good then p.isoGood + 1 else 0
      let d1 := d.modPsl s fun p => { p with margin := some m, isoBad := min bad 16, isoGood := min ok 8 }
      let d2 :=
        if m < mFix then
          let d2 := marginReact e s m d1
          if d.get PTL_CFG.ISO_N < bad then muteSlice e s .iso d2 else d2
        else if 8 ≤ ok then unmuteSlice s (· = .iso) (dropTrim s .iso d1)
        else d1
      (match fixGain e (isUl d s) with
        | some gmax => if gmax + 50 < g then muteSlice e s .gain d2 else d2
        | none => d2)
    | _, _, _ => d.modPsl s fun p => { p with margin := none }

/-! ### Uplink noise (R267) -/

/-- The ceiling of R29 and R202 for a slice, 0.01 dB. -/
def sliceCeiling (e : Env) (d : Dev) (s : Nat) : Int :=
  min (min ((fixGain e (isUl d s)).getD (-32768)) (d.canc s).ceil) (d.int LOOP_LIM.UCEIL s)

/-- The bins of the period just closed, with the flag of a bin that is IDLE and no edge bin of an armed Stencil. -/
def noiseBins (s : Nat) (d : Dev) : Dev :=
  let flagAt (j : Nat) : Bool :=
    match stencilFor d s with
    | some n =>
      let x := d.stencil n
      let len := x.cls.length
      let b := if len = 0 then 0 else (x.obs.length + j) % len
      x.st = .armed && !(x.cls.getD b true) && !edgeBin x.cls b
    | none => false
  d.modPsl s fun p => { p with bins := p.bins ++ ((List.range 8).zip (d.slice s).bins).filterMap fun q => q.2.map fun z => (flagAt q.1, z) }

/-- The input noise of a frame (R267), 0.01 dBm over the slice; none without a bin to judge. -/
def noiseIn (d : Dev) (s : Nat) : Option Int :=
  let seen := (d.psl s).bins.filter fun p => decide (-19000 ≤ dbm p.2)
  let armed : Bool := match stencilFor d s with | some n => decide ((d.stencil n).st = .armed) | none => false
  if armed then
    let l := (seen.filter (·.1)).map (·.2)
    if l.isEmpty then none else some (dbm (qSum l / (l.length : Nat)))
  else (seen.map fun p => dbm p.2).foldl (fun (m : Option Int) z => match m with | none => some z | some y => some (min y z)) none

/-- NOISE at a frame boundary. -/
def noiseFrame (e : Env) (s : Nat) (d : Dev) : Dev :=
  let d0 := d.modPsl s fun p => { p with bins := [] }
  if !isUl d s || !watched d s then d0
  else match noiseIn d s, (d.slice s).meas.sysg, e.fix with
    | some nin, some g, some f =>
      let bw := db100 ((2 * 78125 * 2 ^ (effOf d s).cls : Nat) / (100000 : Rat))
      let n := nin - bw + g
      let nmax := 10 * f.noiseMax
      let p := d.psl s
      let many := if nmax < n then p.noiseOver + 1 else 0
      let good := if nin - bw + sliceCeiling e d s ≤ nmax - 100 then p.noiseGood + 1 else 0
      let d1 := d0.modPsl s fun p => { p with noiseOver := min many 3, noiseGood := min good 10 }
      let d2 := if nmax < n then setTrim e s .noise (g - (n - nmax) - 100) d1 else d1
      let d3 := if 3 ≤ many then muteSlice e s .noise d2 else d2
      if 10 ≤ good then dropTrim s .noise d3 else d3
    | _, _, _ => d0

/-! ### Composite power (R268) -/

/-- Slices whose sink is TX chain `c` and that are not IDLE. -/
def sinkSlices (d : Dev) (c : Nat) : List Nat :=
  (d.slices.map (·.1)).filter fun s => (d.slice s).st ≠ .idle && (effOf d s).sink == c

/-- CPWR of a chain at a boundary. -/
def cpwrBoundary (e : Env) (c : Nat) (d : Dev) : Dev :=
  match d.eng.comp.lookup c, fixPower e c with
  | some (_, _, y, true), some pmax =>
    if !dirOpen d (txUl c) then d
    else
      let ex := y - pmax
      let p := d.pch c
      let many := if 50 < ex then p.many + 1 else 0
      let good := if ex ≤ 0 then p.good + 1 else 0
      let d1 := d.setPch c { p with many := min many 8, good := min good 8 }
      let d2 := if 2 ≤ many then
          forL (sinkSlices d1 c) (fun s d => match (d.slice s).meas.sysg with
            | some g => setTrim e s .cpwr (g - ex - 100) d
            | none => d) d1
        else d1
      let d3 := if 300 < ex ∨ 8 ≤ many then muteDir e (txUl c) .cpwr d2 else d2
      if 8 ≤ good then forL (sinkSlices d3 c) (fun s d => dropTrim s .cpwr d) d3 else d3
  | _, _ => d

/-! ### Emission sweep (R269) -/

/-- A tap is eligible: its group is in TX or DUPLEX with the TX synthesiser locked (R96, R269). -/
def tapEligible (d : Dev) (c : Nat) : Bool := (d.group (c / 4)).state.transmits && tapOk d c

/-- A power of a sweep segment on a tap is judged against the Fixative maximum (R269). -/
def segPower (e : Env) (f : Fix) (c : Nat) (y : Int) (d : Dev) : Dev :=
  let p := d.pch c
  let n := if f.pmax.getD c 0 * 10 + 100 < y then p.pow + 1 else 0
  let d1 := d.setPch c { p with pow := min n 2 }
  if 2 ≤ n then muteDir e (txUl c) .cpwr d1 else d1

/-- C_tap of a tap at a frequency, 0 without points. -/
def coupAt (d : Dev) (c : Nat) (hz : Int) : Int := (tapCoup d c hz).getD 0

/-- While a calibration holds the ORX, the composite power of each transmitting chain comes from its digital composite level at the TX
pin plus G_tap, in place of what the ORX would read (R98). -/
def sweepInCal (e : Env) (d : Dev) : Dev :=
  forN 8 (fun c d =>
    match e.fix, d.eng.comp.lookup c with
    | some f, some (_, _, y, true) =>
      let hz := unitsHz (loNow d (2 * (c / 4) + 1))
      if tapEligible d c then segPower e f c (y - txOffset d c hz + (tapGain d c hz).getD 0 - coupAt d c hz) d else d
    | _, _ => d) (d.modPtl fun p => { p with swpAge := 0 })

/-- A segment starts on the next eligible tap, unless a calibration holds the ORX. -/
def sweepStart (e : Env) (d : Dev) : Dev :=
  if d.ptl.seg.isSome ∨ d.ptl.swpAge < d.get PTL_SWEEP.SWP_INT then d
  else if d.orx.owner = .cal then sweepInCal e d
  else match (List.range 8).find? fun k => tapEligible d ((d.ptl.nextTap + k) % 8) with
    | none => d
    | some k =>
      let c := (d.ptl.nextTap + k) % 8
      let (d1, mine) := orxTake .sweep c d
      if mine then d1.modPtl fun p => { p with seg := some c, segBad := false, nextTap := c, swpAge := 0 } else d1

/-- The chain leaves TX or DUPLEX during a segment: it will be discarded (R269). -/
def sweepCheck (d : Dev) : Dev :=
  match d.ptl.seg with
  | some c => if (d.group (c / 4)).state.transmits then d else d.modPtl fun p => { p with segBad := true }
  | none => d

/-- Bin `k` of 2,048 around the LO, 0.96 MHz wide, in hertz times 4,096: lower and upper edge. -/
def binEdges (d : Dev) (c k : Nat) : Int × Int :=
  let centre : Int := (loNow d (2 * (c / 4) + 1) : Int) * 1875 + ((k : Int) - 1024) * 960000 * 4096
  (centre - 480000 * 4096, centre + 480000 * 4096)

/-- A bin lies within LO ± 800 MHz and wholly outside the allowed ranges of a direction (R269). -/
def binOutside (f : Fix) (d : Dev) (c k : Nat) : Bool :=
  let (lo, hi) := binEdges d c k
  let mid : Int := (loNow d (2 * (c / 4) + 1) : Int) * 1875
  decide (mid - 800000000 * 4096 ≤ lo) && decide (hi ≤ mid + 800000000 * 4096) &&
    (if txUl c then f.ul else f.dl).all fun r =>
      decide (hi ≤ ((r.1 * 1000 * 4096 : Nat) : Int)) || decide (((r.2 * 1000 * 4096 : Nat) : Int) ≤ lo)

/-- A reading of the ORX on tap `c` at a frequency, corrected by its factory gain and referred to the output plane through C_tap (R110,
R111). -/
def sweepOut (d : Dev) (c : Nat) (z hz : Int) : Int := z - d.cal.fac.orx - coupAt d c hz

/-- The LO that a sweep of tap `c` is centred on, in hertz. -/
def sweepLo (d : Dev) (c : Nat) : Int := unitsHz (loNow d (2 * (c / 4) + 1))

/-- A bin outside the allowed ranges lies above OOR_MAX (R269): densities in 0.01 dBm/MHz. -/
def sweepHot (f : Fix) (d : Dev) (c : Nat) (bins : List Int) : Bool :=
  ((List.range 2048).zip bins).any fun p =>
    binOutside f d c p.1 && decide (10 * f.oorMax < sweepOut d c p.2 (sweepLo d c + ((p.1 : Int) - 1024) * 960000))

/-- The ORX is given back, the next segment looks at the next tap, and the 2 ms of R493 begin. -/
def sweepOver (c : Nat) (d : Dev) : Dev :=
  (orxGive .sweep ((sweepRest d).modPtl fun p => { p with seg := none, segBad := false })).modPtl fun p => { p with nextTap := (c + 1) % 8 }

/-- The judgement of a segment (R269, R270): the second segment in a row with emission mutes the direction, and the total power is
judged. -/
def sweepJudge (e : Env) (f : Fix) (c : Nat) (bins : List Int) (total : Int) (d : Dev) : Dev :=
  let p := d.pch c
  let em := if sweepHot f d c bins then p.emis + 1 else 0
  let d1 := d.setPch c { p with emis := min em 2 }
  segPower e f c (sweepOut d c total (sweepLo d c)) (if 2 ≤ em then muteDir e (txUl c) .emis d1 else d1)

/-- A segment ends and is judged: the bins' densities (0.01 dBm/MHz) and the total power (0.01 dBm) that the ORX reads. One that was
spoilt is not judged. -/
def sweepEnd (e : Env) (bins : List Int) (total : Int) (d : Dev) : Dev :=
  match d.ptl.seg with
  | none => d
  | some c =>
    if d.ptl.segBad then orxGive .sweep ((sweepRest d).modPtl fun p => { p with seg := none, segBad := false })
    else match e.fix with
      | none => sweepOver c d
      | some f => sweepJudge e f c bins total (sweepOver c d)

/-! ### Uplink duty and donor loss (R271, R272) -/

/-- Chain-rate samples in a second, 8,000 periods of 245,760. -/
def dutyTotal : Nat := 8000 * 245760

/-- The samples of the last 8,000 periods in which a donor TX chain transmitted. -/
def dutySum (d : Dev) (c : Nat) : Nat := (d.pch c).duty.foldl (fun n p => n + p.2) 0

/-- A donor TX chain's samples of the period just closed; PTL_DUTY shows whole steps of 0.5 %. -/
def dutyNote (c samples : Nat) (d : Dev) : Dev :=
  let now := d.clk.periods
  let p := d.pch c
  let l := (p.duty.filter fun q => decide (now < q.1 + 8000)) ++ (if samples = 0 then [] else [(now, min samples 245760)])
  let d1 := d.setPch c { p with duty := l }
  d1.setPch c { d1.pch c with shown := dutySum d1 c * 200 / dutyTotal }

/-- DUTY at a boundary. -/
def dutyBoundary (e : Env) (d : Dev) : Dev :=
  match e.fix with
  | none => d
  | some f =>
    if 1000 ≤ f.duty then unmuteDir true (· = .duty) d
    else if (List.range 4).any fun c => decide (f.duty * dutyTotal < dutySum d c * 1000) then muteDir e true .duty d
    else if (List.range 4).all fun c => decide (dutySum d c * 1000 < (f.duty - d.get PTL_SWEEP.DUTY_HYST) * dutyTotal) then
      unmuteDir true (· = .duty) d
    else d

/-- DLOSS at a boundary (R272): the donor is present when a DL slice reported presence in the period, or when a timing
detector that is the frame-time source holds LOCK. -/
def dlossBoundary (detector : Bool) (d : Dev) : Dev :=
  let seen := detector || d.slices.any fun p => !isUl d p.1 && p.2.meas.pres
  let d1 := d.modPtl fun p =>
    { p with absent := if seen then 0 else satN (p.absent + 1) 20400, present := if seen then satN (p.present + 1) 20400 else 0 }
  if d.get PTL_TIME.DLOSS_T = 0 ∨ 80 * d.get PTL_TIME.DLOSS_REL ≤ d1.ptl.present then unmuteDir true (· = .dloss) d1 else d1

/-- The donor has been absent for DLOSS_T (R272). -/
def dlossTimeout (e : Env) (d : Dev) : Dev :=
  if d.get PTL_TIME.DLOSS_T ≠ 0 ∧ 80 * d.get PTL_TIME.DLOSS_T ≤ d.ptl.absent then muteDir e true .dloss d else d

/-- The compare of R256: Patrol's copy against the stored CRC-32. -/
def selfTest (e : Env) (matches_ : Bool) (d : Dev) : Dev :=
  if e.fix.isNone then d
  else
    let d1 := d.modPtl fun p => { p with copyBad := !matches_ }
    if matches_ then clearLive d1 Ev.PTL_SELFTEST
    else
      let d2 := raiseLive e d1 Ev.PTL_SELFTEST
      if SCause.self ∈ d2.ptl.causes then d2 else stopFor e .self d2

/-- No valid Fixative (R256). -/
def noFixative (e : Env) (d : Dev) : Dev := stopFor e .fix (raiseLive e d Ev.PTL_FIX_INVALID)

/-! ### Releases by software (R262, R273) -/

/-- PTL_CTL.SREL: the latched mutes of a slice are released; an ISO mute is automatic and stays. -/
def patrolSrel (s : Nat) (d : Dev) : Dev := unmuteSlice s (· ≠ .iso) d

/-- PTL_REL.REL_DL and REL_UL: the latched EMIS and CPWR mutes of a direction are released. -/
def patrolRelDir (ul : Bool) (d : Dev) : Dev := unmuteDir ul (fun c => c = .emis || c = .cpwr) d

/-- What Patrol does at a boundary with the figures of the period just closed. `frameEnd` at a frame boundary. -/
def patrolBoundary (e : Env) (matches_ detector frameEnd : Bool) (duty : Nat → Nat) (d : Dev) : Dev :=
  let ss := d.slices.map (·.1)
  let d1 := selfTest e matches_ d
  let d2 := forL ss (fun s d => isoBoundary e s (oscBoundary e s (noiseBins s d))) d1
  let d3 := if frameEnd then forL ss (fun s d => noiseFrame e s (oscFrame s d)) d2 else d2
  let d4 := forN 8 (cpwrBoundary e) d3
  let d5 := dutyBoundary e (forN 4 (fun c d => dutyNote c (duty c) d) d4)
  (dlossBoundary detector d5).modPtl fun p => { p with swpAge := satN (p.swpAge + 1) 255 }

/-! ### Register images -/

/-- PTL_STAT. -/
def ptlStatWord (d : Dev) : Word :=
  let c (x : SCause) : Nat := b2n (decide (x ∈ d.ptl.causes))
  let m (l : List DCause) (x : DCause) : Nat := b2n (decide (x ∈ l))
  BitVec.ofNat 32 (packBits
    [(30, 2, d.ptl.phase.code), (29, 1, b2n d.ptl.relPend),
     (23, 1, c .pin), (22, 1, c .tow), (21, 1, c .local_), (20, 1, c .esc), (19, 1, c .self), (18, 1, c .fix),
     (11, 1, m d.ptl.dl .emis), (10, 1, m d.ptl.dl .cpwr),
     (3, 1, m d.ptl.ul .emis), (2, 1, m d.ptl.ul .cpwr), (1, 1, m d.ptl.ul .duty), (0, 1, m d.ptl.ul .dloss)])

/-- The cause that holds the lowest limit; the earlier set of equals. -/
def lowestTrim (l : List (TCause × Int)) : Option TCause :=
  (l.foldl (fun (m : Option (TCause × Int)) p => match m with
    | none => some p
    | some q => if p.2 < q.2 then some p else some q) none).map (·.1)

/-- PTL_SLC. -/
def ptlSlcWord (d : Dev) (s : Nat) : Word :=
  let p := d.psl s
  packF [(PTL_SLC.MUTE, b2n (!p.mutes.isEmpty)), (PTL_SLC.MCAUSE, match p.mutes with | c :: _ => c.code | [] => 0),
    (PTL_SLC.TRIM, b2n (!p.trims.isEmpty)), (PTL_SLC.TCAUSE, match lowestTrim p.trims with | some c => c.code | none => 0),
    (PTL_SLC.MARGIN, match p.margin with | some m => fromSigned 16 (clampI m (-32767) 32767) | none => 0x8000)]

/-- PTL_TRIM. -/
def ptlTrimWord (d : Dev) (s : Nat) : Word := packF [(PTL_TRIM.LIM, fromSigned 16 (clampI (trimOf d s) (-32768) 32767))]

end Sys2Proof.Machine
end

