-- ==== Sys2Proof/Machine/ProbeOps.lean ====
section
/-! DEFINITION. The isolation probe (R181 to R186). -/
namespace Sys2Proof.Machine

/-- Change the probe engine. -/
def Dev.modPrb (d : Dev) (f : Probe → Probe) : Dev := { d with prb := f d.prb }

/-- f_p in hertz (R181). -/
def probeFreq (d : Dev) : Nat := 8000 * (d.get CNL_PRB_CFG.FMUL + 1)

/-- A rejected START or configuration. -/
def probeRej (d : Dev) : Dev := d.setBit CNL_PRB_STAT.REJ

/-- CNL_PRB_CTL.START (R183, R186): rejected while a run is in progress, on a slice that is not ACTIVE, and in bias DAC mode
on a channel that is not in sine mode. It goes before an automatic run that still waits for its frame boundary, which comes after it.
DEDUCED (log 227): a START that waits itself counts as a run in progress. -/
def probeRequest (d : Dev) : Dev :=
  let s := d.get CNL_PRB_CFG.SLICE
  let dac := d.flag CNL_PRB_CFG.MODE
  let c := d.get CNL_PRB_CFG.BDAC
  let waits : Option Nat := match d.prb.run with
    | some r => if r.auto && !r.started then some r.s else none
    | none => none
  if (d.prb.run.isSome ∧ waits.isNone) ∨ (d.slice s).st ≠ .active ∨ (dac ∧ !d.flag BDAC_CFG.MODE c) then probeRej d
  else
    d.modPrb fun p => { p with
      run := some { s := s, dac := dac, chan := c }, done := false, next := waits.getD p.next
      wait := if waits.isSome then d.get CNL_PRB_CTL.INTERVAL else p.wait }

/-- A Stencil bin qualifies while the slice's mute is fully open and the lock gate of its sink chain is open (R184). -/
def probeOpen (d : Dev) (s : Nat) : Bool := (d.slice s).mute = .open_ && lockGate d ((effOf d s).sink / 4)

/-- The bins of a period that overlap the core cycles from `a` to `b`. -/
def binsIn (a b : Nat) : List Nat := (List.range 8).filter fun j => decide (a < 15360 * (j + 1) ∧ 15360 * j < b)

/-- The bins known not to qualify once the gates have stood as they did up to core cycle `now` of the period. -/
def ProbeRun.badAt (r : ProbeRun) (now : Nat) : List Nat := if r.open_ then r.bad else (binsIn r.seenAt now).foldl sadd r.bad

/-- The run remembers which bins of the running period qualify (R184). -/
def probeNote (d : Dev) : Dev :=
  d.modPrb fun p => { p with run := p.run.map fun r =>
    if r.started then { r with bad := r.badAt d.clk.ofs, seenAt := d.clk.ofs, open_ := probeOpen d r.s } else r }

/-- A period of `n` core cycles ends: its bins count, those that qualified too. -/
def probeClose (n : Nat) (d : Dev) : Dev :=
  d.modPrb fun p => { p with run := p.run.map fun r =>
    if r.started then
      let k := min 8 (n / 15360)
      { r with bins := r.bins + k, good := r.good + ((List.range k).filter fun j => decide (j ∉ r.badAt n)).length, bad := [], seenAt := 0 }
    else r }

/-- A run starts at a frame boundary (R181, R183): in bias DAC mode the channel's sine runs at f_p and the ORX is taken at
priority 3, where its tap can be selected (R96). A run without the ORX ends INVALID at the end of the step (R184). -/
def probeBegin (d : Dev) : Dev :=
  match d.prb.run with
  | some r =>
    if r.started then d
    else
      let d1 := d.modPrb fun p => { p with run := some { r with started := true, open_ := probeOpen d r.s }, done := false, slice := r.s }
      if r.dac then
        let x := d1.chan r.chan
        let d2 := d1.setChan r.chan { x with sineOn := decide (x.st = .drive), sineStop := false, acc := 0, probe := some (probeFreq d) }
        let tap := (effOf d2 r.s).sink
        if tapOk d2 tap then (orxTake .probe tap d2).1 else d2
      else d1
  | none => d

/-- The automatic rotation sets a digital run on the next ACTIVE slice (R186); it starts at the next frame boundary (R181). -/
def probeAuto (d : Dev) : Dev :=
  if d.flag CNL_PRB_CFG.AUTO ∧ d.prb.run.isNone ∧ d.get CNL_PRB_CTL.INTERVAL ≤ d.prb.wait then
    match (List.range 192).find? fun k => (d.slice ((d.prb.next + k) % 192)).st = .active with
    | none => d
    | some k =>
      let s := (d.prb.next + k) % 192
      d.modPrb fun p => { p with run := some { s := s, dac := false, auto := true }, wait := 0, next := (s + 1) % 192 }
  else d

/-- The sine of a bias DAC run stops and the ORX is given back (R183). -/
def probeRelease (r : ProbeRun) (d : Dev) : Dev :=
  if r.dac ∧ r.started then
    let d1 := orxGive .probe d
    let x := d1.chan r.chan
    if x.probe.isSome then d1.setChan r.chan { x with sineStop := true } else d1
  else d

/-- CNL_PRB_CTL.ABORT (R186): the run ends without a result, and AUTO clears. -/
def probeAbort (d : Dev) : Dev :=
  let d1 := d.put CNL_PRB_CFG.AUTO 0 0
  match d1.prb.run with
  | some r => probeRelease r (d1.modPrb fun p => { p with run := none })
  | none => d1

/-- A run is over: its resources are given back and it is counted. -/
def probeOver (r : ProbeRun) (d : Dev) : Dev :=
  probeRelease r (d.modPrb fun p => { p with run := none, done := true, dac := r.dac, count := (p.count + 1) % 65536 })

/-- A run ends INVALID (R184). -/
def probeInvalid (e : Env) (r : ProbeRun) (d : Dev) : Dev :=
  report e (((probeOver r d).setBit CNL_PRB_STAT.INVALID).modPrb fun p => { p with ok := false }) Ev.PRB_INVALID r.s

/-- The slice of a run leaves ACTIVE or comes under suppression, or the ORX is lost: the run ends INVALID (R184). -/
def probeCheck (e : Env) (d : Dev) : Dev :=
  match d.prb.run with
  | some r =>
    let x := d.slice r.s
    if r.started ∧ (x.st ≠ .active ∨ x.suppressed ∨ (r.dac ∧ d.orx.owner ≠ .probe)) then probeInvalid e r d else d
  | none => d

/-- a of R182: 10^(DEPTH/2,000) − 1. -/
def probeDepth (d : Dev) : Rat := amp100 (d.get CNL_PRB_CFG.DEPTH) - 1

/-- P_o of R182 and R183, 0.01 dBm at the output plane: the slice's mean input power plus its system gain, or the power that the ORX reads,
corrected by its factory gain and referred through C_tap. -/
def probeOut (d : Dev) (r : ProbeRun) (power : Int) : Option Int :=
  let x := effOf d r.s
  if r.dac then some (power - d.cal.fac.orx - coupAt d x.sink (carrierTx d x)) else (sysg d r.s).map (power + ·)

/-- A run ends after DUR + 1 frames (R181 to R184), INVALID with fewer than 25 % of its bins: what was measured is the slice's mean input power
or, in bias DAC mode, what the ORX reads (0.01 dBm) and the depth of the modulation at the coupler; and the demodulated magnitudes A, in mW
at the input plane, at the canceller's input and output. The returned echo power is P_e = A / a. -/
def probeEnd (e : Env) (mean orx : Int) (depth aIn aOut : Rat) (d : Dev) : Dev :=
  match d.prb.run with
  | none => d
  | some r =>
    if !r.started ∨ r.frames ≤ d.get CNL_PRB_CFG.DUR then d
    else
      let a := if r.dac then depth else probeDepth d
      let iso (po : Int) (z : Rat) : Int := clampI (po - dbm (z / a)) 0 65535
      match decide (4 * r.good < r.bins), probeOut d r (if r.dac then orx else mean) with
      | false, some po =>
        (probeOver r d).modPrb fun p => { p with
          ok := true, iphys := iso po (if r.dac then aOut else aIn), ieff := if r.dac then 0 else iso po aOut, cmp := some r.s }
      | _, _ => probeInvalid e r d

/-- The comparison at the first boundary after a valid run (R185), on the figures of the period just closed. -/
def probeCompare (e : Env) (d : Dev) : Dev :=
  match d.prb.cmp with
  | none => d
  | some s =>
    let p := d.prb
    let x := d.canc s
    let d0 := d.modPrb fun p => { p with cmp := none }
    let (iso, dep) := cnlFigNow d s
    let short := if p.dac then iso - p.iphys else max (iso - p.iphys) (iso + dep - p.ieff)
    let th : Int := 10 * d.get CNL_PRB_CTL.DISC_TH
    if (d.slice s).st = .idle then d0
    else if th ≤ short then
      raiseLive e (d0.setCanc s { x with short := (clampI short 0 65535).toNat, prbLim := true, prbMode := p.dac }) Ev.ISO_DISAGREE s
    else if x.prbLim ∧ x.prbMode = p.dac then clearLive (d0.setCanc s { x with short := 0, prbLim := false }) Ev.ISO_DISAGREE s
    else d0

/-- A frame boundary for the probe: the run in progress has lasted a frame more, a waiting run starts, the interval counts. -/
def probeFrame (d : Dev) : Dev :=
  (probeBegin (d.modPrb fun p => { p with run := p.run.map fun r => { r with frames := if r.started then satN (r.frames + 1) 255 else 0 } })).modPrb
    fun p => { p with wait := satN (p.wait + 1) 65535 }

end Sys2Proof.Machine
end

