-- ==== Sys2Proof/Machine/PowerOps.lean ====
section
/-! DEFINITION. Dozing, the device's sleep and wake, and the Lodge's comparators (R357 to R363). -/
namespace Sys2Proof.Machine

/-- Change the power block. -/
def Dev.modPwr (d : Dev) (f : Power → Power) : Dev := { d with pwr := f d.pwr }

/-! ### Dozing (R357, R358) -/

/-- A slice that may doze: ACTIVE, mute fully closed, no signal. -/
def mayDoze (d : Dev) (s : Nat) : Bool :=
  let x := d.slice s
  d.flag PWR_DOZE_CFG.EN && x.st = .active && x.mute = .closed && !x.pres && x.gz.fade.isNone

/-- A slice dozes. -/
def dozeEnter (s : Nat) (d : Dev) : Dev := if mayDoze d s then d.modSlice s fun x => { x with doze := true } else d

/-- A slice leaves doze. -/
def dozeLeave (s : Nat) (d : Dev) : Dev := d.modSlice s fun x => { x with doze := false }

/-- A tile whose four slices are all IDLE, SHED or dozing stops its shared clocks (R358); a tile that is not powered has none. -/
def tileDozes (d : Dev) (t : Nat) : Bool :=
  (d.dom t).phase = .on && (onTile d t).all fun s => (d.slice s).st = .idle || (d.slice s).st = .shed || (d.slice s).doze

/-! ### Sleep and wake (R359 to R361) -/

/-- LDG_WAKE_CFG enables no wake source. -/
def noWake (d : Dev) : Bool := !d.flag LDG_WAKE_CFG.PIN_EN && !d.flag LDG_WAKE_CFG.RF_EN && !d.flag LDG_WAKE_CFG.TOW_EN

/-- PWR_CTL.SLEEP (R360): discarded with SLEEP_REJ, or the sequence starts. -/
def sleepRequest (d : Dev) : Dev :=
  if d.pwr.sleep ≠ .awake then d
  else if d.rcd.clrBusy ≠ [] ∨ bitOf d.boot.straps 4 ∨ noWake d then d.setBit PWR_STAT.SLEEP_REJ
  else
    let d1 := d.modPwr fun p => { p with sleep := .entering, stage := 0, wakeCause := 0, wakePins := 0, heldWake := none }
    let d2 := tokenRelease (unwindWhere (fun _ => true) d1)
    let down (g : Nat) (d : Dev) : Dev :=
      let x := d.group g
      goOn g (calAbort g (d.setGroup g { x with target := .sleep, heldReq := none, critReq := none, txWait := false }))
    down 1 (down 0 d2)

/-- Both groups rest in SLEEP. -/
def groupsAsleep (d : Dev) : Bool := [0, 1].all fun g => (d.group g).state = .sleep && (d.group g).phase = .steady

/-- Every domain is OFF. -/
def domainsOff (d : Dev) : Bool := d.pwr.doms.all fun p => p.2.phase = .off

/-- Both groups are in SLEEP: channels go to PARK and OFF, tiles drain (R360). -/
def sleepDown (d : Dev) : Dev :=
  if d.pwr.sleep = .entering ∧ d.pwr.stage = 0 ∧ groupsAsleep d then
    let d1 := forN 48 bdacSleep (d.modPwr fun p => { p with stage := 1 })
    forN 50 (fun t d => if (d.dom t).req then domRelease t d else d) d1
  else d

/-- MAIN_EN falls and the device is in SLEEP (R360). -/
def sleepEnter (d : Dev) : Dev :=
  if d.pwr.sleep = .entering ∧ d.pwr.stage = 2 ∧ domainsOff d ∧ d.ret.job.isNone ∧ !d.rcd.flushing then
    let d1 := d.modPwr fun p => { p with sleep := .asleep, mainEn := false, stage := 0 }
    d1.modFlt fun f => { f with alive := false, aliveRun := false }
  else d

/-- The device wakes (R361): the cause is recorded and MAIN_EN goes high; once PWR_GOOD is high the 10 ms wait for the cold start
runs. -/
def wakeNow (cause pins : Nat) (d : Dev) : Dev :=
  d.modPwr fun p => { p with sleep := .awake, mainEn := true, relWait := p.pwrGood, inReset := true, heldWake := none,
                             wakeCause := Nat.lor p.wakeCause cause, wakePins := Nat.lor p.wakePins pins }

/-- A wake cause arrives: it wakes from SLEEP, and a cause that is still held is recorded with it; in ENTERING it is held
(R360, R361). -/
def wakeCause (cause pins : Nat) (d : Dev) : Dev :=
  match d.pwr.sleep with
  | .awake => d
  | .entering =>
    let (c, p) := d.pwr.heldWake.getD (0, 0)
    d.modPwr fun x => { x with heldWake := some (Nat.lor c cause, Nat.lor p pins) }
  | .asleep => let (c, p) := d.pwr.heldWake.getD (0, 0); wakeNow (Nat.lor c cause) (Nat.lor p pins) d

/-- 10 ms after MAIN_EN fell, a held cause acts (R360). -/
def heldWakeRelease (d : Dev) : Dev :=
  match d.pwr.sleep, d.pwr.heldWake with
  | .asleep, some (c, p) => wakeNow c p d
  | _, _ => d

/-- One of the 32 samples tripped the comparator, at −45 dBm + TH (R363). -/
def rfTripped (d : Dev) (samples : List Int) : Bool :=
  (samples.take 32).any fun x => decide (100 * (d.get LDG_RFDET_CFG.TH : Int) - 4500 ≤ x)

/-- A comparator window closes (R363): the report, the sticky flag, and in SLEEP the dwell of R361. -/
def rfWindow (pin : Nat) (samples : List Int) (d : Dev) : Dev :=
  let on := bitOf (d.get LDG_RFDET_CFG.EN) pin
  let hit := rfTripped d samples && on
  let run := if hit then tget (fun _ => 0) d.pwr.rfRun pin + 1 else 0
  let d1 := d.modPwr fun p => { p with rfPres := putBits p.rfPres pin 1 (b2n hit), rfRun := tset (fun _ => 0) p.rfRun pin (satN run 255) }
  let d2 := if hit then d1.put LDG_RFDET_STAT.SEEN 0 (putBits (d1.get LDG_RFDET_STAT.SEEN) pin 1 1) else d1
  if d2.flag LDG_WAKE_CFG.RF_EN ∧ hit ∧ d2.get LDG_WAKE_CFG.RF_DWELL ≤ run then wakeCause 2 (2 ^ pin) d2 else d2

/-- PWR_STAT.STATE (R359). -/
def pwrState (d : Dev) : Nat :=
  match d.pwr.sleep with
  | .awake =>
    if [0, 1].any (fun g => decide (2 ≤ (d.group g).state.code)) ∨ d.pwr.doms.any (fun p => decide (p.1 < 50) && p.2.phase ≠ .off) then 0
    else 1
  | _ => 2

end Sys2Proof.Machine
end

