-- ==== Sys2Proof/Machine/FrameTime.lean ====
section
/-! DEFINITION. Frame time and its sources (R40 to R50), and slice syncs (R44, R51). -/
namespace Sys2Proof.Machine

/-- Change the sources. -/
def Dev.modSrc (d : Dev) (f : Sources → Sources) : Dev := { d with src := f d.src }

/-- The HEAD strap the device keeps (R369). -/
def isHead (d : Dev) : Bool := bitOf d.boot.straps 0

/-- LOCKED as TOW_TIME_STAT shows it (R442). -/
def towLocked (d : Dev) : Bool := isHead d || d.tow.locked

/-! ### Edges of FRAME_SYNC and PPS (R42) -/

/-- A FRAME_SYNC interval conforms: a whole number of frames, 1 to 100, within ±64 cycles. -/
def fsConforms (delta : Nat) : Bool :=
  let n := (delta + frameCycles / 2) / frameCycles
  decide (1 ≤ n ∧ n ≤ 100 ∧ ((delta : Int) - (n * frameCycles : Nat)).natAbs ≤ 64)

/-- A PPS interval conforms: 1 s ±1 µs. -/
def ppsConforms (delta : Nat) : Bool := decide (((delta : Int) - 983040000).natAbs ≤ 983)

/-- An edge of an input. Answers whether it is a reference event. -/
def edgeSeen (conforms : Nat → Bool) (now : Nat) (x : Edge) : Edge × Bool :=
  match x.last with
  | none => ({ x with last := some now, run := 0 }, false)
  | some t =>
    if conforms (now - t) then
      let run := min (x.run + 1) 3
      ({ valid := x.valid || decide (3 ≤ run), run := run, last := some now }, x.valid || decide (3 ≤ run))
    else if x.valid then (x, false)
    else ({ x with last := some now, run := 0 }, false)

/-- A source becomes invalid and counts afresh from its next edge. -/
def Edge.fail (_ : Edge) : Edge := {}

/-- Note a reference event of a source. -/
def setRef (code at_ : Nat) (d : Dev) : Dev := d.modSrc fun s => { s with refs := tput (tdel s.refs code) code at_ }

/-- A rising edge of FRAME_SYNC or PPS. Until the enabling pass the inputs are ignored (R450). -/
def syncEdge (pps : Bool) (d : Dev) : Dev :=
  if !d.src.open_ then d
  else
    let now := coreNow d
    let (x, isRef) := if pps then edgeSeen ppsConforms now d.src.pps else edgeSeen fsConforms now d.src.fs
    let d1 := d.modSrc fun s => if pps then { s with pps := x } else { s with fs := x }
    if isRef then setRef (if pps then 3 else 2) now d1 else d1

/-- No conforming edge within the timeout. -/
def sourceTimeout (pps : Bool) (d : Dev) : Dev :=
  d.modSrc fun s => if pps then { s with pps := s.pps.fail } else { s with fs := s.fs.fail }

/-! ### Timing detectors (R48 to R50) -/

/-- A detector. -/
def Dev.det (d : Dev) (n : Nat) : Detector := tget (fun _ => {}) d.src.det n
def Dev.setDet (d : Dev) (n : Nat) (x : Detector) : Dev := d.modSrc fun s => { s with det := tset (fun _ => {}) s.det n x }

/-- Fields of SYN_FT_CFG in effect. -/
def ftTdSel (d : Dev) : Nat := bitsOf d.src.cfg 12 3
def ftStepTh (d : Dev) : Nat := 8 * bitsOf d.src.cfg 16 8
def ftRevert (d : Dev) : Nat := bitsOf d.src.cfg 24 8
def ftSlots (d : Dev) : List Nat := [bitsOf d.src.cfg 0 3, bitsOf d.src.cfg 3 3, bitsOf d.src.cfg 6 3, bitsOf d.src.cfg 9 3]

/-- Whether a source is valid (R42). -/
def srcValid (d : Dev) (code : Nat) : Bool :=
  match code with
  | 1 => (d.det (ftTdSel d)).lock
  | 2 => d.src.fs.valid
  | 3 => d.src.pps.valid
  | 4 => towLocked d
  | _ => false

/-- A word of SYN_TD_CFG that R48 accepts: a DL slice, its class, the signal's place in its passband. A signal has at least
half its width inside exactly when its centre lies inside. -/
def tdCfgOk (d : Dev) (w : Word) : Bool :=
  let s := SYN_TD_CFG.SLICE.of w
  let rat := SYN_TD_CFG.RAT.of w
  let cls := d.get SLC_CFG0.CLASS s
  decide (s < 192) && decide (rat ≠ 3) && !isUl d s && decide ((if rat = 2 then 2 else 1) ≤ cls) &&
    decide ((SYN_TD_CFG.FOFS.int w).natAbs * 15000 * 4096 ≤ edgeScaled cls)

/-- A detector can detect: enabled, on a slice that runs and does not settle (R49). DESIGN CHOICE (log 164): a write that
clears EN, or any rewrite of SYN_TD_CFG, leaves LOCK and the stored detections as they are. -/
def tdWorks (d : Dev) (n : Nat) : Bool :=
  let x := d.slice (d.get SYN_TD_CFG.SLICE n)
  d.flag SYN_TD_CFG.EN n && (x.st = .active || x.st = .draining) && !x.suppressed

/-- A slice settles: SETTLING, or suppressed afresh in another state. One that still waits for its tile does not (R49). -/
def Slice.settles (x : Slice) : Bool := x.st = .settling || (x.suppressed && x.st ≠ .queued && x.st ≠ .powering)

/-- A detector expects detections: enabled and locked, its slice not settling (R49). -/
def tdExpects (d : Dev) (n : Nat) : Bool :=
  d.flag SYN_TD_CFG.EN n && (d.det n).lock && !(d.slice (d.get SYN_TD_CFG.SLICE n)).settles

/-- Half a frame. -/
def halfFrame : Nat := 4915200

/-- Two detections lie a whole multiple of 5 ms apart within ±64 cycles. DESIGN CHOICE (log 234): zero is such a multiple, so two
detections 1 to 64 cycles apart count. -/
def tdSpaced (a b : Nat) : Bool :=
  let r := (b - a) % halfFrame
  decide (a < b) && (decide (r ≤ 64) || decide (halfFrame ≤ r + 64))

/-- Distance of two core cycles modulo a frame, at most half a frame either way: how far `t` lies ahead of `f`. -/
def frameDiff (t f : Nat) : Int :=
  let r := (t + frameCycles - f % frameCycles) % frameCycles
  if r ≤ halfFrame then (r : Int) else (r : Int) - frameCycles

/-- The target frame boundary of a source: its reference event plus its offset, modulo a frame (R43). -/
def srcTarget (d : Dev) (code : Nat) : Option Nat :=
  (d.src.refs.lookup code).map fun r => (r + tget (fun _ => 0) d.src.ofs code) % frameCycles

/-- The target that another valid source gives for the half-frame (R50). DESIGN CHOICE (log 165): of several, the first in the
order of the priority slots, then of the codes. -/
def halfFrom (d : Dev) : Option Nat :=
  ((ftSlots d ++ [2, 3, 4]).filter fun c => decide (2 ≤ c) && srcValid d c).findSome? (srcTarget d)

/-- A reference event of the detector that serves frame time (R50): in the half-frame that another valid source gives within
±2.5 ms; with none, in the half of the earlier events, and the first one in the first half, with HALF_AMBIG. DESIGN CHOICE (log
211): the bit stands, also after the detector has lost LOCK or frame time has moved to another source, until a reference
of the detector settles the half-frame. -/
def tdReference (now : Nat) (d : Dev) : Dev :=
  let d1 := setRef 1 now d
  match halfFrom d, srcTarget d1 1 with
  | some u, some t =>
    let d2 := d1.modSrc fun s => { s with halfAmbig := false }
    if (frameDiff t u).natAbs ≤ halfFrame / 2 then d2 else setRef 1 (now + halfFrame) d2
  | _, _ =>
    match d.src.refs.lookup 1 with
    | some r => if (frameDiff now r).natAbs ≤ halfFrame / 2 then d1 else setRef 1 (now + halfFrame) d
    | none => d1.modSrc fun s => { s with halfAmbig := true }

/-- The detections that compete with one made now: those of the last 20 ms, the longest burst period of R48. -/
def tdRivals (now : Nat) (x : Detector) : List (Nat × Nat × Nat) := x.seen.filter fun p => decide (now ≤ p.2.1 + 2 * frameCycles)

/-- With NID2 = 0b11 a sequence locks only when it is the strongest (R49). DESIGN CHOICE (log 166): the strongest is the one
whose QUAL no detection of another sequence in the last 20 ms exceeds. -/
def tdStrongest (want nid qual now : Nat) (x : Detector) : Bool :=
  want != 3 || (tdRivals now x).all fun p => p.1 == nid || decide (p.2.2 ≤ qual)

/-- A detection (R49): the sequence, the peak over the mean in 0.1 dB, at the present instant. Until the detector's first lock
after a cold start, a detection made before its noise-floor estimate has settled is discarded (R49, R499). DESIGN CHOICE
(log 167): a locked detector takes only a detection a whole multiple of 5 ms after the last one it took. -/
def tdDetect (n nid qual : Nat) (settled : Bool) (d : Dev) : Dev :=
  let x := d.det n
  let want := d.get SYN_TD_CFG.NID2 n
  if !tdWorks d n || (want != 3 && nid != want) || (!x.warm && !settled) then d
  else
    let now := coreNow d
    let q := qual % 65536
    if x.lock then
      if nid ≠ x.nid ∨ !tdSpaced x.last now then d
      else
        let d1 := d.setDet n { x with missRun := 0, qual := q, last := now }
        if n = ftTdSel d then tdReference now d1 else d1
    else if tdStrongest want nid q now x && x.seen.any fun p => p.1 == nid && tdSpaced p.2.1 now then
      let d1 := d.setDet n { lock := true, nid := nid, qual := q, last := now, warm := true }
      if n = ftTdSel d then tdReference now (d1.modSrc fun s => { s with refs := tdel s.refs 1 }) else d1
    else d.setDet n { x with seen := (nid, now, q) :: x.seen, qual := q }

/-- A missed detection (R49): the fourth in a row clears LOCK. -/
def tdMiss (n : Nat) (d : Dev) : Dev :=
  let x := d.det n
  if !tdExpects d n then d
  else if 4 ≤ x.missRun + 1 then
    d.setDet n { x with lock := false, missRun := 0, missCnt := satN (x.missCnt + 1) 0xFF, seen := [] }
  else d.setDet n { x with missRun := x.missRun + 1, missCnt := satN (x.missCnt + 1) 0xFF }

/-- The frame-time source is a detector that holds LOCK (R272). -/
def detectorServes (d : Dev) : Bool := d.src.active == 1 && srcValid d 1

/-! ### Selection, slew and step (R42, R43, R45, R46) -/

/-- The highest-ranked valid source. -/
def bestSource (d : Dev) : Nat := ((ftSlots d).find? fun c => c != 0 && srcValid d c).getD 0

/-- The rank of a source; 4 for one in no slot. -/
def rankOf (d : Dev) (code : Nat) : Nat := ((List.range 4).find? fun k => (ftSlots d).getD k 0 == code).getD 4

/-- Since which boundary each source has been valid. -/
def noteValid (d : Dev) : Dev :=
  forL [1, 2, 3, 4] (fun c d => d.modSrc fun s =>
    if srcValid d c then (if (s.since.lookup c).isSome then s else { s with since := tput s.since c d.clk.periods })
    else { s with since := tdel s.since c, refs := if c = 1 then tdel s.refs 1 else s.refs }) d

/-- Tow time gives its reference event at each whole multiple of a frame. -/
def towRef (d : Dev) : Dev := if towLocked d then setRef 4 (coreNow d + frameCycles - towNow d % frameCycles) d else d

/-- SYN_FT_CFG and SYN_FT_OFS take effect (R47). -/
def ftLoad (d : Dev) : Dev :=
  let w := (d.reg .SYN_FT_CFG).toNat
  forN 4 (fun k d => d.modSrc fun s => { s with ofs := tset (fun _ => 0) s.ofs (k + 1) (d.get SYN_FT_OFS.OFS k) })
    (d.modSrc fun s => { s with cfg := w, refs := if bitsOf w 12 3 = bitsOf s.cfg 12 3 then s.refs else tdel s.refs 1 })

/-- The source in use (R42, R45, R46): a source that is no longer valid or ranked gives way at once to the best one; a
higher-ranked one waits for its dwell, and with REVERT = 0 for a rewrite of SYN_FT_CFG. -/
def selectSource (e : Env) (d : Dev) : Dev :=
  let a := d.src.active
  let keep := a != 0 && srcValid d a && decide (rankOf d a < 4) && !(d.src.cfgNew && decide (ftRevert d = 0))
  let now := if keep then a else bestSource d
  let d1 := d.modSrc fun s =>
    { s with active := now, holdover := decide (now = 0), step := if now = a then s.step else none, cfgNew := false }
  setLive e Ev.FT_HOLDOVER noInst (decide (now = 0)) d1

/-- REVERT × 10 frames of unbroken validity have passed: a higher-ranked source replaces the active one (R46). -/
def revertTo (code : Nat) (d : Dev) : Dev :=
  match d.src.since.lookup code with
  | some t =>
    if ftRevert d ≠ 0 ∧ d.src.active ≠ 0 ∧ rankOf d code < rankOf d d.src.active ∧ srcValid d code ∧
        t + ftRevert d * 800 ≤ d.clk.periods then
      d.modSrc fun s => { s with active := code, step := none }
    else d
  | none => d

/-- The comparison of R43 at a boundary: slew by one core cycle a period, or make a step due; in a frame that has stepped
the condition waits for the next one (R44). -/
def compareTime (d : Dev) : Dev :=
  match (if d.src.active = 0 then none else srcTarget d d.src.active) with
  | none => d.modSrc fun s => { s with slewing := false, adj := 0, step := none, again := false }
  | some t =>
    let diff := frameDiff t (d.clk.core + frameCycles - d.clk.cyc % frameCycles)
    if diff.natAbs ≤ ftStepTh d then
      d.modSrc fun s => { s with slewing := decide (diff ≠ 0), adj := sgn diff, step := none, again := false }
    else if d.src.stepped then d.modSrc fun s => { s with slewing := false, adj := 0, again := true }
    else d.modSrc fun s => { s with slewing := false, adj := 0, step := some t, again := false }

/-- A frame-time step is due, or its condition waits for the next frame (R43, R44). -/
def stepWaits (d : Dev) : Bool := d.src.step.isSome || d.src.again

/-- Frame time at a boundary: configuration, validity, selection and comparison. -/
def ftBoundary (e : Env) (d : Dev) : Dev :=
  let d2 := noteValid (ftLoad (towRef d))
  let d3 := if d2.clk.cyc = 0 then d2.modSrc fun s => { s with stepped := false } else d2
  compareTime (selectSource e d3)

/-- Core cycles after the last boundary at which a due step takes effect: the next frame boundary of the new timing (R43). -/
def stepOffset (d : Dev) : Option Nat := d.src.step.map fun t => (t + frameCycles - d.clk.core % frameCycles) % frameCycles

/-! ### Slice sync (R44, R51) -/

/-- Every slice restarts suppression and settling, its settle count starting at the step (R154); epochs with windows are unwound,
Stencils wait for a new anchor. -/
def sliceSync (e : Env) (d : Dev) : Dev :=
  let ss := d.slices.map (·.1)
  let d1 := forL ss settleBoundary (forL ss (suppress e 2 .boundary) d)
  let d2 := unwindWhere (fun x => x.tpl.isSome) d1
  forL (d2.stn.map (·.1)) (stencilWait e) d2

/-- SYN_FT_STAT without its CFG_REJ bit. -/
def ftStatWord (d : Dev) : Nat :=
  packBits [(23, 1, b2n (srcValid d 4)), (22, 1, b2n (srcValid d 3)), (21, 1, b2n (srcValid d 2)), (20, 1, b2n (srcValid d 1)),
    (8, 8, d.src.stepCnt), (7, 1, b2n d.src.halfAmbig), (6, 1, b2n d.src.slewing), (5, 1, b2n d.src.holdover), (0, 3, d.src.active)]

end Sys2Proof.Machine
end

