-- ==== Sys2Proof/Machine/TowFrames.lean ====
section
/-! DEFINITION. The Tow link without the register accesses it carries (chapter 19): ports and queues, frames received and
sent, addresses, epochs and fencing, the bench, the pair token, gather, Tow time, and the head's book. -/
namespace Sys2Proof.Machine

/-- Change the Tow link. -/
def Dev.modTow (d : Dev) (f : Tow → Tow) : Dev := { d with tow := f d.tow }

/-- A port: TOW_DN or TOW_UP. -/
def towPort (d : Dev) (dn : Bool) : Port := if dn then d.tow.dn else d.tow.up

/-- Change a port. -/
def modPort (dn : Bool) (f : Port → Port) (d : Dev) : Dev :=
  d.modTow fun t => if dn then { t with dn := f t.dn } else { t with up := f t.up }

/-- The register index of a port: 0 for TOW_UP, 1 for TOW_DN. -/
def portNo (dn : Bool) : Nat := if dn then 1 else 0

/-- The PAIR_EN strap the device keeps (R369). -/
def pairEn (d : Dev) : Bool := bitOf d.boot.straps 3

/-- A device whose TOW_DN is not UP is the tail (R414). -/
def isTail (d : Dev) : Bool := d.tow.dn.link ≠ .up

/-- The device is benched. -/
def benched (d : Dev) : Bool := d.tow.st = .bench

/-- The pair-token gate of R26 (R429). -/
def pairGate (d : Dev) : Bool :=
  !benched d && (!pairEn d || (d.tow.tok.hold && d.tow.tok.gate && !d.tow.tok.letting))

/-- The acquisition wait runs (R431): PAIR_SENSE is high and the device may attempt. -/
def tokenWaits (d : Dev) : Bool :=
  let t := d.tow.tok
  pairEn d && !t.hold && !benched d && t.allowed && !t.blocked && t.line && d.pwr.sleep = .awake

/-- The device's own address as a sender; 0x7FF from an unaddressed device (R416). -/
def ownAddr (d : Dev) : Nat := if isHead d then 0 else if d.tow.addrV then d.tow.addr else 0x7FF

/-! ### Frames (R415 to R420) -/

/-- The class of a frame type (R420). -/
def frameClass (type : Nat) : Nat :=
  if type = 0xB then 0 else if type = 0xD then 3 else if type = 4 then 4
  else if type ∈ [7, 8, 9, 0xA, 0xE, 0xF] then 1 else 2

/-- What a frame takes of a queue: its header and its payload. -/
def frameSize (f : Frame) : Nat := 16 + f.pay.length

/-- The header as four words, least significant byte first (R415, R416), with a value of LEN. -/
def headerWith (len : Nat) (f : Frame) : List Nat :=
  [packBits [(28, 4, f.type), (27, 1, b2n f.last), (26, 1, b2n f.timed), (25, 1, b2n f.lock), (11, 11, f.dst), (0, 11, f.src)],
   packBits [(16, 16, f.epoch), (0, 16, f.seq)], packBits [(21, 11, f.hops), (0, 9, len)], f.arg % 2 ^ 32]

/-- The header of a frame that the device sends. -/
def headerWords (f : Frame) : List Nat := headerWith f.pay.length f

/-- The CRC-32 over the header and the payload (R12, R415). -/
def frameCrc (len : Nat) (f : Frame) : Nat := crc32 ((headerWith len f).flatMap (leBytes 4) ++ f.pay)

/-- What goes on the line between SOF and EOF: header, payload, CRC-32, each least significant byte first (R12, R415). A frame
that a device changes as it forwards it has its CRC afresh (R417). -/
def lineBytes (f : Frame) : List Nat :=
  (headerWords f).flatMap (leBytes 4) ++ f.pay ++ leBytes 4 (frameCrc f.pay.length f)

/-- The received frame of a type. -/
def rxFrame (type : Nat) (f : RxFrame) : Frame :=
  { type := type, last := f.last, timed := f.timed, lock := f.lock, dst := f.dst, src := f.src, epoch := f.epoch,
    seq := f.seq, hops := f.hops, arg := f.arg.toNat, pay := f.pay.map (· % 256) }

/-- The CRC that arrived with a frame is that of its header and payload (R415, R417). -/
def crcGood (type : Nat) (f : RxFrame) : Bool := f.crc.toNat == frameCrc f.len (rxFrame type f)

/-- The frame is fit to be acted on (R417). -/
def frameGood (type : Nat) (f : RxFrame) : Bool :=
  crcGood type f && !f.aborted && decide (f.len % 4 = 0 ∧ f.len ≤ 256 ∧ f.len = f.pay.length ∧ f.dst.val ≠ 0x7FE ∧ f.src.val ≠ 0x7FE)

/-- Put `n` bytes into a byte list at `i`. -/
def putBytes (bs : List Nat) (i : Nat) (new : List Nat) : List Nat :=
  (List.range bs.length).map fun k => if i ≤ k ∧ k < i + new.length then new.getD (k - i) 0 else bs.getD k 0

/-- What a port's transmitter does now between frames (R413): a training burst lasts 1 ms, a burst of 64 IDLE sets 1.024 µs (R412), and the
line rests after it. -/
def lineNow (d : Dev) (dn : Bool) : LineSt :=
  let p := towPort d dn
  if (p.line = .training ∧ p.trainAt + 983040 ≤ coreNow d) ∨ (p.line = .burst ∧ p.trainAt + 1007 ≤ coreNow d) then .static else p.line

/-- IDLE sets ahead of a frame that goes on a port's line now: 16 after a silence (R413). -/
def leadSets (d : Dev) (dn : Bool) : Nat :=
  if lineNow d dn = .static && !d.flag TOW_PORT_CFG.IDLE_FILL (portNo dn) then 16 else 0

/-- The Tow time at which the SOF of a frame leaves that goes on the line now: two code groups of 8 ns to an IDLE set (R412), to the nearest
core cycle. -/
def sofTime (d : Dev) (dn : Bool) : Nat := towNow d + (leadSets d dn * 16 * 98304 + 50000) / 100000

/-- The stamps the hardware inserts as a frame leaves (R443, R444): the Tow time of a SYNC with LOCK and HOPS, t1 of a
DELAY request, t3 of a DELAY response. -/
def stamped (d : Dev) (at_ : Nat) (f : Frame) : Frame :=
  let now := leBytes 8 at_
  if f.type = 0xE then { f with pay := now, lock := towLocked d, hops := d.tow.hops }
  else if f.type = 0xF then { f with pay := if f.pay.length = 8 then now else putBytes f.pay 16 now }
  else f

/-- The optical module squelches while the line is static, and the first frame after the silence is lost (R413, R490). -/
def moduleLoses (dn : Bool) (d : Dev) : Bool :=
  bitOf d.boot.straps (1 + portNo dn) && lineNow d dn = .static && !d.flag TOW_PORT_CFG.IDLE_FILL (portNo dn)

/-- A frame goes on the line. -/
def onLine (dn : Bool) (q : QFrame) (d : Dev) : Dev :=
  let f := stamped d (sofTime d dn) q.f
  let d1 := modPort dn (fun p => { p with
    sent := some f, busy := true, mbx := q.mbx, cut := false, lost := moduleLoses dn d, lead := leadSets d dn, line := .idle }) d
  if f.type = 0xF ∧ f.pay.length = 8 ∧ !dn then d1.modTow fun t => { t with t1 := some (sofTime d dn) } else d1

/-- The frame to send next: lowest class; within a class forwarded frames before own ones; older first (R419). -/
def nextFrame : List QFrame → Option QFrame
  | [] => none
  | q :: l => match nextFrame l with
    | none => some q
    | some r =>
      let key (x : QFrame) : Nat := 2 * frameClass x.f.type + b2n x.own
      if key r < key q then some r else some q

/-- Remove the first queue entry equal to a frame. -/
def dropFirst (q : QFrame) : List QFrame → List QFrame
  | [] => []
  | x :: l => if x = q then l else x :: dropFirst q l

/-- An idle UP port sends the frame whose turn it is. -/
def portKick (dn : Bool) (d : Dev) : Dev :=
  let p := towPort d dn
  if p.busy ∨ p.link ≠ .up then d
  else match nextFrame p.queue with
    | none => d
    | some q => onLine dn q (modPort dn (fun p => { p with queue := dropFirst q p.queue }) d)

/-- The frame that a full queue discards: the newest of the highest class present, never of class 0. -/
def dropPick : List QFrame → Option QFrame
  | [] => none
  | q :: l => match dropPick l with
    | none => if frameClass q.f.type = 0 then none else some q
    | some r => if frameClass r.f.type < frameClass q.f.type then some q else some r

/-- Remove the last queue entry equal to a frame. -/
def dropLast (q : QFrame) (l : List QFrame) : List QFrame := (dropFirst q l.reverse).reverse

/-- Discard frames until the queue fits into 64 KiB (R419). The fuel bounds the discards. -/
def queueFit (e : Env) (dn : Bool) : Nat → Dev → Dev
  | 0, d => d
  | n + 1, d =>
    let l := (towPort d dn).queue
    if l.foldl (fun k q => k + frameSize q.f) 0 ≤ 65536 then d
    else match dropPick l with
      | none => d
      | some q =>
        let d1 := modPort dn (fun p => { p with queue := dropLast q p.queue }) d
        queueFit e dn n (report e (d1.modTow fun t => { t with drop := satN (t.drop + 1) 0xFF }) Ev.TOW_DROP noInst q.f.src)

/-- Queue a frame on a port. The tail discards what would go on TOW_DN, the head has no use of TOW_UP (R411, R418). -/
def enqueue (e : Env) (dn : Bool) (q : QFrame) (d : Dev) : Dev :=
  if (dn && isTail d) || (!dn && isHead d) then d
  else portKick dn (queueFit e dn 64 (modPort dn (fun p => { p with queue := p.queue ++ [q] }) d))

/-- Forward a frame: HOPS goes up (R416). -/
def forward (e : Env) (dn : Bool) (f : Frame) (d : Dev) : Dev := enqueue e dn ⟨{ f with hops := (f.hops + 1) % 2048 }, false, false⟩ d

/-- Send a frame of the device's own: SRC, EPOCH and SEQ are the device's (R416, R418). -/
def sendOwn (e : Env) (dn : Bool) (f : Frame) (d : Dev) : Dev :=
  let g := { f with src := ownAddr d, seq := d.tow.seq }
  enqueue e dn ⟨g, true, false⟩ (d.modTow fun t => { t with seq := (t.seq + 1) % 65536 })

/-- A frame addressed to the head, with the device's epoch. -/
def sendUp (e : Env) (type arg : Nat) (pay : List Nat) (d : Dev) : Dev :=
  sendOwn e false { type := type, dst := 0, epoch := if d.tow.addrV then d.tow.epoch else 0, arg := arg, pay := pay } d

/-- The answer to a WRITE, READ or BULK (R434). -/
def respond (e : Env) (f : Frame) (arg : Nat) (pay : List Nat) (d : Dev) : Dev :=
  enqueue e false ⟨{ type := 3, dst := 0, src := ownAddr d, epoch := d.tow.epoch, seq := f.seq, arg := arg, pay := pay }, true, false⟩ d

/-- The end of the frame on the line (R419). -/
def frameEnd (dn : Bool) (d : Dev) : Dev := portKick dn (modPort dn (fun p => { p with busy := false, mbx := false }) d)

/-! ### Links (R413, R414) -/

/-- TOW_TIME_LOST is live while LOCKED = 0 after a first lock (R445, R447). DEDUCED (log 229): the address that AUX holds for a fault of the
device itself or of its ports is its own. -/
def towLost (e : Env) (d : Dev) : Dev :=
  if d.tow.wasLocked && !towLocked d then raiseLive e d Ev.TOW_TIME_LOST noInst (ownAddr d) else clearLive d Ev.TOW_TIME_LOST

/-- LOCKED clears, and Tow time runs on the device's own reference: no correction goes on (R445). -/
def towUnlock (e : Env) (d : Dev) : Dev := towLost e (d.modTow fun t => { t with locked := isHead d, okRun := 0, slew := 0 })

/-- A port falls from UP (R413, R414). What is queued for a TOW_DN that is no longer UP is discarded (R418). -/
def portDown (e : Env) (dn : Bool) (d : Dev) : Dev :=
  let p := towPort d dn
  let d1 := modPort dn (fun p => { p with link := .down, busy := false, mbx := false, line := .static
                                          queue := if dn then [] else p.queue }) d
  if p.link ≠ .up then d1
  else
    let d2 := modPort dn (fun p => { p with downCnt := satN (p.downCnt + 1) 0xFF }) d1
    let d3 := raiseLive e d2 Ev.TOW_LINK_DOWN (portNo dn) (ownAddr d)
    if dn then d3 else towUnlock e d3

/-- A DOWN port aligns on commas; the head leaves its TOW_UP unused (R411). -/
def portTraining (dn : Bool) (d : Dev) : Dev :=
  if (towPort d dn).link = .down ∧ d.flag TOW_PORT_CFG.EN (portNo dn) ∧ (dn ∨ !isHead d) then modPort dn (fun p => { p with link := .training }) d else d

/-- A port that is not UP sends IDLE for 1 ms in every 100 ms, unless QUIET. -/
def trainingBurst (dn : Bool) (d : Dev) : Dev :=
  if (towPort d dn).link ≠ .up ∧ d.flag TOW_PORT_CFG.EN (portNo dn) ∧ !d.flag TOW_PORT_CFG.QUIET (portNo dn) ∧ (dn ∨ !isHead d) then
    modPort dn (fun p => { p with line := .training, trainAt := coreNow d }) d
  else d

/-- An UP port that is given IDLE_FILL sends IDLE from then on (R413). -/
def lineFill (dn : Bool) (d : Dev) : Dev :=
  let p := towPort d dn
  if p.link = .up ∧ lineNow d dn = .static ∧ d.flag TOW_PORT_CFG.IDLE_FILL (portNo dn) then modPort dn (fun p => { p with line := .idle }) d else d

/-- An UP port without IDLE_FILL and without a frame holds its line static, and every 100 µs of the silence it sends a burst of IDLE
sets (R413). -/
def lineRests (static : Bool) (dn : Bool) (d : Dev) : Dev :=
  let p := towPort d dn
  if p.link = .up ∧ !p.busy ∧ !d.flag TOW_PORT_CFG.IDLE_FILL (portNo dn) then
    modPort dn (fun p =>
      if static then { p with line := .static }
      else if lineNow d dn = .static then { p with line := .burst, trainAt := coreNow d } else p) d
  else d

/-! ### Heartbeats (R424) -/

/-- The 16 bytes of a HEARTBEAT. -/
def heartbeatBytes (e : Env) (d : Dev) : List Nat :=
  leBytes 8 e.uid ++ [d.tow.st.code,
    packBits [(0, 1, b2n (pairGate d)), (1, 1, b2n d.tow.tok.hold), (2, 1, b2n d.flt.aliveRun), (3, 1, b2n (towLocked d))]] ++
  leBytes 2 ((ptlStatWord d).toNat / 65536) ++ leBytes 4 (fltLiveWord d)

/-- Send a HEARTBEAT; from an unaddressed device it is a HELLO (R421, R424). -/
def sendHeartbeat (e : Env) (d : Dev) : Dev :=
  sendUp e 5 (d.get TOW_HB_CFG.PER) (heartbeatBytes e d) (d.modTow fun t => { t with beatAt := towNow d })

/-- How many of the instants n·P + a·P / 2,048 of the device's own address lie at or before a Tow time (R424); a millisecond of P has 983,040
cycles. -/
def beatsBy (d : Dev) (t : Nat) : Int := ((t : Int) - d.tow.addr * d.get TOW_HB_CFG.PER * 480) / (d.get TOW_HB_CFG.PER * 983040 : Nat)

/-- Tow time has passed such an instant since the last HEARTBEAT. -/
def beatPassed (d : Dev) : Bool := decide (beatsBy d d.tow.beatAt < beatsBy d (towNow d))

/-! ### The bench (R426, R427) -/

/-- The device enters BENCH. -/
def enterBench (e : Env) (loseAddr : Bool) (d : Dev) : Dev :=
  let d1 := tokenRelease d
  let d2 := d1.modTow fun t =>
    { t with st := .bench, addrV := t.addrV && !loseAddr, addr := if loseAddr then 0 else t.addr
             epoch := if loseAddr then 0 else t.epoch }
  let d3 := holdPins .bench (fun _ => true) d2
  let d4 := unwindWhere (fun _ => true) d3
  raiseLive e (bdacCauseAll .bench (fun _ => true) d4) Ev.TOW_BENCHED noInst (ownAddr d)

/-- The device leaves BENCH: a PROMOTE names it (R428). -/
def leaveBench (d : Dev) : Dev :=
  let d1 := d.modTow fun t => { t with st := .addressed, tok := { t.tok with allowed := true } }
  let d2 := releasePins .bench (fun _ => true) d1
  clearLive (bdacUncauseAll .bench (fun _ => true) d2) Ev.TOW_BENCHED

/-! ### The epoch table (R425, R426) -/

/-- The entry of an address; 0 is unknown. -/
def epochOf (d : Dev) (a : Nat) : Nat := tget (fun _ => 0) d.tow.table a

/-- Fill an entry. -/
def setEpochOf (a ep : Nat) (d : Dev) : Dev := d.modTow fun t => { t with table := tset (fun _ => 0) t.table a ep }

/-- An EPOCH or PROMOTE frame gives the device's own address another epoch (R426). -/
def staleCheckOwn (e : Env) (a ep : Nat) (d : Dev) : Dev :=
  if d.tow.addrV ∧ d.tow.addr = a ∧ ep ≠ 0 ∧ d.tow.epoch ≠ ep then enterBench e true d else d

/-- 10 ms in core cycles. -/
def tenMs : Nat := 9830400

/-- A fenced frame (R425): counted and recorded, and a BENCH goes back, at most once in 10 ms per address and epoch. -/
def fence (e : Env) (f : Frame) (d : Dev) : Dev :=
  let d1 := report e (d.modTow fun t => { t with fenced := satN (t.fenced + 1) 0xFF }) Ev.TOW_FENCED noInst f.src
  let now := coreNow d
  if d.tow.benched.any fun p => p.1 = f.src && p.2.1 = f.epoch && decide (now < p.2.2 + tenMs) then d1
  else
    let kept := d.tow.benched.filter fun p => decide (now < p.2.2 + tenMs) && !(p.1 = f.src && p.2.1 = f.epoch)
    sendOwn e true { type := 0xA, dst := f.src, epoch := f.epoch } (d1.modTow fun t => { t with benched := kept ++ [(f.src, f.epoch, now)] })

/-- The fencing check of a HEARTBEAT, EVENT or RESP on TOW_DN. -/
def isFenced (d : Dev) (f : Frame) : Bool :=
  decide (f.type = 3 ∨ f.type = 5 ∨ f.type = 6) && decide (f.src ≠ 0x7FF) && epochOf d f.src != 0 && epochOf d f.src != f.epoch

/-! ### The head (R422, R423, R428) -/

/-- An epoch of the head's counter, which skips 0 (R423). -/
def newEpoch (d : Dev) : Dev × Nat :=
  (d.modTow fun t => { t with epochCtr := if t.epochCtr + 1 < 65536 then t.epochCtr + 1 else 1 }, d.tow.epochCtr)

/-- The head sends a frame on TOW_DN; what an EPOCH or PROMOTE says enters its own table too (R418, R425). -/
def headSend (e : Env) (f : Frame) (d : Dev) : Dev :=
  let own (d : Dev) : Dev :=
    if f.type = 8 then forN (f.pay.length / 2) (fun k d => setEpochOf (f.arg + k) (leAt f.pay (2 * k) 2) d) d
    else if f.type = 9 then setEpochOf (leAt f.pay 4 2) (leAt f.pay 6 2) (setEpochOf (leAt f.pay 0 2) 0 d)
    else d
  sendOwn e true f (own d)

/-- A book entry in an ENUM: UID, address, epoch, zeros (R422). -/
def BookEntry.bytes (b : BookEntry) : List Nat := leBytes 8 b.uid ++ leBytes 2 b.addr ++ leBytes 2 b.epoch ++ [0, 0, 0, 0]

/-- The head runs an enumeration (R422): up to 16 book entries, that of the HELLO's sender first. -/
def enumerate (e : Env) (hello : Option Nat) (d : Dev) : Dev :=
  if !isHead d then d
  else
    let (d1, ep) := newEpoch d
    let mine := d.tow.book.filter fun b => some b.uid = hello
    let rest := d.tow.book.filter fun b => ¬ some b.uid = hello
    headSend e { type := 7, dst := 0x7FF, epoch := ep, arg := d.tow.nextFree
                 pay := ((mine ++ rest).take 16).flatMap BookEntry.bytes } d1

/-- The head broadcasts EPOCH frames that cover every assigned address (R423). -/
def epochBroadcast (e : Env) (d : Dev) : Dev :=
  if !isHead d then d
  else
    let top := d.tow.book.foldl (fun m b => max m b.addr) 0
    forN ((top + 127) / 128) (fun k d =>
      let first := 1 + 128 * k
      headSend e { type := 8, dst := 0x7FF, arg := first
                   pay := (List.range 128).flatMap fun j =>
                     leBytes 2 (((d.tow.book.find? fun b => b.addr = first + j).map (·.epoch)).getD 0) } d) d

/-- The head promotes a spare to a target (R428): PROMOTE, the book's exchange, EPOCH frames. -/
def promote (e : Env) (spare target : Nat) (d : Dev) : Dev :=
  if !isHead d then d
  else
    let (d1, ep) := newEpoch d
    let spEp := ((d.tow.book.find? fun b => b.addr = spare).map (·.epoch)).getD 0
    let d2 := headSend e { type := 9, dst := 0x7FF, pay := leBytes 2 spare ++ leBytes 2 spEp ++ leBytes 2 target ++ leBytes 2 ep } d1
    let swap (b : BookEntry) : BookEntry :=
      if b.addr = spare then { b with addr := target, epoch := ep }
      else if b.addr = target then { b with addr := spare, epoch := spEp } else b
    epochBroadcast e (d2.modTow fun t => { t with book := t.book.map swap })

/-- TOW_DEAD is live while the head holds any dead declaration. -/
def deadLive (e : Env) (a : Nat) (d : Dev) : Dev :=
  if d.tow.dead.isEmpty then clearLive d Ev.TOW_DEAD else raiseLive e d Ev.TOW_DEAD noInst a

/-- The head keeps its epoch counter above an epoch it sees (R423). -/
def seeEpoch (ep : Nat) (d : Dev) : Dev :=
  d.modTow fun t => { t with epochCtr := if ep < t.epochCtr then t.epochCtr else if ep + 1 < 65536 then ep + 1 else 1 }

/-- A HEARTBEAT reaches the head (R423, R424): book, dead bit; a HELLO starts an enumeration (R422). -/
def headHeartbeat (e : Env) (f : Frame) (d : Dev) : Dev :=
  let uid := leAt f.pay 0 8
  if f.src = 0x7FF then enumerate e (some uid) d
  else
    let b : BookEntry := { uid := uid, addr := f.src, epoch := f.epoch, per := f.arg, seen := towNow d, state := leAt f.pay 8 1 }
    let d1 := d.modTow fun t => { t with
      book := (t.book.filter fun x => x.uid ≠ uid ∧ x.addr ≠ f.src) ++ [b]
      nextFree := max t.nextFree (f.src + 1) }
    if f.src ∈ d1.tow.dead then
      let d2 := d1.modTow fun t => { t with dead := sdel t.dead f.src }
      if d2.tow.dead.isEmpty then clearLive d2 Ev.TOW_DEAD else d2
    else d1

/-- Tow time that an address may stay silent, 3 × P + 2 ms (R424). -/
def deadAfter (b : BookEntry) : Nat := (3 * b.per + 2) * 983040

/-- The head declares an address dead (R424), and promotes the spare of an entry with EN and AUTO whose last HEARTBEAT showed
BENCH (R428). -/
def deadDeclare (e : Env) (a : Nat) (d : Dev) : Dev :=
  match (if isHead d then d.tow.book.find? fun b => b.addr = a else none) with
  | none => d
  | some b =>
    if a ∈ d.tow.dead ∨ (towNow d : Int) < b.seen + deadAfter b then d
    else
      let d1 := deadLive e a (d.modTow fun t => { t with dead := t.dead ++ [a] })
      let fits (j : Nat) : Bool :=
        d.flag TOW_HEAD_SPARE.EN j && d.flag TOW_HEAD_SPARE.AUTO j && d.get TOW_HEAD_SPARE.ACTIVE j == a &&
          (d.tow.book.any fun x => x.addr = d.get TOW_HEAD_SPARE.SPARE j && x.state = TowSt.bench.code)
      match (List.range 32).find? fits with
      | some j => promote e (d.get TOW_HEAD_SPARE.SPARE j) a d1
      | none => d1

/-- A frame addressed to 0 enters the mailbox, except HEARTBEAT, SYNC and DELAY (TOW_HEAD_RX). -/
def mailboxIn (f : Frame) (d : Dev) : Dev :=
  if f.dst ≠ 0 ∨ f.type ∈ [5, 0xE, 0xF] then d
  else d.modTow fun t =>
    if t.rx.length < 64 then { t with rx := t.rx ++ [f] } else { t with rxLost := satN (t.rxLost + 1) 0xFF }

/-- The frame that TOW_HEAD_TX spells, with SRC and HOPS 0 (TOW_HEAD_MBX.SEND). -/
def mailboxFrame (d : Dev) : Frame :=
  let w (k : Nat) : Nat := (d.reg .TOW_HEAD_TX k).toNat
  let n := min (bitsOf (w 2) 0 9) 256
  { type := bitsOf (w 0) 28 4, last := bitOf (w 0) 27, timed := bitOf (w 0) 26, lock := bitOf (w 0) 25, dst := bitsOf (w 0) 11 11
    src := 0, epoch := bitsOf (w 1) 16 16, seq := bitsOf (w 1) 0 16, hops := 0, arg := w 3
    pay := ((List.range 64).flatMap fun k => leBytes 4 (w (4 + k))).take n }

/-- TOW_HEAD_MBX.SEND. -/
def mailboxSend (e : Env) (d : Dev) : Dev := enqueue e true ⟨mailboxFrame d, true, true⟩ d

/-- TOW_HEAD_MBX.POP. -/
def mailboxPop (d : Dev) : Dev := d.modTow fun t => { t with rx := t.rx.drop 1 }

/-- A SEND is in progress. -/
def mailboxBusy (d : Dev) : Bool := d.tow.dn.mbx || d.tow.dn.queue.any (·.mbx)

/-- A port has received 64 valid code groups, 8 IDLE sets among them (R413, R414); the head enumerates (R422). -/
def portUp (e : Env) (dn : Bool) (d : Dev) : Dev :=
  let p := towPort d dn
  if p.link = .up ∨ !d.flag TOW_PORT_CFG.EN (portNo dn) ∨ (!dn && isHead d) then d
  else
    let d1 := clearLive (modPort dn (fun p => { p with link := .up, busy := false, mbx := false, line := .idle }) d) Ev.TOW_LINK_DOWN (portNo dn)
    let d2 := if dn then enumerate e none (report e d1 Ev.TOW_LINK_UP 1 (ownAddr d)) else d1
    portKick dn d2

/-! ### Reception (R417, R418) -/

/-- What a received frame is to the device. -/
inductive Got where
  /-- Discarded, or not received at all. -/
  | drop
  /-- To be acted on, with this frame; forwarding is already done where R418 asks for it. -/
  | act (f : Frame)
deriving DecidableEq, Repr

/-- A frame that R417 discards: a CRC that fails is counted. Where its forwarding has begun, after a word 2 that showed nothing wrong, and its CRC
then fails or it ends in ABORT, the outgoing frame ends in ABORT. -/
def badFrame (dn : Bool) (rf : RxFrame) (f : Frame) (good : Bool) (d : Dev) : Dev :=
  let d1 := if !good && !rf.aborted then modPort dn (fun p => { p with crcErr := satN (p.crcErr + 1) 0xFFFF }) d else d
  let begun : Bool := decide (f.dst ≠ 0x7FE ∧ f.src ≠ 0x7FE ∧ rf.len % 4 = 0 ∧ rf.len ≤ 256) && !(dn && f.type == 0xB) && (!good || rf.aborted)
  let out := !dn
  let linkLocal : Bool := decide (f.type = 0xE ∨ f.type = 0xF)
  let mine : Bool := !dn && d.tow.addrV && f.dst == d.tow.addr && f.epoch == d.tow.epoch
  let p := towPort d out
  if !begun || linkLocal || mine || (dn && isHead d) || (dn && isFenced d f) || p.busy || p.link ≠ .up || !p.queue.isEmpty then d1
  else
    modPort out (fun p => { p with
      sent := some { f with hops := (f.hops + 1) % 2048 }, cut := true, lost := moduleLoses out d1, lead := leadSets d1 out, line := .idle }) d1

/-- A port receives frames. -/
def portOn (d : Dev) (dn : Bool) : Bool := (towPort d dn).link = .up && d.flag TOW_PORT_CFG.EN (portNo dn) && (dn || !isHead d)

/-- The types an unaddressed device consumes from TOW_UP, link-local ones apart (R421). -/
def unaddressedTakes (type : Nat) : Bool := decide (type = 7 ∨ type = 0xB)

/-- A received frame, as R417 and R418 sort it: link-local frames and frames for the head go to the device; on TOW_UP a frame
for the device with its epoch is consumed, a broadcast acted on and forwarded, any other forwarded; on TOW_DN frames pass
the fencing check and are forwarded; the head sees their epochs, fenced or not (R423). ENUM and GATHER change as they pass, and their own handling forwards them. -/
def receive (e : Env) (dn : Bool) (type : Nat) (rf : RxFrame) (d : Dev) : Dev × Got :=
  let f := rxFrame type rf
  if !portOn d dn then (d, .drop)
  else if !frameGood type rf then (badFrame dn rf f (crcGood type rf) d, .drop)
  else if type = 0xE ∨ type = 0xF then (d, .act f)
  else if dn then
    let d := if isHead d && (type == 3 || type == 5 || type == 6) then seeEpoch f.epoch d else d
    if isFenced d f then (fence e f d, .drop)
    else if type = 0xB then (d, .drop)
    else if isHead d then (mailboxIn f d, .act f)
    else if type = 0xD then (d, .act f)
    else (forward e false f d, .drop)
  else if !d.tow.addrV ∧ !unaddressedTakes type then (forward e true f d, .drop)
  else if f.dst = 0x7FF then (if type = 7 then d else forward e true f d, .act f)
  else if d.tow.addrV ∧ f.dst = d.tow.addr then
    if f.epoch = d.tow.epoch ∨ type = 0xB then (d, .act f)
    else (forward e true f (d.modTow fun t => { t with epochRej := satN (t.epochRej + 1) 0xFF }), .drop)
  else (forward e true f d, .drop)

/-- A frame that only passes: RESP and EVENT (R418), or waits in the head's mailbox. -/
def towPass (e : Env) (dn : Bool) (type : Nat) (f : RxFrame) (d : Dev) : Dev := (receive e dn type f d).1

/-- An EVENT: a device's TOW_LINK_UP starts an enumeration at the head (R414, R422). The payload's bytes 14 and 15 are the
event code of the record (R301, R438). -/
def towEventIn (e : Env) (dn : Bool) (f : RxFrame) (d : Dev) : Dev :=
  match receive e dn 6 f d with
  | (d1, .act g) => if isHead d1 ∧ leAt g.pay 14 2 = Ev.TOW_LINK_UP then enumerate e none d1 else d1
  | (d1, .drop) => d1

/-- A HEARTBEAT (R424, R425). -/
def towHeartbeat (e : Env) (dn : Bool) (f : RxFrame) (d : Dev) : Dev :=
  match receive e dn 5 f d with
  | (d1, .act g) => if isHead d1 then headHeartbeat e g d1 else d1
  | (d1, .drop) => d1

/-- The device takes an address (R422): it keeps BENCH, sends a HEARTBEAT, and TOW_NOADDR clears. -/
def takeAddr (e : Env) (a ep : Nat) (d : Dev) : Dev :=
  let d1 := d.modTow fun t =>
    { t with addrV := true, addr := a, epoch := ep, st := if t.st = .bench then .bench else .addressed, noAddr := false }
  sendHeartbeat e (clearLive d1 Ev.TOW_NOADDR)

/-- Forward an ENUM, or return it upstream from the tail (R422). -/
def enumOn (e : Env) (f : Frame) (d : Dev) : Dev :=
  if isTail d then
    enqueue e false ⟨{ f with last := true, dst := 0, src := ownAddr d, hops := (f.hops + 1) % 2048 }, true, false⟩ d
  else forward e true f d

/-- An ENUM (R422): the device takes its book entry's address, or ARG and the header's EPOCH; none is left at 0x7FE. At the
head the returned frame gives the next free address, and EPOCH frames follow (R423). -/
def towEnum (e : Env) (dn : Bool) (rf : RxFrame) (d : Dev) : Dev :=
  match receive e dn 7 rf d with
  | (d1, .drop) => d1
  | (d1, .act f) =>
    if isHead d1 then
      if f.last then epochBroadcast e (d1.modTow fun t => { t with nextFree := max t.nextFree (f.arg % 2048) }) else d1
    else if d1.tow.addrV then enumOn e f d1
    else
      let n := f.pay.length / 16
      match (List.range n).find? fun k => leAt f.pay (16 * k) 8 == e.uid with
      | some k => enumOn e f (takeAddr e (leAt f.pay (16 * k + 8) 2 % 2048) (leAt f.pay (16 * k + 10) 2) d1)
      | none =>
        if 0x7FE ≤ f.arg then enumOn e f (raiseLive e (d1.modTow fun t => { t with noAddr := true }) Ev.TOW_NOADDR noInst (ownAddr d1))
        else enumOn e { f with arg := f.arg + 1 } (takeAddr e f.arg f.epoch d1)

/-- An EPOCH frame (R425, R426). -/
def towEpoch (e : Env) (dn : Bool) (rf : RxFrame) (d : Dev) : Dev :=
  match receive e dn 8 rf d with
  | (d1, .drop) => d1
  | (d1, .act f) =>
    if isHead d1 then d1
    else
      let n := f.pay.length / 2
      let d2 := forN n (fun k d => setEpochOf (f.arg + k) (leAt f.pay (2 * k) 2) d) d1
      forN n (fun k d => staleCheckOwn e (f.arg + k) (leAt f.pay (2 * k) 2) d) d2

/-- A PROMOTE (R426, R428). -/
def towPromote (e : Env) (dn : Bool) (rf : RxFrame) (d : Dev) : Dev :=
  match receive e dn 9 rf d with
  | (d1, .drop) => d1
  | (d1, .act f) =>
    if isHead d1 then d1
    else
      let (sa, se, ta, te) := (leAt f.pay 0 2, leAt f.pay 2 2, leAt f.pay 4 2, leAt f.pay 6 2)
      let d2 := setEpochOf ta te (setEpochOf sa 0 d1)
      if d1.tow.addrV ∧ d1.tow.addr = sa ∧ d1.tow.epoch = se then
        sendHeartbeat e (leaveBench (d2.modTow fun t => { t with addr := ta, epoch := te }))
      else staleCheckOwn e ta te d2

/-- A BENCH frame (R427): from the head it leaves the address in place. -/
def towBench (e : Env) (dn : Bool) (rf : RxFrame) (d : Dev) : Dev :=
  match receive e dn 0xA rf d with
  | (d1, .act f) =>
    if !isHead d1 ∧ f.dst = d1.tow.addr ∧ f.epoch = d1.tow.epoch then enterBench e (f.src != 0) d1 else d1
  | (d1, .drop) => d1

/-- A NETSTOP (R441). -/
def towNetstop (e : Env) (dn : Bool) (rf : RxFrame) (d : Dev) : Dev :=
  match receive e dn 0xB rf d with
  | (d1, .act _) => stopFor e .tow d1
  | (d1, .drop) => d1

/-! ### Gather (R439, R440) -/

/-- A GATHER_REQ. -/
def towGatherReq (e : Env) (dn : Bool) (rf : RxFrame) (d : Dev) : Dev :=
  match receive e dn 0xC rf d with
  | (d1, .drop) => d1
  | (d1, .act f) =>
    if isHead d1 ∨ !d1.tow.addrV then d1
    else
      let g : Gather := { id := f.arg % 65536, at_ := leAt f.pay 0 8, reg0 := leAt f.pay 8 4, reg1 := leAt f.pay 12 4
                          nblk := leAt f.pay 16 2, gap := leAt f.pay 18 2, late := decide (leAt f.pay 0 8 < towNow d1) }
      d1.modTow fun t => { t with gather := some g }

/-- The device's result enters its slot of a GATHER frame. -/
def gatherSlot (d : Dev) (f : Frame) : Frame :=
  match d.tow.gather with
  | some g =>
    match g.result with
    | some (a, b) =>
      let k := d.tow.addr - 1
      if d.tow.addrV ∧ 1 ≤ d.tow.addr ∧ d.tow.addr ≤ 32 * g.nblk ∧ f.epoch = g.id ∧ f.seq = k / 32 then
        { f with pay := putBytes f.pay (8 * (k % 32)) (leBytes 4 a ++ leBytes 4 b), arg := putBits f.arg (k % 32) 1 1 }
      else f
    | none => f
  | none => f

/-- The tail starts the train of GATHER frames. -/
def gatherTrain (e : Env) (d : Dev) : Dev :=
  match d.tow.gather with
  | some g =>
    if g.sent ∨ !isTail d ∨ isHead d ∨ 1000 * towNow d < 1000 * g.at_ + g.gap * 983040 then d
    else
      forN g.nblk (fun b d =>
        enqueue e false ⟨gatherSlot d { type := 0xD, dst := 0, src := ownAddr d, epoch := g.id, seq := b
                                        pay := List.replicate 256 0xFF }, true, false⟩ d)
        (d.modTow fun t => { t with gather := some { g with sent := true } })
  | none => d

/-- A GATHER frame passes. -/
def towGather (e : Env) (dn : Bool) (rf : RxFrame) (d : Dev) : Dev :=
  match receive e dn 0xD rf d with
  | (d1, .act f) => if isHead d1 ∨ !dn then d1 else forward e false (gatherSlot d1 f) d1
  | (d1, .drop) => d1

/-! ### Tow time (R442 to R445) -/

/-- Tow time jumps: LOCKED clears and the step is counted (R445), and a load timer whose time the step has passed loads at it
(R332). The silence of the addresses in the head's book goes on unbroken (R424). -/
def towJump (e : Env) (to_ : Nat) (d : Dev) : Dev :=
  let d1 := { d with clk := { d.clk with tow := (to_ + 2 ^ 64 - d.clk.ofs % 2 ^ 64) % 2 ^ 64, towFrac := 0 } }
  let moved (b : BookEntry) : BookEntry := { b with seen := b.seen + ((to_ : Int) - towNow d) }
  timerLoad (towUnlock e (d1.modTow fun t =>
    { t with stepCnt := satN (t.stepCnt + 1) 0xFF, beatAt := min t.beatAt to_, book := t.book.map moved }))

/-- A Tow time step must wait: a frame-time step is due or waits for the next frame, or frame time has stepped in this frame, where a
second condition that may still fall has to share the instant and the slice sync (R44). -/
def towWaits (d : Dev) : Bool := stepWaits d || d.src.stepped

/-- A Tow time step, with its slice sync (R51, R445). DEDUCED (log 168): while `towWaits` holds it is kept, to be applied together with
the frame-time step or, where none comes, alone once the frame has ended. -/
def towStep (e : Env) (to_ : Nat) (d : Dev) : Dev :=
  if towWaits d then d.modSrc fun s => { s with towPend := some ((to_ : Int) - towNow d) }
  else sliceSync e (towJump e to_ d)

/-- The Tow time step that waited for the frame-time step takes effect with it (R44). -/
def towPended (e : Env) (d : Dev) : Dev :=
  match d.src.towPend with
  | some k => towJump e ((towNow d : Int) + k).toNat (d.modSrc fun s => { s with towPend := none })
  | none => d

/-- The frame-time step that a Tow time step waited for is no longer due: the Tow time step takes effect alone. -/
def towPendAlone (e : Env) (d : Dev) : Dev :=
  if d.src.towPend.isSome && !towWaits d then sliceSync e (towPended e d) else d

/-- Tow time now, with wrapping (64 bits). -/
def towStamp (d : Dev) : Nat := towNow d % 2 ^ 64

/-- ASYM of TOW_UP in 2^-16 core cycles: 0.1 ns at 983.04 MHz. -/
def asymUp (d : Dev) : Int := roundDivAway (d.int TOW_PORT_CFG.ASYM 0 * 98304 * 65536) 1000000

/-- The link delay in 2^-16 core cycles (R444). -/
def linkDelay (d : Dev) : Int :=
  let l := d.tow.delays
  (if l.isEmpty then 0 else roundDivAway (l.foldl (· + ·) 0) l.length) + asymUp d

/-- A SYNC (R443 to R445). -/
def towSync (e : Env) (dn : Bool) (rf : RxFrame) (d : Dev) : Dev :=
  match receive e dn 0xE rf d with
  | (d1, .drop) => d1
  | (d1, .act f) =>
    if dn ∨ isHead d1 then d1
    else if !f.lock then towUnlock e (d1.modTow fun t => { t with hops := f.hops + 1 })
    else
      let ofs16 : Int := 65536 * ((towNow d1 : Int) - (leAt f.pay 0 8 : Nat)) - linkDelay d1
      let d2 := d1.modTow fun t => { t with ofs := ofs16, hops := f.hops + 1 }
      if 65536 * (d1.get TOW_TIME_CFG.STEP_TH : Int) < ofs16.natAbs then
        towStep e ((towNow d2 : Int) - roundDivAway ofs16 65536).toNat d2
      else
        let run := if ofs16.natAbs < 32 * 65536 then satN (d2.tow.okRun + 1) 8 else 0
        towLost e (d2.modTow fun t =>
          { t with slew := -ofs16, okRun := run, locked := t.locked || run == 8, wasLocked := t.wasLocked || run == 8 })

/-- No SYNC within four intervals. -/
def syncTimeout (e : Env) (d : Dev) : Dev := if isHead d then d else towUnlock e d

/-- Tow time at a boundary: the rate is corrected by at most 4 ppm, 0.49152 core cycles a period (R445). -/
def towSlew (d : Dev) : Dev :=
  let s := clampI d.tow.slew (-32212) 32212
  let t : Int := 65536 * (d.clk.tow : Int) + d.clk.towFrac + s
  ({ d with clk := { d.clk with tow := ((t / 65536) % 2 ^ 64).toNat, towFrac := (t % 65536).toNat } }).modTow fun x => { x with slew := x.slew - s }

/-- Send a SYNC on an UP TOW_DN (R443). -/
def syncSend (e : Env) (d : Dev) : Dev :=
  if isTail d then d else sendOwn e true { type := 0xE, dst := 0, pay := List.replicate 8 0 } d

/-- Send a DELAY request on TOW_UP (R444). -/
def delaySend (e : Env) (d : Dev) : Dev :=
  if d.tow.up.link = .up ∧ !isHead d then sendOwn e false { type := 0xF, dst := 0, pay := List.replicate 8 0 } d else d

/-- A DELAY request on TOW_DN is answered with its receive stamp; the send stamp enters as the answer leaves (R444). -/
def towDelayReq (e : Env) (dn : Bool) (rf : RxFrame) (d : Dev) : Dev :=
  match receive e dn 0xF rf d with
  | (d1, .act f) =>
    if dn ∧ f.pay.length = 8 then
      sendOwn e true { type := 0xF, dst := 0, pay := f.pay ++ leBytes 8 (towStamp d1) ++ List.replicate 8 0 } d1
    else d1
  | (d1, .drop) => d1

/-- A DELAY response on TOW_UP gives one measurement (R444). -/
def towDelayResp (e : Env) (dn : Bool) (rf : RxFrame) (d : Dev) : Dev :=
  match receive e dn 0xF rf d with
  | (d1, .act f) =>
    match d1.tow.t1 with
    | some t1 =>
      if dn ∨ f.pay.length ≠ 24 ∨ leAt f.pay 0 8 ≠ t1 % 2 ^ 64 then d1
      else
        let m : Int := (((towStamp d1 : Int) - (t1 : Int)) - ((leAt f.pay 16 8 : Nat) - (leAt f.pay 8 8 : Nat))) * 32768
        d1.modTow fun t => { t with t1 := none, delays := (m :: t.delays).take 8 }
    | none => d1
  | (d1, .drop) => d1

/-- TOW_TIME_SET_GO at the head: a step to the value set (R442). -/
def towTimeSet (e : Env) (d : Dev) : Dev :=
  towStep e ((d.reg .TOW_TIME_SET_HI).toNat * 2 ^ 32 + (d.reg .TOW_TIME_SET_LO).toNat) d

/-! ### The pair token (R429 to R433) -/

/-- Change the token. -/
def modTok (f : Token → Token) (d : Dev) : Dev := d.modTow fun t => { t with tok := f t.tok }

/-- The wait of R431 begins when the device may attempt and PAIR_SENSE reads high, and ends when either is over. DEDUCED (log 230): high
line from before the attempt does not count. -/
def tokenWatch (d : Dev) : Dev :=
  modTok (fun t => { t with since := if tokenWaits d then some (t.since.getD (coreNow d)) else none }) d

/-- T_W of R431 in units of 0.2 core cycles. -/
def tokenWait (e : Env) (d : Dev) : Nat :=
  5 * 983040 + d.get TOW_PAIR_CFG.SIDE * (5 * 491520) + (e.uid % 32) * 49152

/-- T_W has passed. -/
def tokenDue (e : Env) (d : Dev) : Bool :=
  tokenWaits d && match d.tow.tok.since with
    | some t => decide (5 * t + tokenWait e d ≤ 5 * coreNow d)
    | none => false

/-- T_W of high line has passed: the device drives PAIR_TOKEN low (R431). -/
def tokenAcquire (e : Env) (d : Dev) : Dev :=
  if tokenDue e d then modTok (fun t => { t with hold := true, gate := false, acqCnt := satN (t.acqCnt + 1) 0xFF }) d else d

/-- The line has read low for 10 µs: the fault of R433 clears, and the gate of a device that holds the token opens (R431). -/
def tokenGate (d : Dev) : Dev :=
  let t := d.tow.tok
  if !pairEn d ∨ t.line then d
  else
    let d1 := clearLive d Ev.TOW_TOKEN_FAULT
    if t.hold ∧ !t.letting ∧ !benched d then modTok (fun t => { t with gate := true }) d1 else d1

/-- TOW_PAIR_CTL.REL (R432). -/
def tokenRel (d : Dev) : Dev := modTok (fun t => { t with blocked := true }) (tokenRelease d)

/-- 2 µs after the gate has closed the device stops driving. -/
def tokenLet (d : Dev) : Dev :=
  if d.tow.tok.letting then modTok (fun t => { t with hold := false, letting := false }) d else d

/-- PAIR_SENSE reads high for 1 µs while the device drives (R433). -/
def tokenFault (e : Env) (d : Dev) : Dev :=
  if d.tow.tok.hold ∧ d.tow.tok.line then raiseLive e (modTok (fun t => { t with gate := false }) d) Ev.TOW_TOKEN_FAULT noInst (ownAddr d) else d

/-! ### Events (R438) -/

/-- EVENT tokens refill at 100 per second, one every 9,830,400 core cycles, up to 64. -/
def eventRefill (d : Dev) : Dev :=
  let n := (coreNow d - d.tow.tokenAt) / 9830400
  d.modTow fun t => { t with tokens := satN (t.tokens + n) 64
                             tokenAt := if t.tokens + n < 64 then t.tokenAt + n * 9830400 else coreNow d }

/-- Send an EVENT for a new record, if its class and the tokens allow. The head has no TOW_UP to send it on. -/
def sendEvent (e : Env) (r : Record) (d : Dev) : Dev :=
  if isHead d ∨ d.get TOW_HB_CFG.EVT_CLASS = 7 ∨ r.cls.code < d.get TOW_HB_CFG.EVT_CLASS then d
  else
    let d1 := eventRefill d
    if d1.tow.tokens = 0 then d1.modTow fun t => { t with evtLost := satN (t.evtLost + 1) 0xFF }
    else
      let b := r.bytes
      sendUp e 6 0 (b.take 24 ++ sliceBytes b 56 4 ++ [0, 0, 0, 0]) (d1.modTow fun t => { t with tokens := t.tokens - 1 })

end Sys2Proof.Machine
end

