-- ==== Sys2Proof/Machine/Gates.lean ====
section
/-! DEFINITION. The gates before the air joined on a route (R26, R27): what reaches the DACs of a TX chain, and what a period remembers of
its chains. -/
namespace Sys2Proof.Machine

/-- The gates of R26 that act on one slice output: the slice mute, the settle suppression and the Patrol slice mute. -/
def sliceGates (d : Dev) (s : Nat) : Bool :=
  let x := d.slice s
  x.mute ≠ .closed && !x.suppressed && (d.psl s).mutes.isEmpty

/-- The gates of R26 that act on a TX chain: Patrol direction mute, calibration mute, lock and state, pair token and thermal shutdown. A
chain outside its group's TX_MASK is powered down (R57). -/
def chainGates (d : Dev) (c : Nat) : Bool :=
  dirOpen d (txUl c) && calGate d c && lockGate d (c / 4) && bitOf (d.get SYN_GRP_CTL.TX_MASK (c / 4)) (c % 4) && pairGate d && !d.thm.sd

/-- Every gate on the route of a slice to its TX pin is open (R26). -/
def routeOpen (d : Dev) (s : Nat) : Bool := sliceGates d s && chainGates d (effOf d s).sink

/-- The slices whose sink is a TX chain (R23). -/
def sunkIn (d : Dev) (c : Nat) : List Nat := (d.slices.map (·.1)).filter fun s => (effOf d s).sink == c

/-- A sample of a TX chain is active now (R193): a slice that sinks in it has its mute open or ramping. -/
def chainActive (d : Dev) (c : Nat) : Bool := (sunkIn d c).any fun s => (d.slice s).mute ≠ .closed

/-- A slice reaches the DACs of a TX chain now (R26, R27). -/
def chainFed (d : Dev) (c : Nat) : Bool := (sunkIn d c).any (routeOpen d)

/-- What the running period remembers of its chains: reception and delivery of an RX chain (R57, R94); active samples, samples past all
gates, and transmission of a TX chain (R26, R193, R271). -/
def noteGates (d : Dev) : Dev :=
  forN 8 (fun c d =>
    let act := chainActive d c
    (d.modRx c fun x => { x with heard := x.heard || receives d c, fed := x.fed || delivers d c }).modTx c fun x =>
      { x with heard := x.heard || act, fed := x.fed || chainFed d c, sent := x.sent || (act && dirOpen d (txUl c)) }) d

/-- A period begins: its chains have done nothing yet but what they do now. -/
def freshGates (d : Dev) : Dev :=
  noteGates (forN 8 (fun c d =>
    (d.modRx c fun x => { x with heard := false, fed := false }).modTx c fun x => { x with heard := false, fed := false, sent := false }) d)

/-- The canceller's input samples of a block: zeros from a source chain that delivers none (R57, R58, R100). -/
def blockIn (d : Dev) (s : Nat) (inp : List Cpx) : List Cpx := if (d.rxChain (effOf d s).src).fed then inp else []

/-- Its reference samples: zeros from a TX chain that no slice has reached (R27, R166). -/
def blockRefs (d : Dev) (s : Nat) (refs : List (Nat × List Cpx)) : List (Nat × List Cpx) :=
  refs.filter fun p => (d.txChain (refChain (effOf d s) p.1)).fed

end Sys2Proof.Machine
end

