-- ==== Sys2Proof/Machine/Datapath.lean ====
section
/-! DEFINITION. The sample path of a slice and of a TX chain: NCO phases and words (R123, R126), the channel filter (R130), glaze fades
(R159), gain and mute ramps (R133, R136, R189), the delay split (R150), and the sum of R23 behind the gates of R26. -/
namespace Sys2Proof.Machine

/-! ### Translation (R123, R126) -/

/-- Realised minus nominal LO of synthesiser `n` in use, in NCO units. -/
def loError (d : Dev) (n : Nat) : Int := Config.loQuant (d.synth n).freq

/-- The word that translates by the written offset from the nominal LO (R126). DEDUCED (log 188): what the realised LO has too much the
word has too little. -/
def ncoWord (d : Dev) (n w : Nat) : Int := ncoInt w - loError d n

/-- NCO phase, in 2^-32 turns, at core cycle `now`: zero at the boundary at which the word took effect (R123), two chain-rate samples to
a core cycle. -/
def ncoPhase (word : Int) (since now : Nat) : Int := (word * (2 * (now - since) : Nat)) % (2 ^ 32 : Nat)

/-- The phases of a slice's two NCOs now. -/
def rxPhase (d : Dev) (s : Nat) : Int := ncoPhase (ncoWord d (rxSyn ((effOf d s).src / 4)) (effOf d s).rx) (d.slice s).rxAt (coreNow d)
def txPhase (d : Dev) (s : Nat) : Int := ncoPhase (ncoWord d (txSyn ((effOf d s).sink / 4)) (effOf d s).tx) (d.slice s).txAt (coreNow d)

/-! ### The channel filter (R130) and glaze fades (R159) -/

/-- Coefficient `k` of a bank: its code over 2^15. -/
def coefAt (d : Dev) (s : Nat) (bankB : Bool) (k : Nat) : Rat :=
  let w := (d.reg (if bankB then .SLC_COEF_B else .SLC_COEF_A) s (k / 2)).toNat
  (toSigned 16 (bitsOf w (16 * (k % 2)) 16) : Rat) / (2 ^ 15 : Nat)

/-- The taps of a bank: coefficient `k` at distance ±k from the centre. -/
def firTaps (d : Dev) (s : Nat) (bankB : Bool) : List Rat :=
  let len := flenOf d s
  let mid := (len - 1) / 2
  (List.range len).map fun j => coefAt d s bankB (if j < mid then mid - j else j - mid)

/-- The DC gain of a bank: (c0 + 2·Σ ck) / 2^15. -/
def firDc (d : Dev) (s : Nat) (bankB : Bool) : Rat :=
  coefAt d s bankB 0 + 2 * qSum ((List.range ((flenOf d s - 1) / 2)).map fun k => coefAt d s bankB (k + 1))

/-- A filter output from the input samples, latest first. -/
def firOut (taps : List Rat) (xs : List Cpx) : Cpx := cSum ((taps.zip xs).map fun p => cScale p.1 p.2)

/-- Sample `n` of a fade of `len` samples. -/
def fadeMix (n len : Nat) (yFrom yTo : Cpx) : Cpx :=
  let alpha : Rat := (n : Rat) / (len : Rat)
  cAdd (cScale (1 - alpha) yFrom) (cScale alpha yTo)

/-- The filter output of a slice, its fade included: both banks see the same input. -/
def filterOut (d : Dev) (s : Nat) (xs : List Cpx) : Cpx :=
  let g := (d.slice s).gz
  let y (bankB : Bool) : Cpx := firOut (firTaps d s bankB) xs
  match g.fade with
  | some len => fadeMix (fadePos d s) len (y g.live) (y (!g.live))
  | none => y g.live

/-! ### Gains and ramps (R133, R136, R189, R258) -/

/-- An amplitude that ramps linearly over `n` steps, after `k` of them. -/
def rampAmp (was now : Rat) (k n : Nat) : Rat := was + (now - was) * ((min k n : Nat) : Rat) / (n : Rat)

/-- The digital gain of a slice as an amplitude: ramped over the first 16 slice samples after a change (R133). -/
def gainAmp (d : Dev) (s : Nat) : Rat :=
  let x := d.loop s
  rampAmp (amp100 x.outWas) (amp100 x.out) ((coreNow d - x.outAt) / sampleCycles (effOf d s).cls) 16

/-- The composite gain of a TX chain as an amplitude: ramped over 64 chain-rate samples, two to a core cycle (R189). -/
def compAmp (d : Dev) (c : Nat) : Rat :=
  let x := d.loop (192 + c)
  rampAmp (amp100 x.outWas) (amp100 x.out) (2 * (coreNow d - x.outAt)) 64

/-- Core cycles a sample takes from the presence detector through the channel filter, (L − 1)/2 slice samples (R136, R152, R153). -/
def filterDelay (d : Dev) (s : Nat) : Nat := dMeas (effOf d s).cls (flenOf d s) - dPres (effOf d s).cls

/-- The slice mute as an amplitude on the sample that leaves the channel filter now: its decisions are delayed to match the filter
(R136). -/
def muteAmp (d : Dev) (s : Nat) : Rat := ((muteLevel d s (coreNow d - filterDelay d s) : Nat) : Rat) / 32

/-- The gate attenuation of an oscillation onset as an amplitude, once its ramp is complete (R258, R264). -/
def onsetAmp (d : Dev) (s : Nat) : Rat := if (d.psl s).gate then amp100 (-10 * (d.get PTL_CFG.OSC_TRIM : Int)) else 1

/-- The mark of a digital probe run on its slice's output, 1 + a·sin(2π·f_p·t) (R182); t from a boundary, which f_p divides. -/
def probeMark (d : Dev) (s : Nat) : Rat :=
  match d.prb.run with
  | some r =>
    if r.started && !r.dac && r.s == s then
      1 + probeDepth d * ((sinTurn ((d.get CNL_PRB_CFG.FMUL + 1) * 125 * d.clk.ofs) : Int) : Rat) / (sinOne : Rat)
    else 1
  | none => 1

/-- The ramp of a TX chain's codes to zero over the first 256 chain-rate samples of a step that turns it off, two to a core cycle (R60). -/
def offAmp (d : Dev) (c : Nat) : Rat :=
  let x := d.group (c / 4)
  if x.phase = .moving && x.state.transmits && !x.step.transmits then rampAmp 1 0 (2 * (coreNow d - x.stepAt)) 256 else 1

/-! ### Delay (R150) -/

/-- Core cycles of N_lat − MINLAT of a slice. -/
def slackOf (d : Dev) (s : Nat) : Nat := nLat (latOf d s) - minLat (effOf d s).cls (flenOf d s)

/-- The coarse section in slice samples, and the fine section in chain-rate samples, two to a core cycle. -/
def coarseDelay (d : Dev) (s : Nat) : Nat := slackOf d s / sampleCycles (effOf d s).cls
def fineDelay (d : Dev) (s : Nat) : Nat := 2 * (slackOf d s % sampleCycles (effOf d s).cls)

/-! ### The sum of a TX chain (R23, R27) -/

/-- What a slice adds to its TX chain for a filter output `y`: zero while a gate on its route is closed (R27, R182). -/
def sliceOut (d : Dev) (s : Nat) (y : Cpx) : Cpx :=
  if routeOpen d s then cScale (gainAmp d s * muteAmp d s * onsetAmp d s * probeMark d s) y else (0, 0)

/-- The DAC input of a TX chain: the sum over the slices that sink in it, scaled by the composite gain (R23, R60, R189). -/
def chainOut (d : Dev) (c : Nat) (ys : List (Nat × Cpx)) : Cpx :=
  cScale (compAmp d c * offAmp d c) (cSum ((sunkIn d c).map fun s => sliceOut d s ((ys.lookup s).getD (0, 0))))

end Sys2Proof.Machine
end

