-- ==== Sys2Proof/Machine/Crypto.lean ====
section
/-! DEFINITION. SHA-256 of FIPS 180-4 and ECDSA verification over P-256 of FIPS 186-4 (R11). -/
namespace Sys2Proof.Machine

/-! ### SHA-256 -/

/-- The first 64 primes. -/
def shaPrimes : List Nat :=
  [2, 3, 5, 7, 11, 13, 17, 19, 23, 29, 31, 37, 41, 43, 47, 53, 59, 61, 67, 71, 73, 79, 83, 89, 97, 101, 103, 107, 109, 113, 127, 131] ++
  [137, 139, 149, 151, 157, 163, 167, 173, 179, 181, 191, 193, 197, 199, 211, 223, 227, 229, 233, 239, 241, 251, 257, 263, 269, 271, 277,
   281, 283, 293, 307, 311]

/-- The largest `x < 2 ^ n` with `x ^ k ≤ v`, bit by bit from the top. -/
def rootFloor (k v : Nat) : Nat → Nat → Nat
  | 0, x => x
  | n + 1, x => rootFloor k v n (if (x + 2 ^ n) ^ k ≤ v then x + 2 ^ n else x)

/-- The first 32 bits of the fractional parts of the square roots of the first eight primes: the initial hash value. -/
def shaInit : List (BitVec 32) := (shaPrimes.take 8).map fun p => BitVec.ofNat 32 (rootFloor 2 (p * 2 ^ 64) 40 0)

/-- The first 32 bits of the fractional parts of the cube roots of the first 64 primes: the constants K. -/
def shaK : List (BitVec 32) := shaPrimes.map fun p => BitVec.ofNat 32 (rootFloor 3 (p * 2 ^ 96) 40 0)

/-- The functions of FIPS 180-4, 4.1.2. -/
def shaCh (x y z : BitVec 32) : BitVec 32 := (x &&& y) ^^^ (~~~x &&& z)
def shaMaj (x y z : BitVec 32) : BitVec 32 := (x &&& y) ^^^ (x &&& z) ^^^ (y &&& z)
def shaSum0 (x : BitVec 32) : BitVec 32 := x.rotateRight 2 ^^^ x.rotateRight 13 ^^^ x.rotateRight 22
def shaSum1 (x : BitVec 32) : BitVec 32 := x.rotateRight 6 ^^^ x.rotateRight 11 ^^^ x.rotateRight 25
def shaSig0 (x : BitVec 32) : BitVec 32 := x.rotateRight 7 ^^^ x.rotateRight 18 ^^^ (x >>> 3)
def shaSig1 (x : BitVec 32) : BitVec 32 := x.rotateRight 17 ^^^ x.rotateRight 19 ^^^ (x >>> 10)

/-- A number from bytes, most significant first. -/
def beNat (bs : List Nat) : Nat := bs.foldl (fun a b => 256 * a + b % 256) 0

/-- `n` bytes of a number, most significant first. -/
def beBytes (n v : Nat) : List Nat := (List.range n).map fun k => v / 256 ^ (n - 1 - k) % 256

/-- A message padded to whole blocks of 64 bytes: 0x80, zeros, and its length in bits as eight bytes. -/
def shaPad (m : List Nat) : List Nat :=
  m ++ [0x80] ++ List.replicate ((119 - m.length % 64) % 64) 0 ++ beBytes 8 (8 * m.length)

/-- The message schedule, latest word first: `n` words more. -/
def shaExpand : Nat → List (BitVec 32) → List (BitVec 32)
  | 0, w => w
  | n + 1, w => shaExpand n ((shaSig1 (w.getD 1 0) + w.getD 6 0 + shaSig0 (w.getD 14 0) + w.getD 15 0) :: w)

/-- One round on the working variables a to h, with the round's constant and schedule word. -/
def shaRound (v : List (BitVec 32)) (kw : BitVec 32 × BitVec 32) : List (BitVec 32) :=
  match v with
  | [a, b, c, d, e, f, g, h] =>
    let t1 := h + shaSum1 e + shaCh e f g + kw.1 + kw.2
    [t1 + (shaSum0 a + shaMaj a b c), a, b, c, d + t1, e, f, g]
  | _ => v

/-- One block. -/
def shaBlock (h : List (BitVec 32)) (block : List Nat) : List (BitVec 32) :=
  let w16 := (List.range 16).map fun t => BitVec.ofNat 32 (beNat ((block.drop (4 * t)).take 4))
  let w := (shaExpand 48 w16.reverse).reverse
  List.zipWith (· + ·) h ((List.zip shaK w).foldl shaRound h)

/-- The SHA-256 hash of a list of bytes, as bytes (FIPS 180-4, 6.2). -/
def sha256Bytes (m : List Nat) : List Nat :=
  let p := shaPad m
  ((List.range (p.length / 64)).foldl (fun h k => shaBlock h ((p.drop (64 * k)).take 64)) shaInit).flatMap fun x => beBytes 4 x.toNat

/-- The hash as the number that a stored hash reads as: lowest byte first. -/
def sha256 (m : List Nat) : Nat := beNat (sha256Bytes m).reverse

/-! ### P-256 (FIPS 186-4, D.1.2.3) -/

def p256P : Nat := 2 ^ 256 - 2 ^ 224 + 2 ^ 192 + 2 ^ 96 - 1
def p256N : Nat := 0xFFFFFFFF00000000FFFFFFFFFFFFFFFFBCE6FAADA7179E84F3B9CAC2FC632551
def p256B : Nat := 0x5AC635D8AA3A93E7B3EBBD55769886BC651D06B0CC53B0F63BCE3C3E27D2604B
def p256G : Nat × Nat :=
  (0x6B17D1F2E12C4247F8BCE6E563A440F277037D812DEB33A0F4A13945D898C296,
   0x4FE342E2FE1A7F9B8EE7EB4A7C0F9E162BCE33576B315ECECBB6406837BF51F5)

/-- `a ^ e` modulo `m` for an exponent of at most `k` bits, by squaring. -/
def powMod (m : Nat) : Nat → Nat → Nat → Nat
  | 0, _, _ => 1 % m
  | k + 1, a, e => let r := powMod m k (a * a % m) (e / 2); if e % 2 = 1 then a * r % m else r

/-- The inverse modulo a prime. -/
def invMod (m a : Nat) : Nat := powMod m 256 (a % m) (m - 2)

/-- A difference modulo `m`. -/
def subMod (m a b : Nat) : Nat := (a % m + m - b % m) % m

/-- A pair of coordinates satisfies y² = x³ - 3x + b. -/
def onCurve (q : Nat × Nat) : Bool :=
  decide (q.1 < p256P ∧ q.2 < p256P) && q.2 * q.2 % p256P == subMod p256P (q.1 * q.1 * q.1 + p256B) (3 * q.1)

/-- A product modulo the prime of the field. -/
def mulP (a b : Nat) : Nat := a * b % p256P

/-- A point of the curve in Jacobian coordinates: (x / z², y / z³), or the point at infinity where z is 0. -/
abbrev EcPoint := Nat × Nat × Nat

/-- Twice a point. -/
def ecDouble : EcPoint → EcPoint
  | (x, y, z) =>
    let zz := mulP z z
    let yy := mulP y y
    let s := mulP (4 * x) yy
    let m := mulP (3 * subMod p256P x zz) (x + zz)
    let x' := subMod p256P (m * m) (2 * s)
    (x', subMod p256P (m * subMod p256P s x') (8 * (yy * yy)), mulP (2 * y) z)

/-- The sum of two points. -/
def ecAdd : EcPoint → EcPoint → EcPoint
  | (x1, y1, z1), (x2, y2, z2) =>
    if z1 = 0 then (x2, y2, z2)
    else if z2 = 0 then (x1, y1, z1)
    else
      let u1 := mulP x1 (z2 * z2)
      let s1 := mulP (y1 * z2) (z2 * z2)
      let h := subMod p256P (x2 * (z1 * z1)) u1
      let r := subMod p256P (y2 * z1 * (z1 * z1)) s1
      if h = 0 then (if r = 0 then ecDouble (x1, y1, z1) else (1, 1, 0))
      else
        let hh := mulP h h
        let hhh := mulP h hh
        let v := mulP u1 hh
        let x := subMod p256P (r * r) (hhh + 2 * v)
        (x, subMod p256P (r * subMod p256P v x) (s1 * hhh), mulP (h * z1) z2)

/-- A multiple of a point by a factor of at most `n` bits. -/
def ecMul : Nat → Nat → EcPoint → EcPoint
  | 0, _, _ => (1, 1, 0)
  | n + 1, k, q => let r := ecMul n (k / 2) (ecDouble q); if k % 2 = 1 then ecAdd q r else r

/-- ECDSA verification over P-256 (FIPS 186-4, 6.4) of a hash given as bytes: the public key is X then Y, the signature r then s,
32 bytes each, most significant first (R374). -/
def ecdsaVerify (pubkey hash sig : List Nat) : Bool :=
  let q : Nat × Nat := (beNat (pubkey.take 32), beNat (pubkey.drop 32))
  let r := beNat (sig.take 32)
  let s := beNat (sig.drop 32)
  pubkey.length == 64 && sig.length == 64 && onCurve q && decide (1 ≤ r ∧ r < p256N ∧ 1 ≤ s ∧ s < p256N) &&
    (let w := invMod p256N s
     let v := ecAdd (ecMul 256 (beNat hash * w % p256N) (p256G.1, p256G.2, 1)) (ecMul 256 (r * w % p256N) (q.1, q.2, 1))
     v.2.2 != 0 && mulP v.1 (invMod p256P (v.2.2 * v.2.2)) % p256N == r)

/-- A FIRMWARE section carries Kuhel's own signature, its last 64 bytes, over the rest (R375). -/
def kuhelVerify (bs : List Nat) : Bool :=
  decide (64 ≤ bs.length) && ecdsaVerify Config.kuhelKey (sha256Bytes (bs.take (bs.length - 64))) (bs.drop (bs.length - 64))

end Sys2Proof.Machine
end

