-- ==== Sys2Proof/Machine/SpareOps.lean ====
section
/-! DEFINITION. Moves of slices to spares and back (R390 to R392), and the supervisor's pairs (R393 to R397). -/
namespace Sys2Proof.Machine

/-- Change the spares' bookkeeping. -/
def Dev.modSpr (d : Dev) (f : Spares → Spares) : Dev := { d with spr := f d.spr }

/-- A spare is free: no slice runs on it, none moves to it, and it is in service. -/
def spareFree (d : Dev) (p : Nat) : Bool :=
  (d.slices.all fun q => q.2.phys != some p) && d.spr.dest != some p && decide (p ∉ d.spr.oos) && decide (p ∉ d.spr.parked)

/-- The lowest-numbered free spare (R390). -/
def pickSpare (d : Dev) : Option Nat := ((List.range 8).map (192 + ·)).find? (spareFree d)

/-- A replacement of a slice runs or waits. -/
def moving (d : Dev) (s : Nat) : Bool := (d.spr.now.any fun m => m.s == s) || d.spr.waiting.any fun m => m.s == s

/-- A write of GO = 1 to SLC_SPARE_CTL (R392): rejected, or the move waits for its start. -/
def spareRequest (s : Nat) (ret : Bool) (d : Dev) : Dev :=
  let onSpare := (d.slice s).phys.isSome
  let bad := decide (192 ≤ s) || (d.slice s).st = .idle || moving d s ||
    (if ret then !onSpare || decide (s ∈ d.spr.oos) || decide (s ∉ d.spr.parked) else onSpare || (pickSpare d).isNone)
  if bad then d.setBit SLC_SPARE_STAT.REJ
  else d.modSpr fun x => { x with waiting := x.waiting ++ [{ s := s, ret := ret, esc := false, parent := 0 }] }

/-- A CHANGE record holds the write of SLC_SPARE_CTL that asked for a move of slice `s`. -/
def asksMove (s : Nat) (r : Record) : Bool :=
  match r.body with
  | .change _ _ ts => ts.any fun t => t.addr == RegName.SLC_SPARE_CTL.addr 0 0 && SLC_SPARE_CTL.SLICE.of (BitVec.ofNat 32 t.new) == s
  | _ => false

/-- The number of the latest staged record of the write that asked for a move of slice `s`; 0 where none is staged. -/
def moveRecord (d : Dev) (s : Nat) : Nat :=
  (d.rcd.stg.filter fun p => asksMove s p.2.r).foldl (fun m p => max m p.2.r.seq) 0

/-- Planned moves that wait learn the journal record of their write (R292). -/
def spareParents (d : Dev) : Dev :=
  d.modSpr fun x => { x with waiting := x.waiting.map fun m => if !m.esc && m.parent == 0 then { m with parent := moveRecord d m.s } else m }

/-- An escalation that finds no free spare (R117, R140, R146): the slice FAILS, unless it is SHED or FAILED already. -/
def spareNone (e : Env) (s parent : Nat) (d : Dev) : Dev :=
  if (d.slice s).st = .shed ∨ (d.slice s).st = .failed then d
  else
    let d1 := failSlice s (openShadow (.failed s) parent d)
    report e (endReaction (fun r => r = .failed s) d1) Ev.SLICE_NO_SPARE s

/-- A SLICE-class escalation (R279, R390, R392): it takes the place of a planned move that waits; without a free spare the slice FAILS
at once (R117). -/
def spareEscalate (e : Env) (s parent : Nat) (d : Dev) : Dev :=
  if 192 ≤ s ∨ (d.slice s).st = .idle ∨ (d.spr.now.any fun m => m.s == s) then d
  else if (pickSpare d).isNone then
    spareNone e s parent (d.modSpr fun x => { x with waiting := x.waiting.filter fun m => m.s ≠ s })
  else
    d.modSpr fun x =>
      { x with waiting := (x.waiting.filter fun m => m.s ≠ s) ++ [{ s := s, ret := false, esc := true, parent := parent }] }

/-- The waiting replacement whose turn it is: the lowest slice. -/
def spareNext (d : Dev) : Option Move := leastBy (fun m => (m.s, 0)) d.spr.waiting

/-- A replacement starts at t_E (R390): the output is cut without a ramp, the shadow opens, the target tile is requested. DESIGN CHOICE (log
248): after SHUTDOWN, where no tile comes on again, it waits. A running fade and its pending request stay with the slice (R164). Its suppression counts as one from the boundary after the copy.
Without a free spare an escalated slice FAILS (R117); a planned move is rejected. -/
def spareStart (e : Env) (d : Dev) : Dev :=
  match (if d.spr.now.isSome ∨ d.thm.sd then none else spareNext d) with
  | none => d
  | some m =>
    let d1 := d.modSpr fun x => { x with waiting := x.waiting.filter (· ≠ m) }
    if (d1.slice m.s).st = .idle then d1
    else
      let dest := if m.ret then some m.s else pickSpare d1
      match dest with
      | some p =>
        let d2 := openShadow (.spare m.s) m.parent (d1.modSpr fun x => { x with now := some m, dest := some p, last := m.s })
        let d3 := suppressOut (d2.slice m.s).cause .spare m.s d2
        domRequest (p / 4) (d3.modSlice m.s fun x => { x with mute := .closed })
      | none =>
        if m.esc then spareNone e m.s m.parent d1
        else d1.setBit SLC_SPARE_STAT.REJ

/-- The copy is complete (R390, R391): PHYS is set, the vacated physical slice is out of service, parked or free again, the
canceller starts from its snapshot, and the checks of the old physical slice no longer speak for the slice. DESIGN CHOICE (log 241): a
slice that is SHED or FAILED stays so, and its canceller stays OFF with its snapshot. -/
def spareDone (d : Dev) : Dev :=
  match d.spr.now, d.spr.dest with
  | some m, some p =>
    if (d.dom (p / 4)).phase ≠ .on then d
    else
      let s := m.s
      let old := physOf d s
      let d1 := d.modSpr fun x =>
        { x with
          now := none, dest := none, moved := sadd x.moved s
          oos := if m.esc then sadd x.oos old else x.oos
          parked := if m.ret then sdel x.parked s else if m.esc then sdel x.parked old else sadd x.parked old }
      let d2 := d1.modSlice s fun x => { x with phys := if p = s then none else some p }
      let d3 := clearLive (clearLive d2 Ev.SLICE_CHECK s) Ev.CNL_CHECK s
      let runs := (d3.slice s).st ≠ .idle ∧ (d3.slice s).st ≠ .shed ∧ (d3.slice s).st ≠ .failed
      let d4 := if runs then cnlResume s (cnlHalt s d3) else d3
      let d5 := if (d4.slice s).st = .powering ∨ (d4.slice s).st = .queued then
          setMark (msetOf d4 s) (d4.modSlice s fun x =>
            { x with st := .settling, suppressed := true, supHit := true, cause := 1, await := .boundary, setCnt := 0 })
        else d4
      endReaction (fun r => r = .spare s) (tileCheck (p / 4) (tileCheck (old / 4) d5))
  | _, _ => d

/-- SLC_SPARE_STAT without its REJ bit. -/
def spareStatWord (d : Dev) : Nat :=
  packBits [(31, 1, b2n (d.spr.now.isSome)), (16, 8, satN (d.spr.oos.length + d.spr.parked.length) 255),
    (12, 4, satN d.spr.waiting.length 15), (0, 8, d.spr.last)]

/-! ### Supervisor pairs (R393 to R397) -/

/-- Change the supervisor. -/
def Dev.modSup (d : Dev) (f : Sup → Sup) : Dev := { d with sup := f d.sup }

/-- A pair, by whether it is B. -/
def pairOf (d : Dev) (b : Bool) : Pair := if b then d.sup.b else d.sup.a
def modPair (b : Bool) (f : Pair → Pair) (d : Dev) : Dev :=
  d.modSup fun x => if b then { x with b := f x.b } else { x with a := f x.a }

/-- The pair in a state. -/
def pairIn (d : Dev) (st : PairSt) : Option Bool :=
  if d.sup.a.st = st then some false else if d.sup.b.st = st then some true else none

/-- A GO of SUP_HO_CTL (R394, R395). -/
def handoverGo (d : Dev) : Dev :=
  if (pairIn d .ready).isNone ∨ d.sup.pend then d.setBit SUP_HO_STAT.HO_REJ
  else d.modSup fun x => { x with pend := true, held := d.auth.submit.isSome }

/-- F − 125 µs: the active pair stops accepting writes. F is not set before an authorised command that was in hand when GO was
accepted has ended (R395). -/
def handoverFreeze (d : Dev) : Dev :=
  if d.sup.pend && !d.sup.held then d.modSup fun x => { x with frozen := true } else d

/-- The READY pair becomes ACTIVE; the new pair has yet to beat. -/
def takeOver (next : Bool) (old : PairSt) (d : Dev) : Dev :=
  let d1 := modPair (!next) (fun p => { p with st := old }) (modPair next (fun p => { p with st := .active }) d)
  d1.modSup fun x => { x with hoCnt := satN (x.hoCnt + 1) 0xFF, pend := false, frozen := false, waitBeat := some (!next) }

/-- F: the roles swap (R394). -/
def handoverSwitch (d : Dev) : Dev :=
  match (if d.sup.pend && d.sup.frozen then pairIn d .ready else none) with
  | some b => takeOver b .ready d
  | none => d

/-- No beat by F + 1 ms: back to the outgoing pair, which is READY (R395). -/
def handoverBack (e : Env) (d : Dev) : Dev :=
  match d.sup.waitBeat with
  | some old =>
    if (pairOf d old).st ≠ .ready then d.modSup fun x => { x with waitBeat := none }
    else
    let d1 := modPair (!old) (fun p => { p with st := .failed }) (modPair old (fun p => { p with st := .active }) d)
    report e (d1.modSup fun x => { x with waitBeat := none }) Ev.SUP_HO_FAIL
  | none => d

/-- The cores of a pair disagree (R396). -/
def lockstep (e : Env) (b : Bool) (d : Dev) : Dev :=
  let p := pairOf d b
  if p.st ≠ .active ∧ p.st ≠ .ready then d
  else
    let again : PairSt := if 1 ≤ p.strikes then .failed else .loading
    let d1 := modPair b (fun p => { p with strikes := satN (p.strikes + 1) 2 }) d
    if p.st = .ready then report e (modPair b (fun p => { p with st := again }) (d1.modSup fun x => { x with pend := false, frozen := false })) Ev.SUP_LOCKSTEP
    else if (pairOf d1 (!b)).st = .ready then report e (takeOver (!b) again d1) Ev.SUP_LOCKSTEP
    else raiseLive e (modPair b (fun p => { p with st := .failed }) d1) Ev.SUP_NO_STANDBY

/-- A pair becomes READY (R393, R396): with no ACTIVE pair left it takes over, and SUP_NO_STANDBY ends (R410). -/
def pairReady (b : Bool) (d : Dev) : Dev :=
  let d1 := modPair b (fun p => { p with st := .ready }) d
  clearLive (if (pairIn d1 .active).isNone then takeOver b .failed d1 else d1) Ev.SUP_NO_STANDBY

/-- The failed pair is reloaded from the active pair's image (R396), unless a FIRMWARE command loads it. -/
def pairReloaded (b : Bool) (d : Dev) : Dev :=
  if (pairOf d b).st ≠ .loading ∨ d.auth.loads = some b then d
  else
    let img := (pairOf d (!b)).img
    pairReady b (modPair b (fun p => { p with img := if (pairOf d (!b)).st = .active then img else p.img }) d)

/-- The Tow link holds what it receives for the device, and the supervisor serves no host (R394, R437). -/
def handoverHolds (d : Dev) : Bool := d.sup.frozen || d.sup.waitBeat.isSome

/-- SUP_HO_STAT without its HO_REJ bit. -/
def hoStatWord (d : Dev) : Nat :=
  packBits [(24, 8, d.sup.hoCnt), (22, 1, b2n d.sup.pend), (4, 3, d.sup.b.st.code), (0, 3, d.sup.a.st.code)]

end Sys2Proof.Machine
end

