-- ==== Sys2Proof/Machine/RetainedOps.lean ====
section
/-! DEFINITION. Retained state (R383 to R386), the Lodge's commits and the power-fail sequence (R53, R310, R364), and the user
calibration area (R111 to R113). -/
namespace Sys2Proof.Machine

/-- Change the retained area. -/
def Dev.modRet (d : Dev) (f : Retained → Retained) : Dev := { d with ret := f d.ret }

/-- No non-volatile write but a flush begins while SHUTDOWN stands (R352). -/
def nvBarred (d : Dev) : Bool := d.thm.sd

/-! ### Table CRCs (R247, R384) -/

/-- The words of a template: its three registers and its action words (R247). -/
def templateWords (d : Dev) (m : Nat) : List Nat :=
  let first := d.get CRV_TPL_CFG.FIRST m
  [(d.reg .CRV_TPL_CFG m).toNat, (d.reg .CRV_TPL_WIN m).toNat, (d.reg .CRV_TPL_AUX m).toNat] ++
  (List.range (d.get CRV_TPL_CFG.NACT m + 1)).flatMap fun k =>
    [(d.reg .CRV_ACT_A (first + k)).toNat, (d.reg .CRV_ACT_B (first + k)).toNat, (d.reg .CRV_ACT_C (first + k)).toNat]

/-- The CRC-32 of a coefficient bank. -/
def bankCrc (d : Dev) (s : Nat) (bankB : Bool) : Nat :=
  crcWords ((List.range 64).map fun j => (d.reg (if bankB then .SLC_COEF_B else .SLC_COEF_A) s j).toNat)

/-- The CRC-32 of a LOOP_LUT table. -/
def lutCrc (d : Dev) (t : Nat) : Nat := crcWords ((List.range 64).map fun j => (d.reg .LOOP_LUT t j).toNat)

/-- The CRC-32 of a snapshot list, over its ten words. -/
def snapCrc (d : Dev) (l : Nat) : Nat :=
  crcWords ([(d.reg .REC_SNAP_SEL l).toNat, (d.reg .REC_SNAP_CTL l).toNat] ++ (List.range 8).map fun j => (d.reg .REC_SNAP_ADDR l j).toNat)

def bankCrcs (d : Dev) : List Nat := (List.range 192).flatMap fun s => [bankCrc d s false, bankCrc d s true]
def lutCrcs (d : Dev) : List Nat := (List.range 32).map (lutCrc d)
def tplCrcs (d : Dev) : List Nat := (List.range 64).map fun m => crcWords (templateWords d m)
def snapCrcs (d : Dev) : List Nat := (List.range 32).map (snapCrc d)

/-! ### The configuration (R384, R385) -/

/-- Registers of the TABLES ranges (R375). -/
def RegName.isTable (n : RegName) : Bool :=
  decide (n ∈ [.SLC_COEF_A, .SLC_COEF_B, .LOOP_LUT, .CRV_TPL_CFG, .CRV_TPL_WIN, .CRV_TPL_AUX, .CRV_ACT_A, .CRV_ACT_B, .CRV_ACT_C,
    .REC_SNAP_SEL, .REC_SNAP_CTL, .REC_SNAP_ADDR])

/-- Registers whose writes the journal leaves out (R315). -/
def RegName.unjournalled (n : RegName) : Bool :=
  decide (n ∈ [.FLT_HB, .REC_MARK_LO, .REC_MARK_HI, .REC_MARK_GO, .REC_RD_SEL, .CNL_COEF_SEL, .POOL_CAP_RD])

/-- A register that the retained runs hold (R384). -/
def RegName.retained (n : RegName) : Bool :=
  !n.isTable && !n.unjournalled && decide (n ≠ .SLC_GAIN ∧ n ≠ .CAL_RET_CTL) && n.fields.all (fun p => p.2 ≠ .rwa) &&
    n.fields.any fun p => p.2 = .rw || p.2 = .rwo || p.2 = .rwl

/-- The fields of a register that hold what was written. -/
def keptWord (n : RegName) (w : Word) : Word :=
  packF ((n.fields.filter fun p => p.2 = .rw || p.2 = .rwo || p.2 = .rwl).map fun p => (p.1, p.1.of w))

/-- The register runs: the addresses and present words that differ from reset, and every word of the Lodge, whose registers
outlive a reset; a run word equal to what a start leaves changes nothing. What LOOP_CTL and BDAC_CODE read at present
lives with the loop and the channel, and so does the span that BDAC_CFG shows (R327 restores it). -/
def retainedRuns (d : Dev) : List (Nat × Word) :=
  let ldg := ((blockRegs 1).filter (·.retained)).foldl (fun t n => tput t (n.addr 0 0) (keptWord n (d.reg n))) []
  let other := d.regs.filterMap fun p =>
    match findReg p.1 with
    | some r => if r.name.retained && decide (r.name ≠ .LOOP_CTL ∧ r.name ≠ .BDAC_CODE) then some (p.1, keptWord r.name p.2) else none
    | none => none
  let plain := other.foldl (fun t p => tput t p.1 p.2) ldg
  let modes := (d.loops.filter fun p => p.2.mode ≠ .open_).map fun p => (RegName.LOOP_CTL.addr p.1 0, BitVec.ofNat 32 p.2.mode.code)
  let codes := (d.bdac.ch.filter fun p => p.2.t ≠ 0).map fun p => (RegName.BDAC_CODE.addr p.1 0, BitVec.ofNat 32 p.2.t)
  let spans := (d.bdac.ch.filter fun p => p.2.span ≠ 0).map fun p =>
    (RegName.BDAC_CFG.addr p.1 0, BDAC_CFG.SPAN.into p.2.span (keptWord .BDAC_CFG (d.reg .BDAC_CFG p.1)))
  (modes ++ codes ++ spans).foldl (fun t p => tput t p.1 p.2) plain

/-- The latched slice mutes (R262): all but ISO ones. The byte of a slice has room for one cause, the first that latched. -/
def latchedMutes (d : Dev) : List (Nat × MCause) :=
  d.ptl.slices.filterMap fun p => (p.2.mutes.find? (· ≠ .iso)).map fun c => (p.1, c)

/-! ### The bytes of the two parts of a copy (R383, R384) -/

/-- Bytes 0 to 59 of a Lodge record. -/
def LdgRec.bytes (x : LdgRec) : List Nat :=
  leBytes 4 x.seq ++ leBytes 6 x.opt ++ leBytes 4 x.pwrcyc ++ leBytes 4 x.recNext ++ leBytes 8 x.mark ++ leBytes 4 x.markSeq ++
  [b2n x.commitOk, x.pfCnt] ++ leBytes 28 0

/-- A Lodge record is valid: its CRC-32 is right. -/
def LdgRec.good (x : LdgRec) : Bool := decide (x.crc = crc32 x.bytes)

/-- The four bits of DL_CAUSE and UL_CAUSE. -/
def dirBits (l : List DCause) : Nat :=
  packBits [(3, 1, b2n (decide (.emis ∈ l))), (2, 1, b2n (decide (.cpwr ∈ l))), (1, 1, b2n (decide (.duty ∈ l))),
    (0, 1, b2n (decide (.dloss ∈ l)))]

/-- Words at consecutive addresses share a run of at most 255 (R375). -/
def packRuns : List (Nat × Word) → List (Nat × List Word)
  | [] => []
  | (a, w) :: t => match packRuns t with
    | (b, ws) :: r => if b = a + 4 ∧ ws.length < 255 then (a, w :: ws) :: r else (a, [w]) :: (b, ws) :: r
    | [] => [(a, [w])]

/-- Every register that the runs hold, with its word: the one that `runs` lists, or its reset word. -/
def RetCfg.words (c : RetCfg) : List (Nat × Word) :=
  let all := ((List.range 256).flatMap blockRegs).filter (·.retained)
  all.foldl (fun t n => forN n.place.n (fun i t => forN n.place.n2 (fun j t =>
    let a := n.addr i j
    tput t a ((c.runs.lookup a).getD (keptWord n (n.resetWord i j)))) t) t) []

/-- The body of a retained configuration. -/
def RetCfg.body (c : RetCfg) : List Nat :=
  let stop (x : SCause) : Nat := b2n (decide (x ∈ c.stops))
  (List.range 256).flatMap (fun i => leBytes 2 (fromSigned 16 (c.outs.getD i 0))) ++
  (List.range 192).map (fun s => match c.mutes.lookup s with | some m => 0x80 + m.code | none => 0) ++
  [dirBits c.dl, dirBits c.ul, packBits [(3, 1, stop .tow), (2, 1, stop .local_), (1, 1, stop .esc), (0, 1, stop .self)], 0] ++
  (List.range 24).map (fun k => (List.range 8).foldl (fun b i => b + b2n (decide (8 * k + i ∈ c.liveB)) * 2 ^ i) 0) ++
  leBytes 36 0 ++ (c.bankCrc ++ c.lutCrc ++ c.tplCrc ++ c.snapCrc).flatMap (leBytes 4) ++
  (packRuns c.words).flatMap fun r => leBytes 4 (r.2.length * 2 ^ 24 + r.1 / 4) ++ r.2.flatMap fun w => leBytes 4 w.toNat

/-- Bytes 0 to 59 of the header over a body of `len` bytes: "SLNR", format 1. -/
def RetCfg.header (c : RetCfg) (len : Nat) : List Nat :=
  [0x53, 0x4C, 0x4E, 0x52, 1, 0, 0, 0] ++ leBytes 4 c.seq ++ leBytes 4 c.configId ++ leBytes 4 len ++ leBytes 4 c.crcBody ++ leBytes 36 0

/-- The two CRCs of a configuration put in. -/
def RetCfg.seal (c : RetCfg) : RetCfg :=
  let b := c.body
  let c1 := { c with crcBody := crc32 b }
  { c1 with crcHdr := crc32 (c1.header b.length) }

/-- A configuration copy is valid: both CRCs are right (its magic and format are constants of the model). -/
def RetCfg.good (c : RetCfg) : Bool :=
  let b := c.body
  decide (c.crcBody = crc32 b ∧ c.crcHdr = crc32 (c.header b.length))

/-- What a configuration commit writes (R384). -/
def retainedNow (d : Dev) (seq : Nat) : RetCfg :=
  RetCfg.seal
  { seq := seq, configId := d.boot.prmId
    outs := (List.range 256).map fun i => (d.loop i).out
    mutes := latchedMutes d
    dl := d.ptl.dl.filter fun c => c = .emis || c = .cpwr
    ul := d.ptl.ul.filter fun c => c = .emis || c = .cpwr
    stops := d.ptl.causes.filter fun c => c ≠ .pin && c ≠ .fix
    liveB := (d.slices.filter fun p => p.2.gz.live).map (·.1)
    bankCrc := bankCrcs d, lutCrc := lutCrcs d, tplCrc := tplCrcs d, snapCrc := snapCrcs d
    runs := retainedRuns d }

/-- The configuration chosen last. -/
def cfgChosen (r : Retained) : Option RetCfg := if r.cfgSel then r.cfgB else r.cfgA

/-- Segments of a commit: the body in pieces of 4 KiB, then the header (R385). -/
def commitSegments (c : RetCfg) : Nat := (c.body.length + 4095) / 4096 + 1

/-- A configuration commit starts, or a further one will follow the one in progress (R385). -/
def commitStart (d : Dev) : Dev :=
  if nvBarred d ∨ d.pwr.failed then d
  else if d.ret.job.isSome then d.modRet fun r => { r with again := true }
  else
    let seq := ((cfgChosen d.ret).map (·.seq)).getD 0 + 1
    let c := retainedNow d seq
    d.modRet fun r =>
      { r with job := some { cfg := c, left := commitSegments c, retried := false }, dirty := false, again := false
               cfgA := if r.cfgSel then none else r.cfgA, cfgB := if r.cfgSel then r.cfgB else none }

/-- A commit is abandoned. -/
def commitDrop (d : Dev) : Dev := d.modRet fun r => { r with job := none, again := false, failCnt := satN (r.failCnt + 1) 0xFF }

/-- A segment of a commit has been written and verified, or has failed (R385). A trigger that fell during the commit is served by a
further one, also after a commit that a failed retry has ended. -/
def commitSegment (e : Env) (ok : Bool) (d : Dev) : Dev :=
  match d.ret.job with
  | none => d
  | some j =>
    if d.pwr.failed ∨ (nvBarred d ∧ (!ok ∨ 1 < j.left)) then commitDrop d
    else if !ok then
      if j.retried then
        let d1 := raiseLive e (commitDrop d) Ev.RET_COMMIT_FAIL
        if d.ret.again then commitStart d1 else d1
      else d.modRet fun r => { r with job := some { j with retried := true } }
    else if 1 < j.left then d.modRet fun r => { r with job := some { j with left := j.left - 1, retried := false } }
    else
      let d1 := d.modRet fun r =>
        { r with job := none, cfgSel := !r.cfgSel
                 cfgA := if r.cfgSel then some j.cfg else r.cfgA, cfgB := if r.cfgSel then r.cfgB else some j.cfg }
      let d2 := clearLive d1 Ev.RET_COMMIT_FAIL
      if d2.ret.again then commitStart d2 else d2

/-- CAL_RET_STAT and CAL_RET_SEQ. -/
def retStatWord (d : Dev) : Nat :=
  let r := d.ret
  packBits [(15, 1, b2n r.cfgA.isSome), (14, 1, b2n r.cfgB.isSome), (13, 1, b2n r.ldgA.isSome), (12, 1, b2n r.ldgB.isSome),
    (11, 1, b2n r.cfgSel), (10, 1, b2n r.ldgSel), (9, 1, b2n r.job.isSome), (8, 1, b2n r.disc), (0, 8, r.failCnt)]

/-! ### Lodge commits and the power-fail sequence (R53, R310, R364, R383) -/

/-- The Lodge record chosen last. -/
def ldgChosen (r : Retained) : Option LdgRec := if r.ldgSel then r.ldgB else r.ldgA

/-- A Lodge commit: the copy not chosen last, SEQ one higher (R383). -/
def lodgeWrite (e : Env) (pfail : Bool) (d : Dev) : Dev :=
  let y : LdgRec :=
    { seq := ((ldgChosen d.ret).map (·.seq)).getD 0 + 1, opt := e.opt, pwrcyc := e.pwrcyc, recNext := d.rcd.next, mark := d.rcd.markVal
      markSeq := d.rcd.markSeq, commitOk := pfail, pfCnt := d.pwr.pfCnt }
  let x := { y with crc := crc32 y.bytes }
  d.modRet fun r => { r with ldgSel := !r.ldgSel, ldgA := if r.ldgSel then some x else r.ldgA, ldgB := if r.ldgSel then r.ldgB else some x }

/-- The Lodge commit of every 65,536 counts (R53). -/
def lodgeCommit (e : Env) (d : Dev) : Dev := if nvBarred d then d else lodgeWrite e false d

/-- The record write in progress ends (R312): verified, retried in the same slot, or moved to the next one. -/
def recordWriteEnd (ok : Bool) (e : Env) (d : Dev) : Dev :=
  match d.rcd.wr with
  | none => d
  | some w =>
    if ok then kick (writeOk w d)
    else if !w.retried then d.modRcd fun x => { x with wr := some { w with retried := true } }
    else report e (writeMove w d) Ev.REC_WRITE_FAIL noInst (areaAux w.area w.slot)

/-- Every record write that the flush in progress still has to make ends, the k-th with the k-th entry of a list that says
whose verify fails, and past its end with success (R312). `fill` reads the snapshot lists of the records that this stages (R305); the
fuel bounds the writes. -/
def flushRun (e : Env) (fill : Dev → Dev) : Nat → List Bool → Dev → Dev
  | 0, _, d => d
  | n + 1, fails, d => if d.rcd.wr.isSome then flushRun e fill n fails.tail (fill (recordWriteEnd (!fails.headD false) e d)) else d

/-- The flush in progress runs to its end. -/
def flushAll (e : Env) (fill : Dev → Dev) (fails : List Bool) (d : Dev) : Dev := flushRun e fill (200 + 2 * fails.length) fails (fill d)

/-- The power-fail comparator trips (R310, R364): POWER_FAIL is staged, the flush runs without the bucket and with rewrites,
the Lodge commits with COMMIT_OK, every domain is isolated and the outputs go. If the hold-up does not last, the write in
progress is torn and nothing is committed. The device then waits with PWR_GOOD as it is when the sequence ends (R365); a
SLEEP that has been entered stands, and one being entered is given up (R360). `fill` as in `flushRun`. -/
def powerFail (e : Env) (fill : Dev → Dev) (x : PowerFailIn) (d : Dev) : Dev :=
  let good := x.complete && x.pwrGood
  let d0 := d.modPwr fun p => { p with pfCnt := satN (p.pfCnt + 1) 0xFF, failed := true, inReset := true, relWait := good, pwrGood := good }
  let d1 := d0.modRcd fun r => { r with pfail := true, flushing := true, commitOk := false }
  let d2 := fill (recordEvent e d1 Ev.POWER_FAIL noInst
    { cls := .note, own := [stgUsed d] }).1
  let d3 := kick (d2.modRcd fun r => { r with flushing := true, pfail := true })
  let d4 := if d3.ret.job.isSome then commitDrop d3 else d3
  let asleep : Bool := d.pwr.sleep = .asleep
  let d5 := { d4 with ucalOk := d4.ucalOk && d4.ucalJob.isNone, ucalJob := none
                      pwr := { d4.pwr with doms := [], waiting := [], stage := 0, heldWake := if asleep then d4.pwr.heldWake else none
                                           sleep := if asleep then .asleep else .awake } }
  let d6 := d5.modFlt fun f => { f with alive := false, aliveRun := false }
  if x.complete then (lodgeWrite e true (flushAll e fill x.fails d6)).modRcd fun r => { r with commitOk := true }
  else match d6.rcd.wr with
    | some w => Dev.modRcd { d6 with free := d6.free + 1 } fun r => { setMemSlot w.area w.slot (.torn d6.free) r with wr := none, flushing := false }
    | none => d6

/-! ### The user calibration area (R111 to R113) -/

/-- The user calibration that the bytes of an image spell; what they spell is the part's (the byte layout is not given). A
chain has at most 64 points and a tap 16, and an offset at most 20 dB. -/
def ucalOf (bytes : List Nat) : UserCal :=
  let (rx, tx, tap, trims, xo) := Config.userCal bytes
  let offs (l : List (Nat × List (Nat × Int))) : List (Nat × List (Nat × Int)) :=
    l.map fun p => (p.1, (p.2.take 64).map fun q => (q.1, clampI q.2 (-2000) 2000))
  { rx := offs rx, tx := offs tx, tap := tap.map fun p => (p.1, p.2.take 16), trims := trims, xo := xo }

/-- A write of the area starts: the marker clears (R113). -/
def ucalStart (by_ : By) (bytes : List Nat) (d : Dev) : Dev :=
  if nvBarred d then d
  else { d with ucalOk := false, ucalJob := some { image := ucalOf bytes, crc := crc32 bytes, len := bytes.length, left := (bytes.length + 4095) / 4096, by_ := by_ } }

/-- The area is complete: it takes effect for all chains at the next boundary, and the write is journalled as one TABLE
record over the area's bytes (R112, R113, R317). -/
def ucalFinish (e : Env) (j : UcalJob) (d : Dev) : Dev :=
  let d1 := clearLive { d with ucalArea := j.image, ucalCrc := j.crc, ucalOk := true, ucalNew := true, ucalJob := none } Ev.USERCAL_INVALID
  journalTable e j.by_ 0 (j.len - 1) j.crc false d1

/-- A segment of the area has been written; a segment that fails twice, a power failure or SHUTDOWN stops the write (R113). -/
def ucalSegment (e : Env) (ok : Bool) (d : Dev) : Dev :=
  match d.ucalJob with
  | none => d
  | some j =>
    if nvBarred d ∨ d.pwr.failed then { d with ucalJob := none }
    else if !ok then
      if j.retried then { d with ucalJob := none } else { d with ucalJob := some { j with retried := true } }
    else if 1 < j.left then { d with ucalJob := some { j with left := j.left - 1, retried := false } }
    else ucalFinish e j d

end Sys2Proof.Machine
end

