-- ==== Sys2Proof/Machine/View.lean ====
section
/-! DEFINITION. What a read of a register returns (R16, R17, register summary): the stored RW and W1C fields, and every field
that an engine keeps, read from the typed state. `peek` is a read without side effect; `readReg` has those of R488. -/
namespace Sys2Proof.Machine

/-- The fields of a register that a write leaves standing: RW, RWO, RWL, RWA and W1C; reserved bits read 0 (R17). -/
def Dev.stored (d : Dev) (n : RegName) (i j : Nat) : Word :=
  packF ((n.fields.filter fun p => p.2 ≠ .wo).map fun p => (p.1, p.1.of (d.reg n i j)))

/-- Stored fields with the fields an engine keeps. -/
def Dev.mixed (d : Dev) (n : RegName) (i j : Nat) (fs : List (Fld × Nat)) : Word := d.stored n i j ||| packF fs

/-- A signed value of 16 bits, limited to its range. -/
def sat16 (z : Int) : Nat := fromSigned 16 (clampI z (-32768) 32767)

/-- A signed value of 16 bits that may be missing: 0x8000. -/
def opt16 (z : Option Int) : Nat := match z with | some z => fromSigned 16 (clampI z (-32767) 32767) | none => 0x8000

/-- A set of numbers below 32 as a mask. -/
def maskOf (p : Nat → Bool) : Nat := (List.range 32).foldl (fun m k => if p k then m + 2 ^ k else m) 0

/-! ### Block by block -/

/-- Global, Lodge and power registers (chapters 2, 16 and 22). -/
def viewPower (e : Env) (d : Dev) (n : RegName) (i j : Nat) : Word :=
  match n with
  | .GLB_ID => n.resetWord i j
  | .GLB_UID_LO => packF [(GLB_UID_LO.UID, e.uid)]
  | .GLB_UID_HI => packF [(GLB_UID_HI.UID, e.uid / 2 ^ 32)]
  | .LDG_WAKE_STAT => packF [(LDG_WAKE_STAT.RF_PINS, d.pwr.wakePins), (LDG_WAKE_STAT.CAUSE, d.pwr.wakeCause)]
  | .LDG_RFDET_STAT => d.mixed n i j [(LDG_RFDET_STAT.PRES, d.pwr.rfPres)]
  | .LDG_PF => packF [(LDG_PF.XTAL_OK, b2n d.pwr.xtalOk), (LDG_PF.PG, b2n d.pwr.pwrGood), (LDG_PF.PF_CNT, d.pwr.pfCnt)]
  | .LDG_OPT_LO => packF [(LDG_OPT_LO.COUNT_LO, e.opt)]
  | .LDG_OPT_HI => packF [(LDG_OPT_HI.COUNT_HI, d.hiOpt)]
  | .LDG_PWRCYC => packF [(LDG_PWRCYC.COUNT, e.pwrcyc)]
  | .PWR_DOM => let x := d.dom i; packF [(PWR_DOM.UP_CNT, x.upCnt), (PWR_DOM.QUEUED, b2n x.queued), (PWR_DOM.PHASE, x.phase.code)]
  | .PWR_STAT => d.mixed n i j [(PWR_STAT.NPOW, npow d), (PWR_STAT.STATE, pwrState d)]
  | .PWR_DOZE_STAT => packF
      [(PWR_DOZE_STAT.TILES, ((List.range 50).filter (tileDozes d)).length),
       (PWR_DOZE_STAT.SLICES, ((List.range 192).filter fun s => (d.slice s).doze).length)]
  | .PWR_DOZE_MAP => BitVec.ofNat 32 (maskOf fun k => (d.slice (32 * i + k)).doze)
  | n => d.stored n i j

/-- Frame-time, group, synthesiser, RFFE and TGPIO registers (chapters 2 and 3). -/
def viewRadio (e : Env) (d : Dev) (n : RegName) (i j : Nat) : Word :=
  match n with
  | .SYN_FT_STAT => d.stored n i j ||| BitVec.ofNat 32 (ftStatWord d)
  | .SYN_FT_NOW => packF [(SYN_FT_NOW.FRAME, ftNow d / frameCycles), (SYN_FT_NOW.CYCLE, ftNow d % frameCycles)]
  | .SYN_TD_STAT =>
    let x := d.det i
    d.mixed n i j [(SYN_TD_STAT.LOCK, b2n x.lock), (SYN_TD_STAT.NID2_FOUND, x.nid), (SYN_TD_STAT.MISS_CNT, x.missCnt),
      (SYN_TD_STAT.QUAL, x.qual)]
  | .SYN_GRP_STAT =>
    let x := d.group i
    d.mixed n i j [(SYN_GRP_STAT.TXTO_CNT, x.txtoCnt), (SYN_GRP_STAT.HELD, b2n x.held), (SYN_GRP_STAT.CAL, b2n x.cal),
      (SYN_GRP_STAT.TX_WAIT, b2n x.txWait), (SYN_GRP_STAT.QUEUED, b2n x.queued), (SYN_GRP_STAT.TX_LOCK, b2n (d.synth (txSyn i)).lock),
      (SYN_GRP_STAT.RX_LOCK, b2n (d.synth (rxSyn i)).lock), (SYN_GRP_STAT.PHASE, x.phase.code),
      (SYN_GRP_STAT.TARGET, (x.aim.getD x.target).code), (SYN_GRP_STAT.STATE, x.state.code)]
  | .SYN_LO_STAT =>
    let x := d.synth i
    d.mixed n i j [(SYN_LO_STAT.UNLOCK_CNT, x.unlockCnt), (SYN_LO_STAT.CACHE_N, x.cache.length),
      (SYN_LO_STAT.PEND, b2n x.pend.isSome), (SYN_LO_STAT.SEARCH, b2n x.search), (SYN_LO_STAT.RETUNE, b2n x.retune),
      (SYN_LO_STAT.LOCK, b2n x.lock)]
  | .SYN_RFFE_STAT =>
    let x := d.rffeM i
    d.mixed n i j [(SYN_RFFE_STAT.LATE_CNT, x.lateCnt), (SYN_RFFE_STAT.FIFO_LVL, x.fifo.length), (SYN_RFFE_STAT.BUSY, b2n x.bus.isSome)]
  | .SYN_RFFE_RD => let x := d.rffeM i; packF [(SYN_RFFE_RD.VALID, b2n x.rdValid), (SYN_RFFE_RD.DATA, x.rdData)]
  | .SYN_TGPIO_IN => BitVec.ofNat 32 (maskOf (pinSense e d))
  | n => d.stored n i j

/-- Chain, ORX and calibration registers (chapter 4). -/
def viewChains (d : Dev) (n : RegName) (i j : Nat) : Word :=
  match n with
  | .RXC_STAT =>
    let x := d.rxChain i
    d.mixed n i j [(RXC_STAT.CLIP_CNT, x.clipCnt), (RXC_STAT.COARSE, b2n x.coarse), (RXC_STAT.STALE, b2n x.stale), (RXC_STAT.CAL, x.cal.code)]
  | .RXC_PWR => packF [(RXC_PWR.PWR, opt16 (d.rxChain i).pwr)]
  | .TXC_STAT =>
    let x := d.txChain i
    d.mixed n i j [(TXC_STAT.COARSE, b2n x.coarse), (TXC_STAT.STALE, b2n x.stale), (TXC_STAT.NO_TAP, b2n x.noTap), (TXC_STAT.CAL, x.cal.code)]
  | .TXC_ORX_STAT => packF
      [(TXC_ORX_STAT.PREEMPT_CNT, d.orx.preempt), (TXC_ORX_STAT.ATT, d.orx.att), (TXC_ORX_STAT.TAP, d.orx.tap),
       (TXC_ORX_STAT.SELF_OK, b2n d.orx.selfOk), (TXC_ORX_STAT.OWNER, d.orx.owner.code)]
  | .CAL_STAT =>
    let (kind, idx) := match d.cal.bg with
      | some (.rxGap, c) => (0, c)
      | some (_, c) => (1, c)
      | none => (0, 0)
    d.mixed n i j [(CAL_STAT.BG_CNT, d.cal.bgCnt), (CAL_STAT.BG_ACT, b2n d.cal.bg.isSome), (CAL_STAT.BG_KIND, kind), (CAL_STAT.BG_IDX, idx),
      (CAL_STAT.PEND_S, b2n (gcal d 1).pend), (CAL_STAT.PEND_D, b2n (gcal d 0).pend)]
  | n => d.stored n i j

/-- Slice and pool registers (chapters 5 and 6). DESIGN CHOICE (log 240): POOL_CAP_WIN reads 0 where the selected block holds no sample
yet. -/
def viewSlices (d : Dev) (n : RegName) (i j : Nat) : Word :=
  match n with
  | .SLC_GAIN => packF [(SLC_GAIN.GAIN, fromSigned 16 (d.loop i).out)]
  | .SLC_SYSG => packF [(SLC_SYSG.SYSG, opt16 (sysg d i))]
  | .SLC_STAT =>
    let x := d.slice i
    packF [(SLC_STAT.PHYS, physOf d i), (SLC_STAT.SPARE, b2n x.phys.isSome), (SLC_STAT.SET_WAIT, b2n x.setWait),
      (SLC_STAT.RANGE_HOLD, b2n x.rangeHold), (SLC_STAT.PRES, b2n x.pres), (SLC_STAT.MUTE, b2n (x.mute ≠ .open_)),
      (SLC_STAT.STATE, x.st.code)]
  | .SLC_RMS =>
    let m := (d.slice i).meas
    packF [(SLC_RMS.VALID, b2n m.valid), (SLC_RMS.SEQ, m.seq), (SLC_RMS.PWR, opt16 m.rms)]
  | .SLC_PEAK =>
    let m := (d.slice i).meas
    packF [(SLC_PEAK.VALID, b2n m.valid), (SLC_PEAK.SEQ, m.seq), (SLC_PEAK.PWR, opt16 m.peak)]
  | .SLC_LATINFO =>
    let c := (effOf d i).cls
    packF [(SLC_LATINFO.FILL, fillOf c (flenOf d i) (latOf d i)), (SLC_LATINFO.MINLAT, minLat c (flenOf d i))]
  | .SLC_DLY =>
    let c := (effOf d i).cls
    packF [(SLC_DLY.DPRES, dPres c), (SLC_DLY.DMEAS, dMeas c (flenOf d i))]
  | .SLC_SETTLE => packF [(SLC_SETTLE.CAUSE, (d.slice i).cause), (SLC_SETTLE.REM, settleRem d i)]
  | .SLC_GLZ_STAT =>
    let g := (d.slice i).gz
    packF [(SLC_GLZ_STAT.PEND_LOST, g.lost), (SLC_GLZ_STAT.WAIT, b2n g.wait.isSome), (SLC_GLZ_STAT.LIVE, b2n g.live),
      (SLC_GLZ_STAT.FADING, b2n g.fade.isSome), (SLC_GLZ_STAT.PEND, b2n g.pend.isSome), (SLC_GLZ_STAT.POS, fadePos d i)]
  | .SLC_ARRAY_STAT => packF
      [(SLC_ARRAY_STAT.SPARE_FREE, 8 - (d.slices.filter fun p => p.2.phys.isSome).length),
       (SLC_ARRAY_STAT.ENABLED, (d.slices.filter fun p => p.2.st ≠ .idle).length), (SLC_ARRAY_STAT.SU_USED, suUsed d)]
  | .SLC_SPARE_STAT => d.stored n i j ||| BitVec.ofNat 32 (spareStatWord d)
  | .POOL_STAT => packF [(POOL_STAT.FREE, poolFree d), (POOL_STAT.FAIL_CNT, d.pool.failCnt)]
  | .POOL_CAP_STAT =>
    let c := d.pool.cap
    d.mixed n i j [(POOL_CAP_STAT.DONE, b2n c.done), (POOL_CAP_STAT.ARMED, b2n (c.armed || c.running)),
      (POOL_CAP_STAT.FILLED, c.samples.length / 1024)]
  | .POOL_CAP_WIN => BitVec.ofNat 32 (d.pool.cap.samples.getD (1024 * d.get POOL_CAP_RD.BLK + i) 0)
  | n => d.stored n i j

/-- Canceller and probe registers (chapter 7). -/
def viewCanceller (d : Dev) (n : RegName) (i j : Nat) : Word :=
  match n with
  | .CNL_ISO => let x := d.canc i; packF [(CNL_ISO.VALID, b2n x.valid), (CNL_ISO.SEQ, x.seq), (CNL_ISO.I_PHYS, fromSigned 16 x.pubIso)]
  | .CNL_DEPTH => let x := d.canc i; packF [(CNL_DEPTH.SHORT, x.short), (CNL_DEPTH.D, fromSigned 16 x.pubDepth)]
  | .CNL_EFF => let x := d.canc i; packF [(CNL_EFF.ISO_CEIL, sat16 x.ceil), (CNL_EFF.I_EFF, fromSigned 16 x.ieff)]
  | .CNL_PWR => let x := d.canc i; packF [(CNL_PWR.P_IN, opt16 x.pin), (CNL_PWR.P_OUT, opt16 x.pout)]
  | .CNL_STAT =>
    let x := d.canc i
    packF [(CNL_STAT.DIV_CNT, x.divCnt), (CNL_STAT.TAPS_EFF, if x.st = .off then 0 else tapsEff d i),
      (CNL_STAT.REF_OOR, if x.st = .off then 0 else maskOf fun r => decide (r < 4) && refOor d (effOf d i) r), (CNL_STAT.REF_ABS, x.refAbs),
      (CNL_STAT.PRB_LIM, b2n x.prbLim), (CNL_STAT.AUTO_FRZ, b2n x.autoFrz), (CNL_STAT.SNAP, b2n x.snap.isSome), (CNL_STAT.STATE, x.st.code)]
  | .CNL_PRB_STAT =>
    d.mixed n i j [(CNL_PRB_STAT.BUSY, b2n d.prb.run.isSome), (CNL_PRB_STAT.DONE, b2n d.prb.done), (CNL_PRB_STAT.SLICE, d.prb.slice),
      (CNL_PRB_STAT.COUNT, d.prb.count)]
  | .CNL_PRB_RES0 => packF [(CNL_PRB_RES0.VALID, b2n d.prb.ok), (CNL_PRB_RES0.MODE, b2n d.prb.dac), (CNL_PRB_RES0.I_PHYS_P, sat16 d.prb.iphys)]
  | .CNL_PRB_RES1 => packF [(CNL_PRB_RES1.I_EFF_P, sat16 d.prb.ieff)]
  | .CNL_COEF_SEL =>
    let t := match (d.canc (d.get CNL_COEF_SEL.SLICE)).snap with
      | some w => coefOf w (d.get CNL_COEF_SEL.REF)
      | none => []
    d.mixed n i j [(CNL_COEF_SEL.EXP, snapExp t)]
  | .CNL_COEF_WIN =>
    let x := d.canc (d.get CNL_COEF_SEL.SLICE)
    match x.snap with
    | some w => BitVec.ofNat 32 (snapWord (coefOf w (d.get CNL_COEF_SEL.REF)) i)
    | none => 0#32
  | n => d.stored n i j

/-- Loop engine, Glide and Stencil registers (chapters 8 and 9). -/
def viewLoops (d : Dev) (n : RegName) (i j : Nat) : Word :=
  let x := d.loop i
  let hi := (x.lims.map (·.1)).getD 0
  let lo := (x.lims.map (·.2)).getD 0
  match n with
  | .LOOP_CTL => packF [(LOOP_CTL.MODE, x.mode.code)]
  | .LOOP_OUT => packF [(LOOP_OUT.OUT, fromSigned 16 x.out)]
  | .LOOP_LIMS => packF [(LOOP_LIMS.HI, sat16 hi), (LOOP_LIMS.LO, sat16 lo)]
  | .LOOP_ERR => packF [(LOOP_ERR.GSP, opt16 x.gsp), (LOOP_ERR.E, sat16 x.err)]
  | .LOOP_ISTAT =>
    d.mixed n i j [(LOOP_ISTAT.MISS_CNT, x.missCnt), (LOOP_ISTAT.HOLD_CNT, x.holdCnt), (LOOP_ISTAT.SHED_AUTO, b2n x.shedAuto),
      (LOOP_ISTAT.FE, b2n x.fe), (LOOP_ISTAT.TIMEOUT, b2n x.timeout), (LOOP_ISTAT.CAUSE, x.cause.code),
      (LOOP_ISTAT.LIMIT, b2n (x.lims.isSome && x.out == hi)), (LOOP_ISTAT.FLOORED, b2n (x.lims.isSome && x.out == lo)),
      (LOOP_ISTAT.FRZ, b2n x.frz), (LOOP_ISTAT.VALID, b2n x.valid), (LOOP_ISTAT.MODE, x.mode.code)]
  | .LOOP_GLD_POS => packF [(LOOP_GLD_POS.POS, fromSigned 32 x.glide.pos)]
  | .LOOP_GLD_VEL => packF [(LOOP_GLD_VEL.VEL, fromSigned 32 (unitsOf x.glide.vel))]
  | .LOOP_GLD_STAT => packF
      [(LOOP_GLD_STAT.REST, b2n x.glide.rest), (LOOP_GLD_STAT.SHAPE, match x.glide.shape with | .stopped => 0 | .setPoint => 1 | .output => 2),
       (LOOP_GLD_STAT.FOLLOW_LO, b2n x.glide.followLo), (LOOP_GLD_STAT.TGT, sat16 x.glide.tgt)]
  | .LOOP_STAT => d.mixed n i j [(LOOP_STAT.OVR_CNT, d.eng.ovrCnt), (LOOP_STAT.OVR_RUN, d.eng.ovrRun), (LOOP_STAT.LOAD_PK, d.eng.loadPk), (LOOP_STAT.LOAD, d.eng.load)]
  | .STN_STAT =>
    let x := d.stencil i
    packF [(STN_STAT.ARM_CNT, x.armCnt), (STN_STAT.EDGE_OVF, b2n x.edgeOvf), (STN_STAT.EDGES, x.edges.length),
      (STN_STAT.WITHDRAWN, b2n x.withdrawn), (STN_STAT.RL_CNT, x.rlCnt), (STN_STAT.RUN, x.run), (STN_STAT.STATE, x.st.code)]
  | .STN_ANCHOR => let x := d.stencil i; packF [(STN_ANCHOR.FRAME, x.frame), (STN_ANCHOR.PCNT, satN x.pcnt 0xFFFFFF)]
  | .STN_EDGE =>
    match (d.stencil i).edges[j]? with
    | some (fall, ofs) => packF [(STN_EDGE.VALID, 1), (STN_EDGE.TYPE, b2n fall), (STN_EDGE.OFS, ofs)]
    | none => 0#32
  | .STN_BIN => BitVec.ofNat 32 (stnBinWord d i j)
  | n => d.stored n i j

/-- Carve and Patrol registers, and what shows the Fixative (chapters 10 and 11). -/
def viewPatrol (e : Env) (d : Dev) (n : RegName) (i j : Nat) : Word :=
  let shows (p : Fix → Word) : Word := match e.fix with | some f => p f | none => 0#32
  match n with
  | .CRV_STAT => packF [(CRV_STAT.OPEN_EP, d.crv.epochs.length), (CRV_STAT.FREE, 4096 - crvUsed d)]
  | .CRV_CNT0 => packF [(CRV_CNT0.CONF_CNT, d.crv.confCnt), (CRV_CNT0.CONTRA_CNT, d.crv.contraCnt)]
  | .CRV_CNT1 => packF [(CRV_CNT1.SKIP_FULL, d.crv.skipFull), (CRV_CNT1.SKIP_LATE, d.crv.skipLate), (CRV_CNT1.DISCARD, d.crv.discard),
      (CRV_CNT1.INV_SKIP, d.crv.invSkip)]
  | .CRV_TPL_STAT => packF [(CRV_TPL_STAT.CONTRA_RUN, satN (tplRun d i) 255), (CRV_TPL_STAT.EPOCHS, tget (fun _ => 0) d.crv.tplCnt i)]
  | .PTL_STAT => ptlStatWord d
  | .PTL_CNT => packF [(PTL_CNT.TRIM_CNT, d.ptl.trimCnt), (PTL_CNT.MSL_CNT, d.ptl.mslCnt), (PTL_CNT.MDIR_CNT, d.ptl.mdirCnt), (PTL_CNT.STOP_CNT, d.ptl.stopCnt)]
  | .PTL_DUTY => BitVec.ofNat 32 (packBits ((List.range 4).map fun c => (8 * c, 8, (d.pch c).shown)))
  | .PTL_SLC => ptlSlcWord d i
  | .PTL_TRIM => ptlTrimWord d i
  | .FIX_STAT => shows fun f => packF [(FIX_STAT.VALID, 1), (FIX_STAT.VERSION, f.version)]
  | .FIX_PMAX => shows fun f => packF [(FIX_PMAX.PMAX, fromSigned 16 (f.pmax.getD i 0))]
  | .FIX_GMAX => shows fun f => packF [(FIX_GMAX.UL, f.gmaxUl), (FIX_GMAX.DL, f.gmaxDl)]
  | .FIX_MARGIN => shows fun f => packF [(FIX_MARGIN.MIN_MARGIN, f.margin)]
  | .FIX_UL => shows fun f => packF [(FIX_UL.NOISE_MAX, fromSigned 16 f.noiseMax), (FIX_UL.DUTY, f.duty)]
  | .FIX_EMIS => shows fun f => packF [(FIX_EMIS.OOR_MAX, fromSigned 16 f.oorMax)]
  | .FIX_NRANGE => shows fun f => packF [(FIX_NRANGE.UL, f.ul.length), (FIX_NRANGE.DL, f.dl.length)]
  | .FIX_RANGE_LO => shows fun f => packF [(FIX_RANGE_LO.FREQ, ((if i = 0 then f.dl else f.ul).getD j (0, 0)).1)]
  | .FIX_RANGE_HI => shows fun f => packF [(FIX_RANGE_HI.FREQ, ((if i = 0 then f.dl else f.ul).getD j (0, 0)).2)]
  | n => d.stored n i j

/-- The valid latch entry with the earliest first occurrence (R282). -/
def firstLatch (d : Dev) : Option Nat := (leastBy (fun p => (p.2.first, p.1)) d.flt.latch).map (·.1)

/-- Fault collector registers (chapter 12). -/
def viewFaults (d : Dev) (n : RegName) (i j : Nat) : Word :=
  let entry (p : Latch → Word) : Word := match d.flt.latch.lookup i with | some x => p x | none => 0#32
  match n with
  | .FLT_STAT => packF
      [(FLT_STAT.ALIVE_RUN, b2n d.flt.aliveRun), (FLT_STAT.HB_OK, b2n d.flt.hbOk), (FLT_STAT.FIRST_V, b2n (firstLatch d).isSome),
       (FLT_STAT.FIRST, (firstLatch d).getD 0), (FLT_STAT.LOST, d.flt.lost), (FLT_STAT.USED, d.flt.latch.length)]
  | .FLT_LIVE => BitVec.ofNat 32 (fltLiveWord d)
  | .FLT_CNT => packF [(FLT_CNT.NOTE_CNT, d.flt.noteCnt), (FLT_CNT.CONSEQ_CNT, d.flt.conseqCnt), (FLT_CNT.ESC_CNT, d.flt.escCnt)]
  | .FLT_LATCH_ID => entry fun x => packF
      [(FLT_LATCH_ID.VALID, 1), (FLT_LATCH_ID.LIVE, b2n x.live), (FLT_LATCH_ID.TRANSIENT, b2n (!x.live)), (FLT_LATCH_ID.CLAIMED, b2n x.claimed),
       (FLT_LATCH_ID.ESC, b2n x.esc), (FLT_LATCH_ID.CONSEQ, b2n x.conseq), (FLT_LATCH_ID.RUNOUT, b2n (x.run ≠ .none)),
       (FLT_LATCH_ID.INJ, b2n x.inj), (FLT_LATCH_ID.CLASS, x.cls.code), (FLT_LATCH_ID.CODE, x.code)]
  | .FLT_LATCH_INST => entry fun x => BitVec.ofNat 32 (65536 * x.count + x.inst)
  | .FLT_LATCH_F_LO => entry fun x => BitVec.ofNat 32 x.first
  | .FLT_LATCH_F_HI => entry fun x => BitVec.ofNat 32 (x.first / 2 ^ 32 % 2 ^ 16)
  | .FLT_LATCH_L_LO => entry fun x => BitVec.ofNat 32 x.last
  | .FLT_LATCH_L_HI => entry fun x => BitVec.ofNat 32 (x.last / 2 ^ 32 % 2 ^ 16)
  | .FLT_LATCH_SEQ => entry fun x => BitVec.ofNat 32 x.seq
  | .FLT_LATCH_ESQ => entry fun x => BitVec.ofNat 32 x.esq
  | n => d.stored n i j

/-- The record bytes that REC_RD_SEL shows (R320); none where the selected slot reads empty. The bytes of a torn slot are
free values. -/
def shownBytes (d : Dev) : Option (List Nat) :=
  let k := d.get REC_RD_SEL.SLOT
  let ofMem (m : MemSlot) : Option (List Nat) := match m with
    | .blank => none
    | .valid r => some r.bytes
    | .torn key => some ((List.range 64).map fun b => Config.freeValue (64 * key + b) % 256)
  match d.get REC_RD_SEL.AREA with
  | 0 => ofMem (readSlot d .varnish k)
  | 1 => ofMem (readSlot d .palette k)
  | _ => match d.rcd.stg.lookup k with
    | some x => if x.st = .free then none else some x.r.bytes
    | none => none

/-- Recorder registers (chapter 13). -/
def viewRecorder (d : Dev) (n : RegName) (i j : Nat) : Word :=
  match n with
  | .REC_STAT => packF
      [(REC_STAT.DROP, d.rcd.drop), (REC_STAT.V_FULL, b2n (4096 ≤ d.rcd.vUsed)), (REC_STAT.FLUSHING, b2n d.rcd.flushing),
       (REC_STAT.CLR_BUSY, b2n !d.rcd.clrBusy.isEmpty), (REC_STAT.COMMIT_OK, b2n d.rcd.commitOk), (REC_STAT.STG, stgUsed d)]
  | .REC_AREA => packF [(REC_AREA.V_USED, d.rcd.vUsed), (REC_AREA.P_HEAD, d.rcd.pHead)]
  | .REC_SEQ => packF [(REC_SEQ.NEXT, d.rcd.next)]
  | .REC_CNT => packF
      [(REC_CNT.V_DROP, d.rcd.vDrop), (REC_CNT.TORN, satN d.rcd.torn 255), (REC_CNT.BADSLOT, satN d.rcd.bad.length 255),
       (REC_CNT.WAIT, if d.rcd.flushing then (d.rcd.stg.filter fun p =>
          (p.2.st = .new ∨ p ∈ dirtyDue d) ∧ !mayWrite d p.2.r).length else 0)]
  | .REC_RD_SEL => d.mixed n i j [(REC_RD_SEL.EMPTY, b2n (shownBytes d).isNone)]
  | .REC_RD_WIN => match shownBytes d with
    | some bs => BitVec.ofNat 32 (leAt bs (4 * i) 4)
    | none => 0xFFFFFFFF#32
  | n => d.stored n i j

/-- Bias DAC registers (chapter 14). -/
def viewBdac (d : Dev) (n : RegName) (i j : Nat) : Word :=
  let x := d.chan i
  match n with
  | .BDAC_CFG => d.mixed n i j [(BDAC_CFG.SPAN, x.span)]
  | .BDAC_CODE => packF [(BDAC_CODE.PCODE, x.pcode), (BDAC_CODE.CODE, x.t)]
  | .BDAC_STAT =>
    let c (h : HoldCause) : Nat := b2n (decide (h ∈ x.pcause))
    packF [(BDAC_STAT.OUT, x.out),
      (BDAC_STAT.PCAUSE, 16 * c .stop + 8 * c .bench + 4 * c .shutdown + 2 * c .warm + b2n (x.pcause.any fun h => h = .group 0 || h = .group 1)),
      (BDAC_STAT.QUEUED, b2n x.queued), (BDAC_STAT.PEND, b2n x.pend), (BDAC_STAT.SLEWING, b2n (slewing d i)),
      (BDAC_STAT.SIN_ON, b2n x.sineOn), (BDAC_STAT.OWNED, b2n (loopDriven d i)), (BDAC_STAT.MULTI, b2n (1 < (loopsOn d i).length)),
      (BDAC_STAT.STATE, x.st.code)]
  | .BDAC_RB => d.mixed n i j [(BDAC_RB.VALID, b2n x.rbValid), (BDAC_RB.MISM, b2n x.mism), (BDAC_RB.MV, sat16 x.rbMv)]
  | .BDAC_TT_CTL => d.mixed n i j [(BDAC_TT_CTL.DONE, b2n d.bdac.ttDone)]
  | n => d.stored n i j

/-- Housekeeping and thermal registers (chapter 15). -/
def viewThermal (d : Dev) (n : RegName) (i j : Nat) : Word :=
  match n with
  | .HK_STAT => packF [(HK_STAT.SEQ, d.hk.seq), (HK_STAT.CHK_FAIL, b2n d.hk.chkFail)]
  | .HK_SLOT =>
    let x := tget (fun _ => ({} : HkSlot)) d.hk.slots i
    packF [(HK_SLOT.VALID, b2n x.valid), (HK_SLOT.KIND, x.kind), (HK_SLOT.CODE, x.code), (HK_SLOT.VALUE, sat16 x.value)]
  | .THM_STAT =>
    d.mixed n i j [(THM_STAT.SD, b2n d.thm.sd), (THM_STAT.CRIT, b2n d.thm.crit.on), (THM_STAT.THROT, b2n d.thm.thr.on),
      (THM_STAT.WARN, b2n d.thm.warn.on), (THM_STAT.NVALID, (validTemps d).length), (THM_STAT.DEPTH, d.thm.stack.length)]
  | .THM_TMAX => packF [(THM_TMAX.TMAX, opt16 d.thm.tmax)]
  | .THM_XO => packF [(THM_XO.CORR, sat16 (roundDivAway d.thm.xo 10))]
  | .THM_SENS =>
    let x := d.sensor i
    packF [(THM_SENS.VALID, b2n (x.temp.isSome && !x.broken)), (THM_SENS.BROKEN, b2n x.broken), (THM_SENS.TEMP, opt16 x.temp)]
  | .THM_TRIM => let t := (d.ucal.trims.lookup i).getD (0, 0); packF [(THM_TRIM.SLOPE, sat16 t.1), (THM_TRIM.OFS, sat16 t.2)]
  | n => d.stored n i j

/-- A link delay in 2^-16 core cycles as tenths of a nanosecond. -/
def tenthNs (z : Int) : Int := roundRat ((z : Rat) * 10000 / (65536 * 98304 / 100 : Rat))

/-- Tow link registers (chapter 19). DESIGN CHOICE (log 209): in the phase ROM of a start TAIL and GATE read their reset value 0. -/
def viewTow (d : Dev) (n : RegName) (i j : Nat) : Word :=
  let t := d.tow
  match n with
  | .TOW_PORT_CFG => d.mixed n i j [(TOW_PORT_CFG.OPT, bitsOf d.boot.straps (1 + i) 1)]
  | .TOW_PORT_STAT =>
    let p := towPort d (i == 1)
    packF [(TOW_PORT_STAT.LINK, p.link.code), (TOW_PORT_STAT.DOWN_CNT, p.downCnt), (TOW_PORT_STAT.CRC_ERR, p.crcErr)]
  | .TOW_LINK_DLY => packF [(TOW_LINK_DLY.VALID, b2n (8 ≤ t.delays.length)), (TOW_LINK_DLY.DLY, fromSigned 24 (tenthNs (linkDelay d)))]
  | .TOW_ID => packF
      [(TOW_ID.STATE, (if isHead d && !benched d then TowSt.head else t.st).code), (TOW_ID.ADDR_V, b2n t.addrV), (TOW_ID.TAIL, b2n (isTail d && d.boot.phase ≠ .rom)),
       (TOW_ID.ADDR, t.addr), (TOW_ID.EPOCH, t.epoch)]
  | .TOW_CNT => packF [(TOW_CNT.FENCED, t.fenced), (TOW_CNT.DROP, t.drop), (TOW_CNT.EPOCH_REJ, t.epochRej), (TOW_CNT.EVT_LOST, t.evtLost)]
  | .TOW_TIME_STAT => packF [(TOW_TIME_STAT.LOCKED, b2n (towLocked d)), (TOW_TIME_STAT.STEP_CNT, t.stepCnt), (TOW_TIME_STAT.OFS, sat16 (roundDivAway (t.ofs * 3125) (3072 * 65536)))]
  | .TOW_TIME_LO => packF [(TOW_TIME_LO.TIME, towNow d)]
  | .TOW_TIME_HI => packF [(TOW_TIME_HI.TIME, d.hiTow)]
  | .TOW_PAIR_STAT => packF
      [(TOW_PAIR_STAT.HOLD, b2n t.tok.hold), (TOW_PAIR_STAT.LINE, b2n t.tok.line), (TOW_PAIR_STAT.WAITING, b2n (tokenWaits d)),
       (TOW_PAIR_STAT.GATE, b2n (pairGate d && d.boot.phase ≠ .rom)), (TOW_PAIR_STAT.ACQ_CNT, t.tok.acqCnt)]
  | .TOW_HEAD_STAT => packF [(TOW_HEAD_STAT.NEXT_FREE, t.nextFree), (TOW_HEAD_STAT.EPOCH_CTR, t.epochCtr)]
  | .TOW_HEAD_MBX => packF [(TOW_HEAD_MBX.RX_LVL, t.rx.length), (TOW_HEAD_MBX.RX_LOST, t.rxLost), (TOW_HEAD_MBX.TX_BUSY, b2n (mailboxBusy d))]
  | .TOW_HEAD_DEAD => BitVec.ofNat 32 (maskOf fun k => decide (32 * i + k ∈ t.dead))
  | .TOW_HEAD_RX =>
    match t.rx with
    | [] => 0#32
    | f :: _ => BitVec.ofNat 32 (if i < 4 then (headerWords f).getD i 0 else leAt f.pay (4 * (i - 4)) 4)
  | n => d.stored n i j

/-- Supervisor, start-up and retained-state registers (chapters 17 and 18). -/
def viewSup (d : Dev) (n : RegName) (i j : Nat) : Word :=
  let b := d.boot
  match n with
  | .CAL_RET_STAT => BitVec.ofNat 32 (retStatWord d)
  | .CAL_RET_SEQ => packF [(CAL_RET_SEQ.SEQ, ((cfgChosen d.ret).map (·.seq)).getD 0)]
  | .SUP_BOOT => packF
      [(SUP_BOOT.REJ_CNT, b.rejCnt), (SUP_BOOT.SKIP_CNT, satN b.skipCnt 255), (SUP_BOOT.IMAGE, b.image), (SUP_BOOT.CFG_SRC, b.cfgSrc), (SUP_BOOT.WARM, b2n b.warm),
       (SUP_BOOT.QUAD, b2n ((b.read.map (·.quad)).getD false)), (SUP_BOOT.ADDR4, b2n ((b.read.map (·.addr4)).getD false)), (SUP_BOOT.PHASE, b.phase.code)]
  | .SUP_STRAP => BitVec.ofNat 32 (b.straps % 32)
  | .SUP_PRM_ID => packF [(SUP_PRM_ID.VALUE, b.prmId)]
  | .SUP_PRM_SEQ => packF [(SUP_PRM_SEQ.VALUE, b.prmSeq)]
  | .SUP_HO_STAT => d.stored n i j ||| BitVec.ofNat 32 (hoStatWord d)
  | .SUP_WR_EN => d.stored n i j ||| packF [(SUP_WR_EN.DIS_CNT, d.get SUP_WR_EN.DIS_CNT)]
  | .SUP_AUTH_NONCE_LO => packF [(SUP_AUTH_NONCE_LO.NONCE, (Config.nonce d.auth.nonce).toNat)]
  | .SUP_AUTH_NONCE_HI => packF [(SUP_AUTH_NONCE_HI.NONCE, (Config.nonce d.auth.nonce).toNat / 2 ^ 32)]
  | .SUP_AUTH_STAT => packF
      [(SUP_AUTH_STAT.BUSY, b2n d.auth.submit.isSome), (SUP_AUTH_STAT.BUF, b2n (0 < d.authBlocks)), (SUP_AUTH_STAT.LOCK, b2n d.auth.lock),
       (SUP_AUTH_STAT.FAIL_CNT, d.auth.failCnt), (SUP_AUTH_STAT.REJ_CNT, d.auth.rejCnt), (SUP_AUTH_STAT.RESULT, d.auth.result)]
  | .SUP_AUTH_WIN =>
    if d.authBlocks = 0 ∨ d.auth.submit.isSome then 0#32 else (d.auth.words.lookup (1024 * d.get SUP_AUTH_CTL.BLK + i)).getD 0#32
  | n => d.stored n i j

/-! ### Every register -/

/-- Source code of the block a register lies in, by its base address. -/
def RegName.block (n : RegName) : Nat := blockOf n.place.base

/-- What register instance `i`, word `j` reads. -/
def view (e : Env) (d : Dev) (n : RegName) (i j : Nat) : Word :=
  let b := n.block
  if b ≤ 2 then viewPower e d n i j
  else if b = 3 then viewRadio e d n i j
  else if b = 4 ∨ b = 5 then viewChains d n i j
  else if b = 0x10 ∨ b = 0x80 then viewSlices d n i j
  else if b = 0x20 then viewCanceller d n i j
  else if b = 0x30 ∨ b = 0x38 then viewLoops d n i j
  else if b = 0x3C ∨ b = 0x40 ∨ b = 0x70 then viewPatrol e d n i j
  else if b = 0x48 then viewFaults d n i j
  else if b = 0x50 then viewRecorder d n i j
  else if b = 0x58 then viewBdac d n i j
  else if b = 0x60 then viewThermal d n i j
  else if b = 0x68 then viewTow d n i j
  else if n = .CAL_STAT then viewChains d n i j
  else viewSup d n i j

/-- Registers decoded only at the chain head (R486). -/
def RegName.headOnly (n : RegName) : Bool :=
  decide (n ∈ [.TOW_HEAD_CTL, .TOW_HEAD_STAT, .TOW_HEAD_PROM, .TOW_HEAD_MBX, .TOW_HEAD_DEAD, .TOW_HEAD_SPARE, .TOW_HEAD_TX, .TOW_HEAD_RX,
    .TOW_TIME_SET_LO, .TOW_TIME_SET_HI, .TOW_TIME_SET_GO])

/-- A register is decoded (R486): the TST_ block in factory test mode only, TOW_HEAD_ and TOW_TIME_SET_ at the head only. -/
def decoded (e : Env) (d : Dev) (n : RegName) : Bool :=
  if n = .TST_FINJ then e.factory else if n.headOnly then isHead d else true

/-- The register that occupies a byte address, if one does (R18, R486). -/
def occupant (e : Env) (d : Dev) (a : Nat) : Option Reg :=
  match findReg a with
  | some r => if decoded e d r.name then some r else none
  | none => none

/-- A read without side effects: a snapshot or gather read, or the value that a journal record holds. -/
def peek (e : Env) (d : Dev) (a : Nat) : Word :=
  match occupant e d a with
  | some r => view e d r.name r.i r.j
  | none => 0#32

/-- The index of a register's first instance: SYN_FT_OFS counts from 1. -/
def RegName.first (n : RegName) : Nat := if n = .SYN_FT_OFS then 1 else 0

/-- An address that an instance or word of an indexed register would have with an index outside the range given, below it or
past it, and inside the index's field, the fewest bits that spell an index past the range; a word stays inside its instance
(R486; log entry 189). -/
def RegName.beyond (n : RegName) (a : Nat) : Bool :=
  let p := n.place
  let field (k : Nat) : Nat := 2 ^ (Nat.log2 k + 1)
  let start := p.base - p.stride * n.first
  let last := n.first + p.n
  let i := (a - start) / p.stride
  let r := (a - start) % p.stride
  let word := r / p.stride2
  decide (start ≤ a) && r % p.stride2 == 0 &&
    (decide (1 < p.n ∧ (i < n.first ∨ last ≤ i) ∧ i < field last ∧ word < p.n2) ||
     decide (1 < p.n2 ∧ n.first ≤ i ∧ i < last ∧ p.n2 ≤ word ∧ word < field p.n2 ∧ p.base % p.stride + r < p.stride))

/-- The source code of ADDR_UNMAPPED for an address (R18, R486): the block in whose extent it lies; 0xFF for a register or
block that is not decoded, and for an index outside the range given. -/
def unmappedSrc (e : Env) (a : Nat) : Nat :=
  let b := blockOf a
  if (findReg a).isSome || (b == 0xF0 && !e.factory) || (blockRegs b).any (·.beyond a) then 0xFF else b

/-- A read (R15, R18, R488): the word, and the state after it. -/
def readReg (e : Env) (a : Nat) (d : Dev) : Dev × Word :=
  if a % 4 ≠ 0 then (d, 0#32) else
  match occupant e d a with
  | none => (report e d (Ev.addrUnmapped (unmappedSrc e a)), 0#32)
  | some r =>
    let w := view e d r.name r.i r.j
    let d1 := match r.name with
      | .LDG_OPT_LO => { d with hiOpt := e.opt / 2 ^ 32 }
      | .TOW_TIME_LO => { d with hiTow := towNow d / 2 ^ 32 % 2 ^ 32 }
      | .SYN_RFFE_RD => d.setRffe r.i { d.rffeM r.i with rdValid := false }
      | .POOL_CAP_WIN => { d with eng := { d.eng with bulk := true } }
      | _ => d
    (d1, w)

/-! ### Snapshots (R305) -/

/-- The words that a snapshot list reads, in list order. -/
def listWords (e : Env) (d : Dev) (l : Nat) : List Nat :=
  (List.range (d.get REC_SNAP_CTL.N l)).map fun k => (peek e d (d.reg .REC_SNAP_ADDR l k).toNat).toNat

/-- A record with its snapshot; SNAP[7] of a consequential record holds its parent (R302). -/
def Record.withSnap (ws : List Nat) (r : Record) : Record :=
  match r.body with
  | .event rep delta _ sl inst aux =>
    let s := sliceBytes ws 0 8
    { r with body := .event rep delta (if r.conseq then s.set 7 r.parent else s) sl inst aux }
  | _ => r

/-- Read the list of one record, in staging and in a write of it that has begun. -/
def fillSnap (e : Env) (p : Nat × Nat) (d : Dev) : Dev :=
  let ws := listWords e d p.2
  let fix (r : Record) : Record := if r.seq = p.1 then r.withSnap ws else r
  d.modRcd fun x =>
    { x with stg := x.stg.map fun q => (q.1, { q.2 with r := fix q.2.r })
             wr := x.wr.map fun w => { w with image := fix w.image } }

/-- Read the lists of the records that this step has staged. -/
def fillSnaps (e : Env) (d : Dev) : Dev :=
  forL d.rcd.snapDue (fillSnap e) (d.modRcd fun x => { x with snapDue := [] })

end Sys2Proof.Machine
end

