-- ==== Sys2Proof/Machine/WriteBase.lean ====
section
/-! DEFINITION. What the rules of each register need to judge a written word (R500): the write, and the verdict. The rules
of each block stand in the Write files; Sys2Proof/Machine/HostWrite.lean applies them. -/
namespace Sys2Proof.Machine

/-- A write to word `j` of register instance `i`: who writes, and the word. -/
structure Wr where
  by_ : By
  i : Nat
  j : Nat
  w : Word
deriving DecidableEq, Repr

/-- What a register's own rules make of a written word. -/
inductive Verdict where
  /-- Judged field by field. -/
  | take
  /-- A field refuses its value: the word with that field left as it is, and the state with the error bits. -/
  | part (w : Word) (d : Dev)
  /-- The whole write is discarded; the state with the error bits. -/
  | refuse (d : Dev)

/-- Discard the whole write where `c` holds, setting an error bit of instance `i`; else go on. -/
def orRefuse (c : Bool) (bit : Fld) (i : Nat) (d : Dev) (k : Verdict) : Verdict :=
  if c then .refuse (d.setBit bit i) else k

/-- Discard the whole write where any of the cases holds, setting the error bit of each that does. -/
def refuseAll (l : List (Bool × Fld)) (i : Nat) (d : Dev) : Verdict :=
  let bad := l.filter (·.1)
  if bad.isEmpty then .take else .refuse (forL bad (fun p d => d.setBit p.2 i) d)

/-- Discard the whole write without an error bit where `c` holds; else go on. -/
def orDrop (c : Bool) (d : Dev) (k : Verdict) : Verdict := if c then .refuse d else k

/-- A loop whose RWO fields may be written: OPEN or MANUAL (R16). -/
def ownerFree (d : Dev) (i : Nat) : Bool := (d.loop i).mode = .open_ || (d.loop i).mode = .manual

/-- A field of the written word differs from the stored one. -/
def Wr.changes (x : Wr) (d : Dev) (f : Fld) : Bool := f.of x.w != d.get f x.i x.j

end Sys2Proof.Machine
end

