-- ==== Sys2Proof/Machine/WriteEngines.lean ====
section
/-! DEFINITION. What writes to the canceller, probe, loop engine, Glide and Stencil registers are judged by and do (chapters
7, 8 and 9). -/
namespace Sys2Proof.Machine

/-! ### Canceller (R168, R170, R172, R180) -/

/-- A CNL_CFG word that R168 accepts. -/
def cnlCfgOk (w : Word) : Bool :=
  let taps := CNL_CFG.TAPS.of w
  let refs := maskCount (CNL_CFG.REFMASK.of w)
  let mu := CNL_CFG.MU_EXP.of w
  let leak := CNL_CFG.LEAK_EXP.of w
  decide (1 ≤ taps ∧ taps ≤ 640 ∧ 1 ≤ refs ∧ taps * refs ≤ 640 ∧ 4 ≤ mu ∧ mu ≤ 20 ∧ (leak = 0 ∨ 8 ≤ leak))

/-- The canceller blocks a CNL_CFG word asks for; a running slice keeps what it uses until the boundary. -/
def cnlBlocksWith (d : Dev) (s : Nat) (w : Word) : Nat :=
  max (cnlBlocks (maskCount (d.canc s).mask) (d.canc s).taps) (cnlBlocks (maskCount (CNL_CFG.REFMASK.of w)) (CNL_CFG.TAPS.of w))

/-- The rules of CNL_CFG. -/
def ruleCnlCfg (e : Env) (x : Wr) (d : Dev) : Verdict :=
  if !cnlCfgOk x.w then .refuse (d.setBit CNL_ERR.CFG x.i)
  else
    let z := d.slice x.i
    if z.st ≠ .idle ∧ poolFree d + z.cnlBlk < cnlBlocksWith d x.i x.w then .refuse (poolDenied e (d.setBit CNL_ERR.POOL x.i))
    else .take

/-- A running slice takes the configuration over at the next boundary (R170) and is charged at once for what it needs more. -/
def actCnlCfg (n : RegName) (x : Wr) (d : Dev) : Dev :=
  let s := x.i
  if (d.slice s).st = .idle then d
  else
    let d1 := d.setCanc s { d.canc s with chg := true }
    if n = .CNL_CFG then d1.modSlice s fun z => { z with cnlBlk := cnlBlocksWith d s x.w } else d1

/-- CLR and a change of FREEZE (R172). -/
def actCnlCtl (x : Wr) (old : Word) (d : Dev) : Dev :=
  let s := x.i
  let d1 := if CNL_CTL.CLR.bit x.w ∧ (d.canc s).st ≠ .off then cnlClr s d else d
  if CNL_CTL.FREEZE.of x.w ≠ CNL_CTL.FREEZE.of old then cnlFreeze s (CNL_CTL.FREEZE.bit x.w) d1 else d1

/-- A probe configuration that names what exists and does not combine AUTO with bias DAC mode (R186). -/
def probeCfgOk (w : Word) : Bool :=
  let depth := CNL_PRB_CFG.DEPTH.of w
  !(CNL_PRB_CFG.AUTO.bit w && CNL_PRB_CFG.MODE.bit w) &&
    decide (1 ≤ depth ∧ depth ≤ 25 ∧ CNL_PRB_CFG.SLICE.of w ≤ 191 ∧ CNL_PRB_CFG.BDAC.of w ≤ 47)

/-! ### Loop engine (R206 to R208, R215) -/

/-- A LOOP_SRC word of a general loop: the source exists, and a slot goes with PER = 0, the others with 1 to 255. -/
def loopSrcOk (w : Word) : Bool :=
  let midx := LOOP_SRC.MIDX.of w
  let per := LOOP_SRC.PER.of w
  decide (LOOP_SRC.BDAC.of w ≤ 47) &&
    match LOOP_SRC.MSRC.of w with
    | 0 => true
    | 1 => decide (midx ≤ 126 ∧ per = 0)
    | 2 => decide (midx ≤ 7 ∧ 1 ≤ per)
    | _ => decide (midx ≤ 191 ∧ 1 ≤ per)

/-- A LOOP_LIM word of loop `i`. -/
def loopLimOk (i : Nat) (w : Word) : Bool :=
  let u := LOOP_LIM.UCEIL.int w
  let f := LOOP_LIM.FLOOR.int w
  decide (f ≤ u) && (decide (i < 192) || decide ((outRange i).1 ≤ f ∧ u ≤ (outRange i).2))

/-- A LOOP_MAN word of loop `i`. -/
def loopManOk (i : Nat) (w : Word) : Bool :=
  let v := LOOP_MAN.VAL.int w
  decide (192 ≤ i ∧ (outRange i).1 ≤ v ∧ v ≤ (outRange i).2)

/-- The mode a LOOP_CTL word names. -/
def modeOf (w : Word) : LMode :=
  match LOOP_CTL.MODE.of w with | 0 => .open_ | 1 => .manual | 2 => .auto | _ => .hold

/-- A LOOP_CTL word that R206 and R208 do not accept. -/
def loopModeBad (d : Dev) (i : Nat) (w : Word) : Bool :=
  modeOf w = .hold || (modeOf w = .auto && (d.loop i).mode ≠ .auto && !autoOk d i)

/-- Every loop held for overruns returns to AUTO at the next boundary (R215). -/
def rearmOvr (d : Dev) : Dev :=
  forN 256 (fun i d =>
    let x := d.loop i
    if x.mode = .hold ∧ x.cause = .ovr then d.setLoop i { x with want := some .auto, back := false } else d) d

/-! ### Stencil (R225, R231) -/

/-- The rules of STN_CFG: an attachment that is refused leaves EN at 0. -/
def ruleStnCfg (e : Env) (x : Wr) (d : Dev) : Verdict :=
  if d.flag STN_CFG.EN x.i ∧ (x.changes d STN_CFG.SLICE ∨ x.changes d STN_CFG.NP) then .refuse (d.setBit STN_ERR.STATE x.i)
  else if STN_CFG.EN.bit x.w ∧ !d.flag STN_CFG.EN x.i then
    let r := stencilAttach e x.i (STN_CFG.SLICE.of x.w) (STN_CFG.NP.of x.w) d
    if r.2 then .take else .part (STN_CFG.EN.into 0 x.w) r.1
  else .take

/-- A STN_CTL word in range. -/
def stnCtlOk (w : Word) : Bool :=
  let f := STN_CTL.FGT.of w
  let a := STN_CTL.ACT_REL.of w
  decide (1 ≤ f ∧ f ≤ 8 ∧ 6 ≤ a ∧ a ≤ 40)

/-! ### The block -/

/-- The rules of a word for these blocks. -/
def ruleEngines (e : Env) (n : RegName) (x : Wr) (d : Dev) : Verdict :=
  match n with
  | .CNL_CFG => ruleCnlCfg e x d
  | .CNL_CTL =>
    refuseAll [(CNL_CTL.HOLD_T.of x.w == 0, CNL_ERR.CFG),
      (decide (10 * (CNL_CTL.MARGIN.of x.w : Int) < fixMargin e), CNL_ERR.MARGIN)] x.i d
  | .CNL_PRB_CFG => orRefuse (!probeCfgOk x.w) CNL_PRB_STAT.REJ 0 d .take
  | .CNL_PRB_CTL => orRefuse (CNL_PRB_CTL.INTERVAL.of x.w == 0) CNL_PRB_STAT.REJ 0 d .take
  | .LOOP_CTL => orRefuse (loopModeBad d x.i x.w) LOOP_ISTAT.CFG_REJ x.i d .take
  | .LOOP_CFG => orRefuse (LOOP_CFG.ESTEP.of x.w == 0) LOOP_ISTAT.CFG_REJ x.i d .take
  | .LOOP_SRC => orRefuse (decide (x.i < 200) || !loopSrcOk x.w) LOOP_ISTAT.CFG_REJ x.i d .take
  | .LOOP_LIM => orRefuse (!loopLimOk x.i x.w) LOOP_ISTAT.CFG_REJ x.i d .take
  | .LOOP_MAN => orRefuse (!loopManOk x.i x.w) LOOP_ISTAT.CFG_REJ x.i d .take
  | .LOOP_SUP => orRefuse (LOOP_SUP.HOLD_TO.of x.w == 0) LOOP_ISTAT.CFG_REJ x.i d .take
  | .LOOP_GCTL => orDrop (LOOP_GCTL.REARM_OVR.bit x.w && d.eng.ovrRun != 0) d .take
  | .STN_CFG => ruleStnCfg e x d
  | .STN_CTL => orRefuse (!stnCtlOk x.w) STN_ERR.CFG x.i d .take
  | _ => .take

/-- What an accepted word does in these blocks. -/
def actEngines (e : Env) (n : RegName) (x : Wr) (old : Word) (d : Dev) : Dev :=
  match n with
  | .CNL_CFG => actCnlCfg n x d
  | .CNL_BULK => actCnlCfg n x d
  | .CNL_CTL => actCnlCtl x old d
  | .CNL_PRB_CTL =>
    let d1 := if CNL_PRB_CTL.ABORT.bit x.w then probeAbort d else d
    if CNL_PRB_CTL.START.bit x.w then probeRequest d1 else d1
  | .LOOP_CTL => d.setLoop x.i { d.loop x.i with want := some (modeOf x.w), back := false }
  | .LOOP_SRC => d.setLoop x.i { d.loop x.i with yLast := none }
  | .LOOP_MAN => d.setLoop x.i { d.loop x.i with manGo := (d.loop x.i).manGo || (d.loop x.i).mode = .open_ }
  | .LOOP_GCTL => if LOOP_GCTL.REARM_OVR.bit x.w then rearmOvr d else d
  | .LOOP_LUT => { d with eng := { d.eng with dirty := sadd d.eng.dirty x.i, lutWords := d.eng.lutWords + 1 } }
  | .STN_CFG =>
    if STN_CFG.EN.bit x.w then (if STN_CFG.EN.bit old then d else (stencilAttach e x.i (STN_CFG.SLICE.of x.w) (STN_CFG.NP.of x.w) d).1)
    else if STN_CFG.EN.bit old then stencilOff e x.i d else d
  | .STN_CTL => if STN_CTL.RESTART.bit x.w then stencilWait e x.i d else d
  | _ => d

end Sys2Proof.Machine
end

