-- ==== Sys2Proof/Machine/WriteOps.lean ====
section
/-! DEFINITION. What writes to the Carve, Patrol, fault collector, factory test and recorder registers are judged by and do
(chapters 10 to 13). -/
namespace Sys2Proof.Machine

/-! ### Carve (R239, R247, R251, R252) -/

/-- An enabled template that action word `j` belongs to exists. -/
def actionLive (d : Dev) (j : Nat) : Bool :=
  (List.range 64).any fun m => d.flag CRV_TPL_CFG.EN m &&
    decide (d.get CRV_TPL_CFG.FIRST m ≤ j ∧ j ≤ d.get CRV_TPL_CFG.FIRST m + d.get CRV_TPL_CFG.NACT m)

/-- The action words of a template as its CFG word names them: A, B and C. -/
def wordsOf (d : Dev) (cfg : Word) : List (Word × Word × Word) :=
  (List.range (CRV_TPL_CFG.NACT.of cfg + 1)).map fun k =>
    let j := CRV_TPL_CFG.FIRST.of cfg + k
    (d.reg .CRV_ACT_A j, d.reg .CRV_ACT_B j, d.reg .CRV_ACT_C j)

/-- The range checks of an enable (R247). -/
def tplRangeOk (d : Dev) (m : Nat) (cfg : Word) : Bool :=
  decide (d.int CRV_TPL_WIN.W_OPEN m < d.int CRV_TPL_WIN.W_CLOSE m ∧ CRV_TPL_CFG.CSLICE.of cfg ≤ 191 ∧
    CRV_TPL_CFG.FIRST.of cfg + CRV_TPL_CFG.NACT.of cfg ≤ 1023 ∧ d.get CRV_TPL_AUX.FOFS m ≤ 9830399 ∧
    d.get CRV_TPL_AUX.FALL_N m ≠ 0 ∧ d.get CRV_TPL_AUX.FSEL m ≠ 3) &&
  (wordsOf d cfg).all fun (a, b, c) => actionRange a b c && decide ((CRV_ACT_A.OFS.int a).natAbs ≤ 49152)

/-- An action that R239 lets a template carry: a value of TX or DUPLEX is GATED, an inverse never names them. -/
def actionGated (a _b c : Word) : Bool :=
  CRV_ACT_A.TYPE.of a != 3 ||
    ((!codeTransmits (CRV_ACT_C.VAL.of c) || CRV_ACT_A.GATED.bit a) &&
     !(CRV_ACT_A.HAS_INV.bit a && codeTransmits (CRV_ACT_C.INV.of c)))

/-- An action that R247 lets stand without an inverse. -/
def actionInverse (d : Dev) (m : Nat) (a : Word) : Bool :=
  CRV_ACT_A.TYPE.of a == 3 || CRV_ACT_A.GATED.bit a || CRV_ACT_A.HAS_INV.bit a ||
    decide (d.int CRV_TPL_WIN.W_CLOSE m ≤ CRV_ACT_A.OFS.int a)

/-- The rules of CRV_TPL_CFG. -/
def ruleTemplate (x : Wr) (d : Dev) : Verdict :=
  if !CRV_TPL_CFG.EN.bit x.w then .take
  else if d.flag CRV_TPL_CFG.EN x.i then .refuse (d.setBit CRV_ERR.TPL_LIVE)
  else
    let range := !tplRangeOk d x.i x.w
    let gate := !(wordsOf d x.w).all fun (a, b, c) => actionGated a b c
    let noInv := !(wordsOf d x.w).all fun (a, _, _) => actionInverse d x.i a
    refuseAll [(range, CRV_ERR.RANGE), (gate, CRV_ERR.GATE), (noInv, CRV_ERR.NO_INV)] 0 d

/-- An enable is journalled as one TABLE record over its action words (R247, R317); EN = 0 clears the contradicted run
(R254). -/
def actTemplate (e : Env) (x : Wr) (d : Dev) : Dev :=
  if CRV_TPL_CFG.EN.bit x.w then
    let first := CRV_TPL_CFG.FIRST.of x.w
    journalTable e x.by_ (RegName.CRV_ACT_A.addr first 0) (RegName.CRV_ACT_C.addr (first + CRV_TPL_CFG.NACT.of x.w) 0 + 3)
      (crcWords (templateWords d x.i)) false d
  else setTplRun e x.i 0 d

/-- The direct action that the CRV_DIR registers spell, in its own FIXED epoch (R252). -/
def directEpoch (d : Dev) : Epoch :=
  let t := d.get CRV_DIR_TIME.FRAME * frameCycles + d.get CRV_DIR_TIME.CYCLE
  { num := 0, ord := 0, tpl := none, confirmed := true, rise := true, setconf := false, cslice := 0, wOpen := t, wClose := t,
    fallN := 0, windowOpen := false, windowShut := true,
    acts := [actionOf (d.reg .CRV_DIR_A) (d.reg .CRV_DIR_B) (d.reg .CRV_DIR_C) t] }

/-- A direct action that R252 rejects: its time, a group value or inverse that transmits, or a range check. -/
def directBad (d : Dev) : Bool :=
  let a := d.reg .CRV_DIR_A
  let b := d.reg .CRV_DIR_B
  let c := d.reg .CRV_DIR_C
  let ahead := ftAhead (ftNow d) (d.get CRV_DIR_TIME.FRAME * frameCycles + d.get CRV_DIR_TIME.CYCLE)
  decide (9830399 < d.get CRV_DIR_TIME.CYCLE) || decide (ahead < 1967) ||
    (CRV_DIR_A.TYPE.of a == 3 &&
      (codeTransmits (CRV_DIR_C.VAL.of c) || (CRV_DIR_A.HAS_INV.bit a && codeTransmits (CRV_DIR_C.INV.of c)))) ||
    !actionRange a b c

/-- The rules of CRV_DIR_GO (R241, R252). -/
def ruleDirect (e : Env) (x : Wr) (d : Dev) : Verdict :=
  if !CRV_DIR_GO.GO.bit x.w then .take
  else if directBad d then .refuse (d.setBit CRV_ERR.DIR_REJ)
  else if openBarred d (directEpoch d) then .refuse d
  else
    let r := openEpoch e (directEpoch d) d
    if r.2 then .take else .refuse r.1

/-! ### Patrol (R257, R262, R273) -/

/-- A Patrol configuration word inside the ranges of its map and no looser than the Fixative. -/
def ptlCfgOk (e : Env) (n : RegName) (w : Word) : Bool :=
  match n with
  | .PTL_CFG =>
    let t := PTL_CFG.OSC_TRIM.of w
    decide (10 ≤ t ∧ t ≤ 200 ∧ 2 ≤ PTL_CFG.ISO_N.of w) &&
      (match e.fix with | some f => decide (PTL_CFG.ISO_MUTE.of w ≤ f.margin) | none => true)
  | .PTL_OSC => decide (3 ≤ PTL_OSC.OSC_N.of w ∧ 3 ≤ PTL_OSC.LINE_N.of w)
  | .PTL_TIME => decide (1 ≤ PTL_TIME.OSC_WIN.of w ∧ 1 ≤ PTL_TIME.OSC_REL.of w ∧ 1 ≤ PTL_TIME.DLOSS_REL.of w)
  | _ => decide (1 ≤ PTL_SWEEP.SWP_INT.of w)

/-- PTL_CTL: a STOP from any origin, and the release of latched slice mutes. DEDUCED (log 228): a SLICE above 191 discards nothing of the word
(R500), and SREL then finds no slice. -/
def actPatrol (e : Env) (x : Wr) (d : Dev) : Dev :=
  let d1 := if PTL_CTL.STOP.bit x.w then stopFor e .local_ d else d
  if PTL_CTL.SREL.bit x.w ∧ PTL_CTL.SLICE.of x.w ≤ 191 then patrolSrel (PTL_CTL.SLICE.of x.w) d1 else d1

/-- PTL_REL: the releases that need authority. -/
def actRelease (x : Wr) (d : Dev) : Dev :=
  let d1 := if PTL_REL.REL_STOP.bit x.w then stopMet (relStopMeets d x.by_.origin) d else d
  let d2 := if PTL_REL.REL_DL.bit x.w then patrolRelDir false d1 else d1
  if PTL_REL.REL_UL.bit x.w then patrolRelDir true d2 else d2

/-! ### Fault collector (R283, R286, R295, R297) -/

/-- A valid latch entry. -/
def entry? (d : Dev) (k : Nat) : Option Latch := d.flt.latch.lookup k

/-- The claim extension of a class. -/
def claimExt (d : Dev) (c : Cls) : Nat :=
  match c with
  | .slice => d.get FLT_CLAIMEXT.SLICE
  | .group => d.get FLT_CLAIMEXT.GROUP
  | .device => d.get FLT_CLAIMEXT.DEVICE
  | _ => 0

/-- A claim (R286): the state with the error bits, and whether it is accepted. -/
def claimTry (k : Nat) (d : Dev) : Dev × Bool :=
  match entry? d k with
  | none => ((d.setBit FLT_ERR.IDX).setBit FLT_ERR.CLAIM_REJ, false)
  | some x =>
    if x.live ∧ x.run = .runout ∧ !x.claimed ∧ claimExt d x.cls ≠ 0 then (d.setLatch k { x with claimed := true }, true)
    else (d.setBit FLT_ERR.CLAIM_REJ, false)

/-- An acknowledgement of one entry (R283), plain or authorised; one that is refused on both grounds sets both bits. An occurrence in the
same core cycle counts as a live entry does. -/
def ackTry (auth : Bool) (k : Nat) (d : Dev) : Dev × Bool :=
  match entry? d k with
  | none => (d.setBit FLT_ERR.IDX, false)
  | some x =>
    let safe := x.cls = .safety && !auth
    let live := x.live || decide (k ∈ d.flt.same)
    if live || safe then
      let d1 := if live then d.setBit FLT_ERR.ACK_LIVE else d
      (if safe then d1.setBit FLT_ERR.ACK_SAFE else d1, false)
    else (d.freeLatch k, true)

/-- FLT_ACK.ALL frees every entry neither live nor SAFETY (R283). For one with an occurrence in the same core cycle it is discarded with
ACK_LIVE. -/
def ackAll (d : Dev) : Dev :=
  let d1 := d.modFlt fun f => { f with latch := f.latch.filter fun p => p.2.live || p.2.cls = .safety || decide (p.1 ∈ f.same) }
  if d1.flt.latch.any fun p => !p.2.live && p.2.cls ≠ .safety then d1.setBit FLT_ERR.ACK_LIVE else d1

/-- A heartbeat of the active pair (R295, R395): supervision arms, a lost heartbeat ends, the handover's wait ends. -/
def heartbeat (d : Dev) : Dev :=
  let d1 := d.modFlt fun f => { f with beat := true, hbArmed := true, hbOk := true }
  clearLive { d1 with sup := { d1.sup with waitBeat := none } } Ev.FLT_HB_LOST

/-- A fault injection (R297). -/
def inject (e : Env) (w : Word) (d : Dev) : Dev :=
  let code := TST_FINJ.CODE.of w
  let inst := TST_FINJ.INST.of w
  let by_ := faultBy true
  match TST_FINJ.MODE.of w with
  | 0 => occur e d code inst { by_ := by_, inj := true }
  | 1 =>
    if isLive d code inst then d
    else
      let d1 := occur e (d.modFlt fun f => { f with live := f.live ++ [(code, inst)], injected := sadd f.injected (code, inst) }) code inst { by_ := by_, live := true, inj := true }
      if Ev.cls code inst = .device ∨ Ev.cls code inst = .safety then d1.modFlt fun f => { f with alive := false, aliveRun := false }
      else d1
  | _ => dropLive d code inst

/-! ### Recorder (R308, R318 to R320) -/

/-- A TIME_MARK record (R303, R318). -/
def timeMark (e : Env) (by_ : By) (d : Dev) : Dev :=
  let v := (d.reg .REC_MARK_HI).toNat * 4294967296 + (d.reg .REC_MARK_LO).toNat
  let prev := d.rcd.markSeq
  let (d1, n) := recordEvent e d Ev.TIME_MARK noInst
    { cls := .note, by_ := by_, backward := prev ≠ 0 && decide (v < d.rcd.markVal), own := [v % 4294967296, v / 4294967296, prev] }
  d1.modRcd fun x => { x with markVal := v, markSeq := if n = 0 then x.markSeq else n }

/-- A clear is accepted (R319): it waits for the flush before it, behind any other that waits. -/
def clearRequest (by_ : By) (a : Area) (d : Dev) : Dev :=
  startFlush false (d.modRcd fun x => { x with clrWait := x.clrWait ++ [(a, by_)] })

/-- The records of an area that are valid and not cleared, by sequence number. -/
def areaSeqs (d : Dev) (a : Area) : List Nat :=
  let l : List (Nat × MemSlot) := match a with | .varnish => d.rcd.varnish | .palette => d.rcd.palette
  l.filterMap fun p => match readSlot d a p.1 with | .valid r => some r.seq | _ => none

/-- An area is cleared: the CLEAR record goes to slot 0 of the area, whose older records read empty from now on, new records go
to the slots after it, and the background erase starts (R313, R319). -/
def clearArea (e : Env) (a : Area) (by_ : By) (d : Dev) : Dev :=
  let seqs := areaSeqs d a
  let cnt := (if a = .varnish then d.rcd.clrCntV else d.rcd.clrCntP) + 1
  let d1 := d.modRcd fun x =>
    { x with clrBusy := sadd x.clrBusy a
             vUsed := if a = .varnish then 1 else x.vUsed
             pHead := if a = .palette then (nextGood x.bad 8192 0 + 1) % 8192 else x.pHead
             clrCntV := if a = .varnish then cnt else x.clrCntV, clrCntP := if a = .palette then cnt else x.clrCntP
             clrSeqV := if a = .varnish then x.next else x.clrSeqV, clrSeqP := if a = .palette then x.next else x.clrSeqP }
  (recordEvent e d1 Ev.CLEAR noInst
    { cls := .note, aux := areaAux a 0, by_ := by_, varnish := a = .varnish
      own := [seqs.foldl max 0, seqs.length, cnt] }).1

/-- The clear that waits first runs once staging holds no unwritten new record: what its own batch has staged is flushed
before it, and its CLEAR record at once (R316, R319). While SHUTDOWN bars flushes it waits (R352). -/
def clearGo (e : Env) (d : Dev) : Dev :=
  match d.rcd.clrWait with
  | [] => d
  | (a, by_) :: rest =>
    if d.rcd.flushing ∨ (d.thm.sd ∧ d.thm.cool < 8) then d
    else if d.rcd.stg.any fun p => p.2.st = .new then startFlush false d
    else startFlush false (clearArea e a by_ (d.modRcd fun x => { x with clrWait := rest }))

/-- The background erase that started first has ended (R319): what lies at and above the next slot of the area is gone. -/
def clearErased (d : Dev) : Dev :=
  match d.rcd.clrBusy with
  | [] => d
  | .varnish :: l => d.modRcd fun x => { x with clrBusy := l, varnish := x.varnish.filter fun p => decide (p.1 < x.vUsed) }
  | .palette :: l => d.modRcd fun x => { x with clrBusy := l, palette := x.palette.filter fun p => decide (p.1 < x.pHead) }

/-- Slots of an area code of REC_RD_SEL. -/
def areaSlots (a : Nat) : Nat := match a with | 0 => 4096 | 1 => 8192 | 2 => 64 | _ => 0

/-! ### The block -/

/-- The rules of a word for these blocks. -/
def ruleOps (e : Env) (n : RegName) (x : Wr) (d : Dev) : Verdict :=
  match n with
  | .CRV_CTL =>
    let h := CRV_CTL.HORIZON.of x.w
    orRefuse (decide (h < 4 ∨ 640 < h)) CRV_ERR.CFG 0 d .take
  | .CRV_DIR_GO => ruleDirect e x d
  | .CRV_TPL_CFG => ruleTemplate x d
  | .CRV_TPL_WIN => orRefuse (d.flag CRV_TPL_CFG.EN x.i) CRV_ERR.TPL_LIVE 0 d .take
  | .CRV_TPL_AUX => orRefuse (d.flag CRV_TPL_CFG.EN x.i) CRV_ERR.TPL_LIVE 0 d .take
  | .CRV_ACT_A => orRefuse (actionLive d x.i) CRV_ERR.TPL_LIVE 0 d .take
  | .CRV_ACT_B => orRefuse (actionLive d x.i) CRV_ERR.TPL_LIVE 0 d .take
  | .CRV_ACT_C => orRefuse (actionLive d x.i) CRV_ERR.TPL_LIVE 0 d .take
  | .PTL_CFG => orDrop (!ptlCfgOk e n x.w) d .take
  | .PTL_OSC => orDrop (!ptlCfgOk e n x.w) d .take
  | .PTL_TIME => orDrop (!ptlCfgOk e n x.w) d .take
  | .PTL_SWEEP => orDrop (!ptlCfgOk e n x.w) d .take
  | .FLT_CFG =>
    let s := FLT_CFG.SHADOW.of x.w
    orRefuse (decide (s < 1 ∨ 100 < s)) FLT_ERR.CFG_REJ 0 d .take
  | .FLT_RUNOUT =>
    orRefuse (FLT_RUNOUT.DEVICE.of x.w == 0 || FLT_RUNOUT.GROUP.of x.w == 0 || FLT_RUNOUT.SLICE.of x.w == 0) FLT_ERR.CFG_REJ 0 d .take
  | .FLT_CLAIM =>
    if FLT_CLAIM.CLAIM.bit x.w then
      let r := claimTry (FLT_CLAIM.IDX.of x.w) d
      if r.2 then .take else .refuse r.1
    else .take
  | .FLT_ACK =>
    if FLT_ACK.ACK.bit x.w ∧ !FLT_ACK.ALL.bit x.w then
      let r := ackTry false (FLT_ACK.IDX.of x.w) d
      if r.2 then .take else .refuse r.1
    else .take
  | .FLT_ACKA =>
    if FLT_ACKA.ACK.bit x.w ∧ x.by_.role.isSome then
      let r := ackTry true (FLT_ACKA.IDX.of x.w) d
      if r.2 then .take else .refuse r.1
    else .take
  | .FLT_HB => orDrop (decide (x.by_.origin ≠ .firmware)) d .take
  | .TST_FINJ => orDrop (TST_FINJ.MODE.of x.w == 3 || !Ev.isIdentity (TST_FINJ.CODE.of x.w)) d .take
  | .REC_CFG =>
    let l := REC_CFG.FLUSH_LVL.of x.w
    orDrop (REC_CFG.FLUSH_INT.of x.w == 0 || decide (l < 8 ∨ 64 < l)) d .take
  | .REC_CLR => orDrop (x.by_.role.isSome && (REC_CLR.CLR_V.bit x.w || REC_CLR.CLR_P.bit x.w) && !d.rcd.clrBusy.isEmpty) d .take
  | .REC_RD_SEL => orDrop (decide (areaSlots (REC_RD_SEL.AREA.of x.w) ≤ REC_RD_SEL.SLOT.of x.w)) d .take
  | .REC_SNAP_CTL => orDrop (decide (8 < REC_SNAP_CTL.N.of x.w)) d .take
  | .REC_SNAP_ADDR => orDrop (decide (x.w.toNat % 4 ≠ 0)) d .take
  | _ => .take

/-- What an accepted word does in these blocks. -/
def actOps (e : Env) (n : RegName) (x : Wr) (_old : Word) (d : Dev) : Dev :=
  match n with
  | .CRV_CTL => if CRV_CTL.FLUSH.bit x.w ∨ !CRV_CTL.EN.bit x.w then unwindWhere (fun _ => true) d else d
  | .CRV_DIR_GO => if CRV_DIR_GO.GO.bit x.w then (openEpoch e (directEpoch d) d).1 else d
  | .CRV_TPL_CFG => actTemplate e x d
  | .PTL_CTL => actPatrol e x d
  | .PTL_REL => actRelease x d
  | .FLT_CLAIM => if FLT_CLAIM.CLAIM.bit x.w then (claimTry (FLT_CLAIM.IDX.of x.w) d).1 else d
  | .FLT_ACK =>
    let d1 := if FLT_ACK.ACK.bit x.w then (ackTry false (FLT_ACK.IDX.of x.w) d).1 else d
    if FLT_ACK.ALL.bit x.w then ackAll d1 else d1
  | .FLT_ACKA => if FLT_ACKA.ACK.bit x.w then (ackTry true (FLT_ACKA.IDX.of x.w) d).1 else d
  | .FLT_HB => heartbeat d
  | .TST_FINJ => if TST_FINJ.GO.bit x.w then inject e x.w d else d
  | .REC_CTL => if REC_CTL.FLUSH.bit x.w then startFlush false d else d
  | .REC_CLR =>
    let d1 := if REC_CLR.CLR_V.bit x.w then clearRequest x.by_ .varnish d else d
    if REC_CLR.CLR_P.bit x.w then clearRequest x.by_ .palette d1 else d1
  | .REC_MARK_GO => if REC_MARK_GO.GO.bit x.w then timeMark e x.by_ d else d
  | _ => d

end Sys2Proof.Machine
end

