-- ==== Sys2Proof/Machine/WriteRadio.lean ====
section
/-! DEFINITION. What writes to the identity, Lodge, power, frame-time, group, synthesiser, RFFE, TGPIO, chain and
calibration registers are judged by and do (chapters 2, 3, 4, 16 and 22). -/
namespace Sys2Proof.Machine

/-- The source codes of the four slots of a SYN_FT_CFG word. -/
def ftSlotsOf (w : Word) : List Nat := [SYN_FT_CFG.PRI0.of w, SYN_FT_CFG.PRI1.of w, SYN_FT_CFG.PRI2.of w, SYN_FT_CFG.PRI3.of w]

/-- A SYN_FT_CFG word that R47 accepts: codes 0 to 4, none but 0 in two slots. -/
def ftCfgOk (w : Word) : Bool :=
  let l := ftSlotsOf w
  l.all (fun c => decide (c ≤ 4)) && decide (l.filter fun c => c ≠ 0).Nodup

/-- A group write changes a mask outside SLEEP and STANDBY (R79). -/
def maskBarred (x : Wr) (d : Dev) : Bool :=
  decide (2 ≤ (d.group x.i).state.code) && (x.changes d SYN_GRP_CTL.TX_MASK || x.changes d SYN_GRP_CTL.RX_MASK)

/-- A SYN_TGPIO_CFG word that R89 discards. -/
def tgpioBad (w : Word) : Bool :=
  let grp := SYN_TGPIO_CFG.GRP.of w
  let mode := SYN_TGPIO_CFG.MODE.of w
  mode == 3 || grp == 3 || decide (3 < SYN_TGPIO_CFG.FSEL.of w) || (mode == 2 && grp == 2)

/-- SYN_TGPIO_OUT with the bits of held pins left as they are (R88). -/
def heldBits (d : Dev) (w : Word) : Word :=
  BitVec.ofNat 32 (maskOf fun n => bitOf (if pinHeld d n then d.reg .SYN_TGPIO_OUT else w).toNat n)

/-- The rules of a word for these blocks. -/
def ruleRadio (e : Env) (n : RegName) (x : Wr) (d : Dev) : Verdict :=
  match n with
  | .LDG_WAKE_CFG => orDrop (LDG_WAKE_CFG.RF_DWELL.of x.w == 0) d .take
  | .LDG_RFDET_CFG => orDrop (decide (40 < LDG_RFDET_CFG.TH.of x.w)) d .take
  | .PWR_CTL => if PWR_CTL.SLEEP.bit x.w ∧ d.pwr.sleep = .awake ∧
      (d.rcd.clrBusy ≠ [] ∨ bitOf d.boot.straps 4 ∨ noWake d) then .refuse (sleepRequest d) else .take
  | .PWR_DOZE_CFG => orDrop (PWR_DOZE_CFG.MIN_IDLE.of x.w == 0) d .take
  | .SYN_FT_CFG => orRefuse (!ftCfgOk x.w) SYN_FT_STAT.CFG_REJ 0 d .take
  | .SYN_FT_OFS => orRefuse (decide (frameCycles ≤ SYN_FT_OFS.OFS.of x.w)) SYN_FT_STAT.CFG_REJ 0 d .take
  | .SYN_TD_CFG => orRefuse (!tdCfgOk d x.w) SYN_TD_STAT.CFG_REJ x.i d .take
  | .SYN_GRP_CTL => orRefuse ((GSt.ofCode (SYN_GRP_CTL.TARGET.of x.w)).isNone || maskBarred x d) SYN_GRP_STAT.CFG_REJ x.i d .take
  | .SYN_LO_FREQ => orRefuse (!freqOk x.w.toNat) SYN_LO_STAT.FREQ_REJ x.i d .take
  | .SYN_RFFE_CFG => orDrop (SYN_RFFE_CFG.GRP.of x.w == 3) d .take
  | .SYN_RFFE_CMD => let r := rffeEnqueue e x.i x.w d; if r.2 then .take else .refuse r.1
  | .SYN_TGPIO_CFG => orDrop (tgpioBad x.w) d .take
  | .SYN_TGPIO_OUT => if heldBits d x.w = x.w then .take else .part (heldBits d x.w) d
  | .RXC_CFG => orRefuse (decide (60 < RXC_CFG.VGA.of x.w)) RXC_STAT.CFG_REJ x.i d .take
  | _ => .take

/-- A group write takes effect at once (R61, R76): REARM clears HELD and what it held, and the word requests its TARGET. -/
def groupWrite (e : Env) (g : Nat) (w : Word) (d : Dev) : Dev :=
  let d0 := groupDomains g d
  let d1 := if SYN_GRP_CTL.REARM.bit w then
      releasePins (.group g) (fun _ => true)
        (bdacUncauseAll (.group g) (fun _ => true) (d0.setGroup g { d0.group g with held := false }))
    else d0
  match GSt.ofCode (SYN_GRP_CTL.TARGET.of w) with
  | some t => calAtSynth e g (request g t d1)
  | none => d1

/-- A TGPIO configuration takes effect (R86, R89): an enable and a change of MODE start the mode afresh; on a held pin that
drives it waits for the release. DESIGN CHOICE (log 236): SAFE rewritten on an enabled pin acts at the next start of its mode or hold,
so a pin that drives SAFE keeps its level. -/
def tgpioWrite (n : Nat) (old w : Word) (d : Dev) : Dev :=
  if pinHeld d n then d
  else if SYN_TGPIO_CFG.EN.of w ≠ SYN_TGPIO_CFG.EN.of old ∨ SYN_TGPIO_CFG.MODE.of w ≠ SYN_TGPIO_CFG.MODE.of old then pinStart n d
  else followEdges d

/-- What an accepted word does in these blocks; `old` is the word stored before. -/
def actRadio (e : Env) (n : RegName) (x : Wr) (old : Word) (d : Dev) : Dev :=
  match n with
  | .PWR_CTL => if PWR_CTL.SLEEP.bit x.w then sleepRequest d else d
  | .PWR_DOZE_CFG => if PWR_DOZE_CFG.EN.bit x.w then d else forN 192 dozeLeave d
  | .SYN_FT_CFG => d.modSrc fun s => { s with cfgNew := true }
  | .SYN_GRP_CTL => groupWrite e x.i x.w d
  | .SYN_LO_FREQ => newFreq x.i x.w.toNat d
  | .SYN_RFFE_CFG => if SYN_RFFE_CFG.EN.bit old ∧ !SYN_RFFE_CFG.EN.bit x.w then rffeDisable x.i d else d
  | .SYN_RFFE_CMD => (rffeEnqueue e x.i x.w d).1
  | .SYN_TGPIO_CFG => tgpioWrite x.i old x.w d
  | .SYN_TGPIO_OUT => pinManual d
  | .CAL_CTL =>
    let d1 := if CAL_CTL.REQ_D.bit x.w then calRequest e 0 d else d
    if CAL_CTL.REQ_S.bit x.w then calRequest e 1 d1 else d1
  | _ => d

end Sys2Proof.Machine
end

