-- ==== Sys2Proof/Machine/WriteSlices.lean ====
section
/-! DEFINITION. What writes to the slice, latency, glaze, pool and spare registers are judged by and do (chapters 5, 6 and
18). -/
namespace Sys2Proof.Machine

/-! ### Configuration (R21, R119 to R124, R128) -/

/-- The configuration a slice would ask for with this write: the words of the slice with the written one in place. -/
def effWith (n : RegName) (x : Wr) (d : Dev) : SlEff := wantEff (d.setReg n x.i x.j x.w) x.i

/-- A word changes a field that R124 lets change only in IDLE. -/
def idleField (x : Wr) (d : Dev) : Bool :=
  [SLC_CFG0.DIR, SLC_CFG0.WIDTH, SLC_CFG0.MSET, SLC_CFG0.BRANCH, SLC_CFG0.PRIO].any (x.changes d)

/-- A word changes what a running slice takes over at the next boundary. -/
def runField (n : RegName) (x : Wr) (d : Dev) : Bool :=
  match n with
  | .SLC_CFG0 => [SLC_CFG0.CLASS, SLC_CFG0.SRC, SLC_CFG0.SINK].any (x.changes d)
  | _ => x.w != d.reg n x.i

/-- The delay-line blocks a slice is charged when it asks for a class: no fewer than it uses until the boundary. -/
def blocksWith (d : Dev) (s cls : Nat) : Nat := max (delayBlocks (d.slice s).eff.cls (latOf d s)) (delayBlocks cls (latNew d s))

/-- The checks of a change that a slice which is not IDLE is to take over (R124, R128, R120, R144). -/
def runChecks (e : Env) (n : RegName) (x : Wr) (d : Dev) : Verdict :=
  let s := x.i
  let y := effWith n x d
  let z := d.slice s
  if !rangeOk e d (isUl d s) y || !latFits d s y.cls then .refuse (d.setBit SLC_ERR.RANGE s)
  else if 1024 < suUsed d - z.su + suOf y.cls then .refuse (d.setBit SLC_ERR.SU s)
  else if poolFree d + z.dlBlk < blocksWith d s y.cls then .refuse (poolDenied e (d.setBit SLC_ERR.POOL s))
  else .take

/-- A write of CLASS, SRC, SINK or an NCO word of a slice that is not IDLE (R124, R128): the range check of every such write, and the other
checks of one that changes something. -/
def ruleRunning (e : Env) (n : RegName) (x : Wr) (d : Dev) : Verdict :=
  if runField n x d then runChecks e n x d
  else if rangeOk e d (isUl d x.i) (effWith n x d) then .take
  else .refuse (d.setBit SLC_ERR.RANGE x.i)

/-- The rules of SLC_CFG0, SLC_CFG1 and the NCO words. A word that routes wrongly sets DIR whatever else is wrong with it (R21). -/
def ruleSliceCfg (e : Env) (n : RegName) (x : Wr) (d : Dev) : Verdict :=
  let s := x.i
  let idle : Bool := (d.slice s).st = .idle
  match n with
  | .SLC_CFG0 =>
    let route := routeOk (SLC_CFG0.DIR.bit x.w) (SLC_CFG0.SRC.of x.w) (SLC_CFG0.SINK.of x.w)
    let d1 := if route then d else d.setBit SLC_ERR.DIR s
    if SLC_CFG0.WIDTH.of x.w = 3 ∨ 191 < SLC_CFG0.MSET.of x.w then .refuse (d1.setBit SLC_ERR.RANGE s)
    else if !idle && idleField x d then .refuse (d1.setBit SLC_ERR.STATE s)
    else if !route then .refuse d1
    else if !idle then ruleRunning e n x d
    else .take
  | .SLC_CFG1 =>
    if SLC_CFG1.FLEN.of x.w % 2 = 0 then .refuse (d.setBit SLC_ERR.RANGE s)
    else if !idle && x.changes d SLC_CFG1.FLEN then .refuse (d.setBit SLC_ERR.STATE s)
    else .take
  | _ => if !idle then ruleRunning e n x d else .take

/-- A running slice takes an accepted change over at the next boundary; what it needs more it is charged at once (R120,
R143). -/
def actSliceCfg (n : RegName) (x : Wr) (old : Word) (d : Dev) : Dev :=
  let s := x.i
  let moved := match n with
    | .SLC_CFG0 => [SLC_CFG0.CLASS, SLC_CFG0.SRC, SLC_CFG0.SINK].any fun f => f.of x.w != f.of old
    | .SLC_CFG1 => false
    | _ => x.w != old
  let z := d.slice s
  if z.st = .idle ∨ !moved then d
  else
    let cls := (wantEff d s).cls
    d.setSlice s { z with chg := true, su := max (suOf z.eff.cls) (suOf cls), dlBlk := blocksWith d s cls }

/-! ### SLC_CTL (R136, R139, R140) -/

/-- EN = 1 written to an IDLE slice is checked; where a check fails the bit is discarded (R139). -/
def ruleSliceCtl (e : Env) (x : Wr) (d : Dev) : Verdict :=
  if SLC_CTL.EN.bit x.w ∧ (d.slice x.i).st = .idle then
    let r := enableChecks e x.i d
    if r.2 then .take else .part (SLC_CTL.EN.into 0 x.w) r.1
  else .take

/-- EN by the state of the slice, then FMUTE; a write leaves doze (R358). The shed of SHUTDOWN does not
reverse (R351; DEDUCED, log 226). -/
def actSliceCtl (e : Env) (x : Wr) (d : Dev) : Dev :=
  let s := x.i
  let d1 := if SLC_CTL.EN.bit x.w then
      match (d.slice s).st with
      | .idle => enableSlice e x.by_ s d
      | .draining => if d.thm.sd then d else reverseDrain s d
      | _ => d
    else setMark (msetOf d s) (disableSlice e s d)
  dozeLeave s (if SLC_CTL.FMUTE.bit x.w then muteForce s d1 else d1)

/-! ### Gain (R133, R207) -/

/-- A gain as a value accepted by the slice's loop. -/
def actGain (x : Wr) (d : Dev) : Dev :=
  let l := d.loop x.i
  d.setLoop x.i { l with man := some (SLC_GAIN.GAIN.int x.w), manGo := l.manGo || l.mode = .open_ }

/-! ### Latency (R148, R150) -/

/-- The running slices of a direction. -/
def runningIn (d : Dev) (ul : Bool) : List Nat := (d.slices.map (·.1)).filter fun s => isUl d s == ul && (d.slice s).st != .idle

/-- Blocks that a direction's slices are charged for a latency asked for: no fewer than each uses until the boundary. -/
def latBlocks (d : Dev) (s lat : Nat) : Nat := max (d.slice s).dlBlk (delayBlocks (wantEff d s).cls lat)

/-- The rules of SLC_LAT. -/
def ruleLat (e : Env) (x : Wr) (d : Dev) : Verdict :=
  let lat := SLC_LAT.LAT.of x.w
  let ss := runningIn d (x.i == 1)
  if lat < 200 ∨ 1200 < lat ∨ ss.any (fun s => decide (nLat lat < minLat (wantEff d s).cls (flenOf d s))) then
    .refuse (d.setBit SLC_LAT.REJ_RANGE x.i)
  else
    let more := (ss.map fun s => latBlocks d s lat - (d.slice s).dlBlk).foldl (· + ·) 0
    if poolFree d < more then .refuse (poolDenied e (d.setBit SLC_LAT.REJ_POOL x.i)) else .take

/-- A changed latency takes effect at the next boundary; what the slices need more they are charged at once. -/
def actLat (x : Wr) (old : Word) (d : Dev) : Dev :=
  let lat := SLC_LAT.LAT.of x.w
  if lat = SLC_LAT.LAT.of old then d
  else
    let ul := x.i == 1
    let d1 := forL (runningIn d ul) (fun s d => d.modSlice s fun z => { z with dlBlk := latBlocks d s lat }) d
    { d1 with pool := if ul then { d1.pool with chgUl := true } else { d1.pool with chgDl := true } }

/-! ### Glaze swaps (R160, R163) -/

/-- A swap: on the slice, or on every enabled slice of its MIMO set, each as if the word had been written to it, and each request in
the journal (R161, R163). -/
def actGlaze (e : Env) (x : Wr) (d : Dev) : Dev :=
  if !SLC_GLZ_CTL.SWAP.bit x.w then d
  else
    let len := SLC_GLZ_CTL.LEN.of x.w
    if SLC_GLZ_CTL.SET.bit x.w then
      forL (setMembers d (msetOf d x.i)) (fun s d =>
        let d1 := if s = x.i then d else
          journalAdd { addr := RegName.SLC_GLZ_CTL.addr s 0, old := (d.reg .SLC_GLZ_CTL s).toNat, new := x.w.toNat } d
        glazeRequest e x.by_ len s (d1.put SLC_GLZ_CTL.LEN s len)) d
    else glazeRequest e x.by_ len x.i d

/-! ### Captures (R145) -/

/-- The rules of POOL_CAP_CFG: an ARM is refused while blocks are held, for a selection that does not exist, or for want of
blocks. -/
def ruleCapture (e : Env) (x : Wr) (d : Dev) : Verdict :=
  if POOL_CAP_CFG.POINT.of x.w = 3 ∨ POOL_CAP_CFG.TRIG.of x.w = 3 then .refuse d
  else if POOL_CAP_CFG.ARM.bit x.w then
    let n := POOL_CAP_CFG.BLOCKS.of x.w
    if 0 < d.pool.cap.blocks ∨ 191 < POOL_CAP_CFG.SLICE.of x.w ∨ n = 0 then .refuse (d.setBit POOL_CAP_STAT.REJ)
    else if poolFree d < n then .refuse (poolDenied e (d.setBit POOL_CAP_STAT.REJ))
    else .take
  else .take

/-- ARM takes the blocks, REL gives them back; ARM written 0 disarms a capture that has not been triggered. -/
def actCapture (x : Wr) (d : Dev) : Dev :=
  if POOL_CAP_CFG.ARM.bit x.w then
    { d with pool := { d.pool with cap := { blocks := POOL_CAP_CFG.BLOCKS.of x.w, armed := true } } }
  else if POOL_CAP_CFG.REL.bit x.w then { d with pool := { d.pool with cap := {} } }
  else { d with pool := { d.pool with cap := { d.pool.cap with armed := false } } }

/-! ### The block -/

/-- The rules of a word for these blocks. -/
def ruleSlices (e : Env) (n : RegName) (x : Wr) (d : Dev) : Verdict :=
  match n with
  | .SLC_CFG0 => ruleSliceCfg e n x d
  | .SLC_CFG1 => ruleSliceCfg e n x d
  | .SLC_NCO_RX => ruleSliceCfg e n x d
  | .SLC_NCO_TX => ruleSliceCfg e n x d
  | .SLC_GAIN =>
    let g := SLC_GAIN.GAIN.int x.w
    orRefuse (decide (g < -3000 ∨ 6000 < g)) SLC_ERR.GAIN_REJ x.i d .take
  | .SLC_CTL => ruleSliceCtl e x d
  | .SLC_GLZ_CTL =>
    let len := SLC_GLZ_CTL.LEN.of x.w
    orRefuse (decide (len < 64 ∨ 4096 < len)) SLC_ERR.RANGE x.i d .take
  | .SLC_COEF_A => orRefuse (!bankOpen d x.i false) SLC_ERR.BANK_LIVE x.i d .take
  | .SLC_COEF_B => orRefuse (!bankOpen d x.i true) SLC_ERR.BANK_LIVE x.i d .take
  | .SLC_LAT => ruleLat e x d
  | .SLC_SPARE_CTL =>
    if SLC_SPARE_CTL.GO.bit x.w then
      let d1 := spareRequest (SLC_SPARE_CTL.SLICE.of x.w) (SLC_SPARE_CTL.RET.bit x.w) d
      if d1.spr.waiting.length = d.spr.waiting.length then .refuse d1 else .take
    else .take
  | .POOL_CAP_CFG => ruleCapture e x d
  | _ => .take

/-- What an accepted word does in these blocks. -/
def actSlices (e : Env) (n : RegName) (x : Wr) (old : Word) (d : Dev) : Dev :=
  match n with
  | .SLC_CFG0 => actSliceCfg n x old d
  | .SLC_NCO_RX => actSliceCfg n x old d
  | .SLC_NCO_TX => actSliceCfg n x old d
  | .SLC_GAIN => actGain x d
  | .SLC_CTL => actSliceCtl e x d
  | .SLC_GLZ_CTL => actGlaze e x d
  | .SLC_LAT => actLat x old d
  | .SLC_SPARE_CTL =>
    if SLC_SPARE_CTL.GO.bit x.w then spareRequest (SLC_SPARE_CTL.SLICE.of x.w) (SLC_SPARE_CTL.RET.bit x.w) d else d
  | .POOL_CAP_CFG => actCapture x d
  | _ => d

end Sys2Proof.Machine
end

