-- ==== Sys2Proof/Machine/WriteSystem.lean ====
section
/-! DEFINITION. What writes to the bias DAC, housekeeping, thermal, Tow link, retained-state and supervisor registers are
judged by and do (chapters 14, 15, 17, 18 and 19). -/
namespace Sys2Proof.Machine

/-! ### Bias DACs (R325 to R335) -/

/-- A BDAC_CFG word with a discarded code. -/
def bdacCodeBad (w : Word) : Bool := BDAC_CFG.UPD.of w == 3 || BDAC_CFG.GRP.of w == 3

/-- The probe run of bias DAC mode in progress on channel `c` (R335). -/
def probeOn (d : Dev) (c : Nat) : Bool := d.prb.run.any fun r => r.dac && r.started && r.chan == c

/-- BDAC_CFG takes effect: EN by the state of the channel, a sine ends with its mode, and a channel that was in sine mode has been
in it within this reading of its pin (R325, R335, R336). -/
def actBdacCfg (c : Nat) (old w : Word) (d0 : Dev) : Dev :=
  let d := if BDAC_CFG.MODE.bit old then d0.setChan c { d0.chan c with moved := true } else d0
  let x := d.chan c
  let d1 := if x.sineOn && !BDAC_CFG.MODE.bit w then
      (d.setChan c { x with sineOn := false, sineStop := false, probe := none, acc := 0
                            out := if x.st = .drive then x.t else x.out }).put BDAC_SINE.RUN c 0
    else d
  if BDAC_CFG.EN.bit w then bdacEnable c d1 else bdacDisable c d1

/-- A code written by software (R329). -/
def actCode (c code : Nat) (d : Dev) : Dev :=
  let x := d.chan c
  if d.get BDAC_CFG.UPD c = 0 then d.setChan c { x with imm := some code }
  else d.setChan c { x with pcode := code, pend := true }

/-- BDAC_SINE.RUN (R335): 1 starts the sine at phase 0, a running one too, and 0 stops it at the next zero crossing. DESIGN
CHOICE (log 208): while a channel parks, is PARKED, changes span or is under a park cause, a RUN = 1 starts nothing and reads 0. -/
def actSine (c : Nat) (w : Word) (d : Dev) : Dev :=
  let x := d.chan c
  if BDAC_SINE.RUN.bit w then
    if x.st = .parking ∨ x.st = .parked ∨ x.st = .span ∨ !x.pcause.isEmpty then d.put BDAC_SINE.RUN c 0
    else d.setChan c { x with sineOn := true, sineStop := false, acc := 0, moved := true, probe := none }
  else if x.sineOn then d.setChan c { x with sineStop := true } else d

/-- A strobe: the channels named load at the next update tick where UPD is strobe (R331). -/
def strobe (which : Nat → Bool) (d : Dev) : Dev :=
  let l := (List.range 48).filter fun c => which c && d.get BDAC_CFG.UPD c == 1
  { d with bdac := { d.bdac with load := l.foldl sadd d.bdac.load } }

/-! ### The supervisor (R398, R401, R405) -/

/-- OPEN reserves LEN blocks (R401); `len` is the LEN of the same word. -/
def authOpen (e : Env) (len : Nat) (d : Dev) : Dev :=
  if poolFree d < len then poolDenied e { d with auth := { d.auth with result := 9, rejCnt := 0 } }
  else { d with authBlocks := len, auth := { d.auth with words := [] } }

/-- The buffer and its blocks are released. -/
def authRelease (d : Dev) : Dev := { d with authBlocks := 0, auth := { d.auth with words := [] } }

/-- SUBMIT (R402, R405): the nonce takes a new value; during the lockout the command ends at once. -/
def authSubmit (by_ : By) (d : Dev) : Dev :=
  let a := { d.auth with nonce := d.auth.nonce + 1 }
  if d.auth.lock then authRelease { d with auth := { a with result := 11, rejCnt := 0 } }
  else { d with auth := { a with submit := some by_ } }

/-- The bits of SUP_AUTH_CTL, OPEN first. While a command is verified none of them acts. -/
def actAuth (e : Env) (x : Wr) (d : Dev) : Dev :=
  if d.auth.submit.isSome then d
  else
    let len := SUP_AUTH_CTL.LEN.of x.w
    let d1 := if SUP_AUTH_CTL.OPEN.bit x.w ∧ d.authBlocks = 0 ∧ 1 ≤ len ∧ len ≤ 160 then authOpen e len d else d
    let d2 := if SUP_AUTH_CTL.ABORT.bit x.w then authRelease d1 else d1
    if SUP_AUTH_CTL.SUBMIT.bit x.w then authSubmit x.by_ d2 else d2

/-- A byte of the open buffer, at a byte offset. -/
def authByte (k b : Nat) (d : Dev) : Dev :=
  let w := (tget (fun _ => 0#32) d.auth.words (k / 4)).toNat
  { d with auth := { d.auth with words := tset (fun _ => 0#32) d.auth.words (k / 4) (BitVec.ofNat 32 (putBits w (8 * (k % 4)) 8 b)) } }

/-- A word of the open buffer, at block × 1,024 + index. -/
def authWord (k : Nat) (w : Word) (d : Dev) : Dev :=
  { d with auth := { d.auth with words := tset (fun _ => 0#32) d.auth.words k w } }

/-- The rules of SUP_AUTH_CTL: an OPEN with a buffer open or with LEN out of range is discarded, and BLK names a block. -/
def ruleAuth (x : Wr) (d : Dev) : Verdict :=
  let len := SUP_AUTH_CTL.LEN.of x.w
  orDrop (d.auth.submit.isSome && decide (SUP_AUTH_CTL.OPEN.bit x.w ∨ SUP_AUTH_CTL.SUBMIT.bit x.w ∨ SUP_AUTH_CTL.ABORT.bit x.w)) d
    (orDrop (SUP_AUTH_CTL.OPEN.bit x.w && decide (0 < d.authBlocks ∨ len < 1 ∨ 160 < len)) d .take)

/-! ### The block -/

/-- The rules of a word for these blocks. -/
def ruleSystem (n : RegName) (x : Wr) (d : Dev) : Verdict :=
  match n with
  | .BDAC_CFG =>
    orRefuse (bdacCodeBad x.w) BDAC_ERR.CFG x.i d
      (orRefuse (x.changes d BDAC_CFG.PARK && ((d.chan x.i).st = .parking || (d.chan x.i).st = .parked) && (d.chan x.i).pcause.all (· ≠ .warm))
        BDAC_ERR.STATE x.i d
        (orRefuse (BDAC_CFG.MODE.bit x.w && BDAC_CFG.SLEW.of x.w != 0) BDAC_ERR.SINE_SLEW x.i d .take))
  | .BDAC_CODE => orRefuse (loopDriven d x.i) BDAC_ERR.OWNED x.i d .take
  | .BDAC_SPAN =>
    let st := (d.chan x.i).st
    orRefuse (BDAC_SPAN.GO.bit x.w &&
      decide (st = .parking ∨ st = .offing ∨ st = .span)) BDAC_ERR.SPAN x.i d .take
  | .BDAC_SINE =>
    let f := BDAC_SINE.FREQ.of x.w
    orRefuse (probeOn d x.i) BDAC_ERR.STATE x.i d
      (orRefuse (decide (f < 1 ∨ 100000 < f) || (BDAC_SINE.RUN.bit x.w && !d.flag BDAC_CFG.MODE x.i)) BDAC_ERR.CFG x.i d .take)
  | .BDAC_TT_LO => orDrop (d.flag BDAC_TT_CTL.ARM) d .take
  | .BDAC_TT_HI => orDrop (d.flag BDAC_TT_CTL.ARM) d .take
  | .BDAC_TT_CTL => orRefuse (BDAC_TT_CTL.ARM.bit x.w && decide (timerTime d < towNow d)) BDAC_TT_CTL.LATE 0 d .take
  | .HK_CFG => let t := HK_CFG.SUP_TOL.of x.w; orDrop (decide (t < 1 ∨ 40 < t)) d .take
  | .THM_CFG => orRefuse (!thmCfgOk x.w) THM_STAT.CFG_REJ 0 d .take
  | .TOW_HB_CFG => let p := TOW_HB_CFG.PER.of x.w; orDrop (decide (p < 10 ∨ 10000 < p)) d .take
  | .TOW_TIME_CFG =>
    let s := TOW_TIME_CFG.SYNC_INT.of x.w
    orDrop (decide (TOW_TIME_CFG.STEP_TH.of x.w < 64 ∨ s < 1 ∨ 100 < s)) d .take
  | .CAL_RET_CTL => orDrop (decide (CAL_RET_CTL.COMMIT_INT.of x.w < 4)) d .take
  | .SUP_HO_CTL => orRefuse (SUP_HO_CTL.GO.bit x.w && ((pairIn d .ready).isNone || d.sup.pend)) SUP_HO_STAT.HO_REJ 0 d .take
  | .SUP_AUTH_CTL => ruleAuth x d
  | .SUP_AUTH_WIN => orDrop (decide (d.authBlocks ≤ d.get SUP_AUTH_CTL.BLK) || d.auth.submit.isSome) d .take
  | _ => .take

/-- What an accepted word does in these blocks. -/
def actSystem (e : Env) (n : RegName) (x : Wr) (old : Word) (d : Dev) : Dev :=
  match n with
  | .BDAC_CFG => actBdacCfg x.i old x.w d
  | .BDAC_CODE => actCode x.i (BDAC_CODE.CODE.of x.w) d
  | .BDAC_SPAN =>
    if BDAC_SPAN.GO.bit x.w then
      (spanChange x.i (BDAC_SPAN.SPAN.of x.w) (BDAC_SPAN.PARK_NEW.of x.w) (BDAC_SPAN.CODE_NEW.of x.w) d).1
    else d
  | .BDAC_SINE => actSine x.i x.w d
  | .BDAC_LOAD0 => strobe (fun c => decide (c < 32) && bitOf x.w.toNat c) d
  | .BDAC_LOAD1 => strobe (fun c => BDAC_LOAD1.ALL.bit x.w || (decide (32 ≤ c) && bitOf x.w.toNat (c - 32))) d
  | .BDAC_TT_CTL =>
    if BDAC_TT_CTL.ARM.bit x.w then { d with bdac := { d.bdac with ttDone := false } } else d
  | .TOW_PORT_CFG =>
    lineFill (x.i == 1) (if !TOW_PORT_CFG.EN.bit x.w ∧ (towPort d (x.i == 1)).link ≠ .down then portDown e (x.i == 1) d else d)
  | .TOW_TIME_SET_GO => if TOW_TIME_SET_GO.GO.bit x.w then towTimeSet e d else d
  | .TOW_PAIR_CTL => if TOW_PAIR_CTL.REL.bit x.w then tokenRel d else d
  | .TOW_HEAD_CTL => if TOW_HEAD_CTL.ENUM.bit x.w then enumerate e none d else d
  | .TOW_HEAD_PROM =>
    if TOW_HEAD_PROM.GO.bit x.w then promote e (TOW_HEAD_PROM.SPARE.of x.w) (TOW_HEAD_PROM.TARGET.of x.w) d else d
  | .TOW_HEAD_MBX =>
    let d1 := if TOW_HEAD_MBX.SEND.bit x.w then mailboxSend e d else d
    if TOW_HEAD_MBX.POP.bit x.w then mailboxPop d1 else d1
  | .CAL_RET_CTL =>
    let d1 := if CAL_RET_CTL.DISCARD.bit x.w then d.modRet fun r => { r with disc := true } else d
    if CAL_RET_CTL.COMMIT.bit x.w then commitStart d1 else d1
  | .SUP_CTL => if SUP_CTL.WARM.bit x.w then { d with boot := { d.boot with warmReq := true } } else d
  | .SUP_HO_CTL => if SUP_HO_CTL.GO.bit x.w then handoverGo d else d
  | .SUP_AUTH_CTL => actAuth e x d
  | .SUP_AUTH_WIN =>
    let d1 := authWord (1024 * d.get SUP_AUTH_CTL.BLK + x.i) x.w d
    { d1 with eng := { d1.eng with bulk := true } }
  | _ => d

end Sys2Proof.Machine
end

