-- ==== Sys2Proof/Machine/HostWrite.lean ====
section
/-! DEFINITION. A write to a register from any origin (R15 to R19, R382, R394, R398, R489, R500) and the batch that it belongs
to (R315, R316). -/
namespace Sys2Proof.Machine

/-! ### Field by field (R16, R500) -/

/-- The RWA fields that act when written with 1 and read 0. -/
def actionField (f : Fld) : Bool :=
  decide (f ∈ [PTL_REL.REL_STOP, PTL_REL.REL_DL, PTL_REL.REL_UL, FLT_ACKA.ACK, SUP_CTL.WARM, CAL_RET_CTL.DISCARD, REC_CLR.CLR_V,
    REC_CLR.CLR_P, SUP_HO_CTL.GO])

/-- Every loop that selects a LOOP_LUT table is OPEN or MANUAL (R207). -/
def lutFree (d : Dev) (t : Nat) : Bool := (List.range 256).all fun i => d.get LOOP_CFG.LUT_SEL i != t || ownerFree d i

/-- Whether the owner of an RWO field accepts a write (R16), and the error bit that a refusal sets. -/
def rwoOwner (d : Dev) (n : RegName) (i : Nat) : Bool × Fld × Nat :=
  match n with
  | .SLC_GAIN => (ownerFree d i, SLC_ERR.GAIN_REJ, i)
  | .TXC_CFG => (ownerFree d (192 + i), TXC_STAT.ATT_REJ, i)
  | .LOOP_LUT => (lutFree d i, LOOP_STAT.LUT_REJ, 0)
  | _ => (ownerFree d i, LOOP_ISTAT.CFG_REJ, i)

/-- A field that instance `i` of its register has: LOOP_CFG.STN is reserved for loops 192 to 255. -/
def hasField (f : Fld) (i : Nat) : Bool := !(f = LOOP_CFG.STN && decide (192 ≤ i))

/-- What R500 makes of a word before the register's own rules. -/
structure Judged where
  /-- The word with every refused field at the value it holds, and refused actions at 0. -/
  w : Word
  /-- Some field takes effect. -/
  takes : Bool := false
  /-- A refused field was written with another value, or a refused action with 1. -/
  diff : Bool := false
  /-- The word counts as an authorisation failure. -/
  fail : Bool := false
  /-- A locked RWL field was written, and with another value than it keeps (R489). -/
  lockHit : Bool := false
  lockDiff : Bool := false
  d : Dev

/-- Judge one field. -/
def judgeField (held : Word) (n : RegName) (i : Nat) (authorised : Bool) (p : Fld × Acc) (z : Judged) : Judged :=
  let f := p.1
  let v := f.of z.w
  let h := f.of held
  if !hasField f i then z
  else match p.2 with
  | .rwo =>
    let (ok, bit, k) := rwoOwner z.d n i
    if ok then { z with takes := true }
    else { z with w := f.into h z.w, diff := z.diff || v != h, d := z.d.setBit bit k }
  | .rwl =>
    if z.d.flag GLB_LOCK.LOCK then
      { z with w := f.into h z.w, diff := z.diff || v != h, lockHit := true, lockDiff := z.lockDiff || v != h }
    else { z with takes := true }
  | .rwa =>
    if authorised then { z with takes := true }
    else
      let tried := if actionField f then v != 0 else v != h
      { z with w := f.into (if actionField f then 0 else h) z.w, diff := z.diff || tried, fail := z.fail || tried }
  | _ => { z with takes := true }

/-- Judge a word. -/
def judgeWord (e : Env) (r : Reg) (x : Wr) (d : Dev) : Judged :=
  forL r.name.fields (judgeField (view e d r.name r.i r.j) r.name r.i x.by_.role.isSome) { w := x.w, d := d }

/-! ### Storing -/

/-- Registers whose written value lives in typed state. -/
def RegName.elsewhere (n : RegName) : Bool := decide (n ∈ [.SLC_GAIN, .LOOP_CTL, .BDAC_CODE, .SUP_AUTH_WIN])

/-- The stored word after a write: fields that hold a value take it, a 1 clears a W1C bit, and the rest stays. -/
def storedWord (n : RegName) (i : Nat) (w old : Word) : Word :=
  n.fields.foldl (fun acc p =>
    let f := p.1
    if !hasField f i || actionField f then acc
    else match p.2 with
    | .wo => acc
    | .w1c => BitVec.ofNat 32 (acc.toNat - f.of acc * 2 ^ f.lo + (f.of acc - (f.of acc &&& f.of w)) * 2 ^ f.lo)
    | _ => f.into (f.of w) acc) old

/-- Store an accepted word. -/
def storeWord (r : Reg) (w : Word) (d : Dev) : Dev :=
  if r.name.elsewhere then d else d.setReg r.name r.i r.j (storedWord r.name r.i w (d.reg r.name r.i r.j))

/-! ### Rules and effects, by block -/

/-- The register's own rules. -/
def ruleOf (e : Env) (n : RegName) (x : Wr) (d : Dev) : Verdict :=
  let b := n.block
  if b ≤ 5 ∨ n = .CAL_CTL then ruleRadio e n x d
  else if b = 0x10 ∨ b = 0x80 then ruleSlices e n x d
  else if b = 0x20 ∨ b = 0x30 ∨ b = 0x38 then ruleEngines e n x d
  else if b = 0x3C ∨ b = 0x40 ∨ b = 0x48 ∨ b = 0x50 ∨ b = 0xF0 then ruleOps e n x d
  else ruleSystem n x d

/-- The effect of an accepted word. -/
def actOf (e : Env) (n : RegName) (x : Wr) (old : Word) (d : Dev) : Dev :=
  let b := n.block
  if b ≤ 5 ∨ n = .CAL_CTL then actRadio e n x old d
  else if b = 0x10 ∨ b = 0x80 then actSlices e n x old d
  else if b = 0x20 ∨ b = 0x30 ∨ b = 0x38 then actEngines e n x old d
  else if b = 0x3C ∨ b = 0x40 ∨ b = 0x48 ∨ b = 0x50 ∨ b = 0xF0 then actOps e n x old d
  else actSystem e n x old d

/-! ### The journal (R315, R317) -/

/-- Registers whose writes a TABLE, TIME_MARK or CLEAR record stands for, or that R315 leaves out. -/
def RegName.recordedElse (n : RegName) : Bool :=
  n.unjournalled || decide (n ∈ [.SLC_COEF_A, .SLC_COEF_B, .LOOP_LUT, .CRV_TPL_WIN, .CRV_TPL_AUX, .CRV_ACT_A, .CRV_ACT_B, .CRV_ACT_C, .REC_CLR])

/-- The only effect of a word is W1C (R315): no field of another kind acts or changes. -/
def onlyW1c (n : RegName) (w held : Word) : Bool :=
  (n.fields.any fun p => p.2 = .w1c && p.1.of w != 0) &&
    n.fields.all fun p => match p.2 with
      | .w1c => true
      | .wo => p.1.of w == 0
      | _ => p.1.of w == p.1.of held

/-- A register of W1C fields alone. -/
def RegName.w1cOnly (n : RegName) : Bool := n.fields.all fun p => p.2 = .w1c

/-- Whether an accepted write is journalled. -/
def journals (n : RegName) (w held : Word) : Bool :=
  !n.recordedElse && !n.w1cOnly && !onlyW1c n w held &&
    !(n = .CRV_TPL_CFG && !(CRV_TPL_CFG.EN.bit held && !CRV_TPL_CFG.EN.bit w))

/-! ### A write -/

/-- What becomes of a write: 0 done, 1 gated, 2 discarded or taken in part, 3 malformed, 4 busy, 5 discarded before the
enabling pass has ended (R14, R482). -/
structure Wrote where
  d : Dev
  res : Nat
  /-- The word was discarded: no field of it took effect (R500). -/
  gone : Bool := true
  /-- It counts as a discarded write of a start-up pass (R379): the word was discarded, and not for locked fields that keep the written
  value alone; or a locked field keeps another one (R489). -/
  missed : Bool := true

/-- The start-up phase lets an origin write (R382). Debug writes come through REG_ACCESS alone, which TEST_MODE high at the rising edge
of RESET_N closes, and which takes no access before the one in progress has completed (R14); the writes of an authorised command are
no access. -/
def phaseOpen (d : Dev) (x : By) : Bool :=
  match x.origin with
  | .tow | .spi => d.boot.phase = .run || d.boot.phase = .fallback
  | .debug => d.jtag.open_ && (x.role.isSome || d.jtag.acc.isNone) && (d.boot.phase = .run || d.boot.phase = .fallback)
  | .firmware => d.boot.phase = .apply || d.boot.phase = .enable || d.boot.phase = .run || d.boot.phase = .fallback
  | _ => true

/-- The active pair takes no write from an origin at present (R394): a heartbeat of the firmware is what ends the wait. -/
def pairBusy (d : Dev) (n : Option RegName) (x : By) : Bool :=
  x.role.isNone && match x.origin with
    | .tow | .spi | .debug => handoverHolds d
    | .firmware => d.sup.frozen && n != some .FLT_HB
    | _ => false

/-- SUP_WR_EN closes an origin (R398). -/
def gated (d : Dev) (n : RegName) (x : By) : Bool :=
  x.role.isNone && n != .SUP_AUTH_CTL && n != .SUP_AUTH_WIN && match x.origin with
    | .tow => !d.flag SUP_WR_EN.TOW
    | .spi => !d.flag SUP_WR_EN.SPI
    | .debug => !d.flag SUP_WR_EN.DEBUG
    | _ => false

/-- The register a write reaches: the factory test block is closed to the Primer, the Tow link, the service SPI and
authorised commands (R297). -/
def writeTarget (e : Env) (d : Dev) (x : By) (a : Nat) : Option Reg :=
  match occupant e d a with
  | some r => if r.name = .TST_FINJ ∧ ((x.origin = .primer ∨ x.origin = .tow ∨ x.origin = .spi) ∨ x.role.isSome) then none else some r
  | none => none

/-- The journal entry of an accepted write (R315, R317): the value written, or what the register then holds where only a part
was taken. -/
def noteWord (e : Env) (r : Reg) (part : Bool) (w held : Word) (d : Dev) : Dev :=
  if journals r.name w held then
    let new := if part then view e d r.name r.i r.j else w
    Dev.modRet (journalAdd { addr := r.name.addr r.i r.j, old := held.toNat, new := new.toNat } d) fun t => { t with dirty := true }
  else d

/-- The register takes a word that R500 and its own rules leave: it is stored, acts, and enters the journal. `part` where some
field was refused. -/
def takeWord (e : Env) (r : Reg) (x : Wr) (part : Bool) (held : Word) (d : Dev) : Dev :=
  let old := d.reg r.name r.i r.j
  let fmute := d.get SLC_CTL.FMUTE r.i
  let d1 := actOf e r.name x old (storeWord r x.w d)
  let idle := part && r.name = .SLC_CTL && SLC_CTL.FMUTE.of x.w == fmute
  if idle then d1 else noteWord e r part x.w held d1

/-- A plain write that tries an RWA field counts as an authorisation failure (R500). -/
def countFail (c : Bool) (d : Dev) : Dev :=
  if c then { d with auth := { d.auth with failCnt := satN (d.auth.failCnt + 1) 0xFF } } else d

/-- A word reaches its register (R500). -/
def writeReg (e : Env) (by_ : By) (r : Reg) (w : Word) (d : Dev) : Wrote :=
  let held := view e d r.name r.i r.j
  let z := judgeWord e r { by_ := by_, i := r.i, j := r.j, w := w } d
  let d1 := countFail z.fail z.d
  if r.name.fields.isEmpty then { d := d1, res := 0 }
  else if !z.takes then { d := d1, res := if z.diff then 2 else 0, missed := z.lockDiff || !z.lockHit }
  else
    let x : Wr := { by_ := by_, i := r.i, j := r.j, w := z.w }
    match ruleOf e r.name x d1 with
    | .refuse d2 => { d := d2, res := 2 }
    | .part w2 d2 => { d := takeWord e r { x with w := w2 } true held d2, res := 2, gone := false, missed := z.lockDiff }
    | .take => { d := takeWord e r x z.diff held d1, res := if z.diff then 2 else 0, gone := false, missed := z.lockDiff }

/-- What a write answers that a handover holds: BUSY, before anything else is judged (R394). -/
def busyResult (x : By) : Nat := if x.origin = .debug then 2 else 4

/-- One write, outside its batch's end. DESIGN CHOICE (log 206): a debug write that a handover holds gives RESULT 2, since R14 does not
list BUSY. -/
def writeWord (e : Env) (by_ : By) (a : Nat) (w : Word) (d : Dev) : Wrote :=
  if a % 4 ≠ 0 then { d := d, res := 3 }
  else match writeTarget e d by_ a with
  | none =>
    if pairBusy d none by_ then { d := d, res := busyResult by_ }
    else { d := report e d (Ev.addrUnmapped (unmappedSrc e a)), res := 2 }
  | some r =>
    if !phaseOpen d by_ then { d := d, res := 5 }
    else if pairBusy d (some r.name) by_ then { d := d, res := busyResult by_ }
    else if gated d r.name by_ then { d := d.put SUP_WR_EN.DIS_CNT 0 (satN (d.get SUP_WR_EN.DIS_CNT + 1) 0xFF), res := 1 }
    else writeReg e by_ r w d

/-- A write that is a batch of its own (R316). -/
def hostWrite (e : Env) (by_ : By) (a : Nat) (w : Word) (d : Dev) : Dev := closeBatch e by_ (writeWord e by_ a w d).d

/-- What an accepted write of a whole word does, with the register's own effect: the word is stored, acts, enters the journal,
and the batch closes. -/
def written (e : Env) (by_ : By) (n : RegName) (i j : Nat) (w : Word) (act : Dev → Dev) (d : Dev) : Dev :=
  closeBatch e by_ (noteWord e ⟨n, i, j⟩ false w (view e d n i j) (act (storeWord ⟨n, i, j⟩ w d)))

/-- The writes of one batch, in order; the worst result, the number of words that the RESULT of R500 counts, and the number of
words that were discarded. -/
structure BatchRes where
  d : Dev
  res : Nat := 0
  count : Nat := 0
  gone : Nat := 0

/-- A result that a batch reports rather than another: gated, busy and start-up before a partial one. -/
def worse (a b : Nat) : Nat := if a = 0 then b else if b = 0 then a else if a = 2 then b else a

/-- Apply writes one after another. -/
def writeAll (e : Env) (by_ : By) (l : List (Nat × Word)) (z : BatchRes) : BatchRes :=
  l.foldl (fun z p =>
    let x := writeWord e by_ p.1 p.2 z.d
    { d := x.d, res := worse z.res x.res, count := z.count + (if x.res = 0 then 0 else 1), gone := z.gone + b2n x.gone }) z

/-- The register runs of R375: a word W with N in bits 31 to 24 and the word address in bits 21 to 0, then N values. None
where the words do not follow the form. -/
def parseRuns : Nat → List Nat → Option (List (Nat × Word))
  | _, [] => some []
  | 0, _ => none
  | k + 1, w :: rest =>
    let n := bitsOf w 24 8
    if n = 0 ∨ bitsOf w 22 2 ≠ 0 ∨ rest.length < n then none
    else
      match parseRuns k (rest.drop n) with
      | some l =>
        some (((List.range n).zip (rest.take n)).map (fun p => (4 * (bitsOf w 0 22 + p.1), BitVec.ofNat 32 p.2)) ++ l)
      | none => none

/-- The words of a list of bytes, least significant byte first. -/
def wordsOfBytes (bs : List Nat) : List Nat := (List.range (bs.length / 4)).map fun k => leAt bs (4 * k) 4

/-- The register runs that a list of bytes spells. -/
def runsOf (bs : List Nat) : Option (List (Nat × Word)) :=
  if bs.length % 4 ≠ 0 then none else let ws := wordsOfBytes bs; parseRuns ws.length ws

end Sys2Proof.Machine
end

