-- ==== Sys2Proof/Machine/Fixative.lean ====
section
/-! DEFINITION. The Fixative record (R406, R407) and its update (R408). -/
namespace Sys2Proof.Machine

/-! ### The record (R406) -/

/-- A signed two-byte field. -/
def leInt16 (bs : List Nat) (i : Nat) : Int := toSigned 16 (leAt bs i 2)

/-- The `n` allowed ranges at byte `i`: low and high edge in kHz. -/
def rangesAt (bs : List Nat) (i n : Nat) : List (Nat × Nat) :=
  (List.range n).map fun r => (leAt bs (i + 8 * r) 4, leAt bs (i + 8 * r + 4) 4)

/-- The record that 768 bytes spell. -/
def fixOfBytes (bs : List Nat) : Fix :=
  { version := leAt bs 6 2
    pmax := (List.range 8).map fun c => leInt16 bs (8 + 2 * c)
    gmaxDl := leAt bs 24 2, gmaxUl := leAt bs 26 2, margin := leAt bs 28 2, noiseMax := leInt16 bs 30, duty := leAt bs 32 2
    oorMax := leInt16 bs 34
    dl := rangesAt bs 64 (min 32 (leAt bs 36 1)), ul := rangesAt bs 320 (min 32 (leAt bs 37 1))
    keyF := leAt bs 576 32, keyO := leAt bs 608 32, keyI := leAt bs 640 32 }

/-- Ranges laid out in 256 bytes. -/
def rangeBytes (l : List (Nat × Nat)) : List Nat :=
  sliceBytes (l.flatMap fun p => leBytes 4 p.1 ++ leBytes 4 p.2) 0 256

/-- The 768 bytes of a record. -/
def Fix.bytes (f : Fix) : List Nat :=
  [0x53, 0x4C, 0x4E, 0x46] ++ leBytes 2 1 ++ leBytes 2 f.version ++
  sliceBytes (f.pmax.flatMap fun z => leBytes 2 (fromSigned 16 z)) 0 16 ++
  leBytes 2 f.gmaxDl ++ leBytes 2 f.gmaxUl ++ leBytes 2 f.margin ++ leBytes 2 (fromSigned 16 f.noiseMax) ++ leBytes 2 f.duty ++
  leBytes 2 (fromSigned 16 f.oorMax) ++ [f.dl.length, f.ul.length] ++ List.replicate 26 0 ++
  rangeBytes f.dl ++ rangeBytes f.ul ++ leBytes 32 f.keyF ++ leBytes 32 f.keyO ++ leBytes 32 f.keyI ++ List.replicate 96 0

/-- The number of bytes of a section of the record that are not 0. -/
def allZero (bs : List Nat) (i n : Nat) : Bool := (sliceBytes bs i n).all (· == 0)

/-- The form of a record: marks, format, and no range beyond the counts. -/
def fixForm (bs : List Nat) : Bool :=
  bs.length == 768 && sliceBytes bs 0 4 == [0x53, 0x4C, 0x4E, 0x46] && leAt bs 4 2 == 1 &&
    decide (leAt bs 36 1 ≤ 32 ∧ leAt bs 37 1 ≤ 32) &&
    allZero bs (64 + 8 * leAt bs 36 1) (256 - 8 * leAt bs 36 1) && allZero bs (320 + 8 * leAt bs 37 1) (256 - 8 * leAt bs 37 1)

/-! ### Correctness (R407) -/

/-- A range in use. -/
def rangeGood (p : Nat × Nat) : Bool := decide (400000 ≤ p.1 ∧ p.1 < p.2 ∧ p.2 ≤ 7200000)

/-- The limits and ranges of a record lie inside the bounds of R407. -/
def Fix.good (f : Fix) : Bool :=
  decide (1 ≤ f.version ∧ f.version ≤ 65535 ∧ 100 ≤ f.margin ∧ 1 ≤ f.duty ∧ f.duty ≤ 1000 ∧ f.pmax.length = 8 ∧ f.dl.length ≤ 32 ∧ f.ul.length ≤ 32) &&
    f.dl.all rangeGood && f.ul.all rangeGood

/-- A record may follow the Fixative in force: a higher version and the same FACTORY key hash; the first record of a part sets
it. -/
def Fix.follows (f : Fix) (old : Option Fix) : Bool :=
  match old with
  | some o => decide (o.version < f.version) && f.keyF == o.keyF
  | none => true

/-- The rights of a role over a record (R403): limits and ranges need FACTORY or OPERATOR, the OPERATOR hash FACTORY. -/
def Fix.allowed (f : Fix) (old : Option Fix) (r : Role) : Bool :=
  match r with
  | .factory => true
  | .operator => (old.map (·.keyO)) == some f.keyO
  | .installer => false

/-- The key hash of a role. -/
def Fix.key (f : Fix) (r : Role) : Nat :=
  match r with
  | .factory => f.keyF
  | .operator => f.keyO
  | .installer => f.keyI

/-! ### An update (R408) -/

/-- An accepted command goes into the slot that is not in use, and its record waits for the boundary. -/
def fixWrite (by_ : By) (x : FixSlot) (e : Env) : Env :=
  { e with slot0 := if e.slotSel then some x else e.slot0, slot1 := if e.slotSel then e.slot1 else some x, fixPend := some by_ }

/-- The slot that is not in use. -/
def otherSlot (e : Env) : Option FixSlot := if e.slotSel then e.slot0 else e.slot1

/-- The CRC-32 that a slot stores is that of its command. -/
def FixSlot.valid (x : FixSlot) : Bool := x.crc == crc32 (x.signed ++ x.sig)

/-- The environment after the boundary: the new record is in force. -/
def fixTake (e : Env) : Env :=
  match e.fixPend with
  | some _ => { e with fix := (otherSlot e).map (·.fix), slotSel := !e.slotSel, fixPend := none }
  | none => e

/-- Patrol fields looser than the Fixative take its value, journalled with origin 0x04 as one batch. -/
def patrolTighten (e : Env) (f : Fix) (d : Dev) : Dev :=
  if f.margin < d.get PTL_CFG.ISO_MUTE then
    let old := d.reg .PTL_CFG
    let d1 := d.put PTL_CFG.ISO_MUTE 0 f.margin
    closeBatch e { origin := .patrol } (journalAdd { addr := RegName.PTL_CFG.addr 0 0, old := old.toNat, new := (d1.reg .PTL_CFG).toNat } d1)
  else d

/-- What a new Fixative does in the device at its boundary; `e` holds it in force already. -/
def fixEffect (e : Env) (by_ : By) (d : Dev) : Dev :=
  match e.fix with
  | none => d
  | some f =>
    let d1 := clearLive d Ev.PTL_FIX_INVALID
    let d2 := forL (d1.slices.map (·.1)) (rangeCheck e) d1
    let d3 := patrolTighten e f d2
    let d4 := stopMet (fun c => c = .fix) d3
    journalTable e by_ (RegName.FIX_STAT.addr 0 0) (RegName.FIX_RANGE_HI.addr 1 31 + 3) (crc32 f.bytes) true d4

end Sys2Proof.Machine
end

