-- ==== Sys2Proof/Machine/Auth.lean ====
section
/-! DEFINITION. Authorised commands (R400 to R405, R112, R393): the layout in the command buffer, the checks in their order,
and what an accepted command does. -/
namespace Sys2Proof.Machine

/-- The bytes of the open command buffer. -/
def bufferBytes (d : Dev) : List Nat :=
  (List.range (1024 * d.authBlocks)).flatMap fun k => leBytes 4 ((d.auth.words.lookup k).getD 0#32).toNat

/-- The kinds of commands. -/
inductive AuthKind where
  | writes | fixative | usercal | firmware
deriving DecidableEq, Repr

/-- The kind a code names. -/
def AuthKind.ofCode : Nat → Option AuthKind
  | 1 => some .writes | 2 => some .fixative | 3 => some .usercal | 4 => some .firmware | _ => none

/-- The role a code names. -/
def Role.ofCode : Nat → Option Role
  | 1 => some .factory | 2 => some .operator | 3 => some .installer | _ => none

/-- A command as its layout gives it. -/
structure AuthCmd where
  role : Option Role
  kind : AuthKind
  device : Nat
  nonce : Nat
  pubkey : List Nat
  body : List Nat
  signed : List Nat
  sig : List Nat
deriving DecidableEq, Repr

/-- The layout of R400; none where MAGIC, FORMAT or KIND is wrong or the body does not fit the buffer. -/
def parseAuth (bs : List Nat) : Option AuthCmd :=
  let n := leAt bs 24 4
  if sliceBytes bs 0 4 = [0x53, 0x4C, 0x4E, 0x41] ∧ leAt bs 4 2 = 1 ∧ n % 4 = 0 ∧ 160 + n ≤ bs.length then
    (AuthKind.ofCode (leAt bs 7 1)).map fun k =>
      { role := Role.ofCode (leAt bs 6 1), kind := k, device := leAt bs 8 8, nonce := leAt bs 16 8, pubkey := sliceBytes bs 32 64
        body := (bs.drop 96).take n, signed := bs.take (96 + n), sig := (bs.drop (96 + n)).take 64 }
  else none

/-- The key hash of R402: that of the Fixative in force; on a part without one, a FIXATIVE command of the FACTORY role brings
its own (R407). -/
def authKey (e : Env) (c : AuthCmd) : Option Nat :=
  match c.role, e.fix with
  | some r, some f => some (f.key r)
  | some .factory, none => if c.kind = .fixative then some (fixOfBytes c.body).keyF else none
  | _, _ => none

/-- A word of a WRITES command that its role may write (R403). -/
def writeRight (r : Role) (p : Nat × Word) : Bool :=
  if p.1 = RegName.REC_CLR.addr 0 0 then r = .factory || !REC_CLR.CLR_V.bit p.2
  else if p.1 = RegName.SUP_WR_EN.addr 0 0 then r ≠ .installer
  else true

/-- The role holds every right that the command uses (R403). -/
def authRight (e : Env) (c : AuthCmd) (r : Role) : Bool :=
  match c.kind with
  | .writes => ((runsOf c.body).getD []).all (writeRight r)
  | .fixative => (fixOfBytes c.body).allowed e.fix r
  | .usercal => r ≠ .operator
  | .firmware => r ≠ .installer

/-- The pair that a FIRMWARE command goes into: the one that loads it already, else the READY pair (R393). -/
def firmwarePair (d : Dev) : Option Bool := match d.auth.loads with | some b => some b | none => pairIn d .ready

/-- The body is correct for its kind. -/
def authBody (e : Env) (d : Dev) (c : AuthCmd) : Bool :=
  match c.kind with
  | .writes => (runsOf c.body).isSome
  | .fixative => let f := fixOfBytes c.body; fixForm c.body && f.good && f.follows e.fix
  | .usercal => decide (0 < c.body.length ∧ c.body.length ≤ 131072)
  | .firmware => decide (c.body.length ≤ 524288) && (firmwarePair d).isSome && kuhelVerify c.body

/-- The checks of R402 in their order: 1 when all pass, else the RESULT of the first that fails. -/
def authCheck (e : Env) (d : Dev) (c : AuthCmd) : Nat :=
  if c.device ≠ e.uid then 3
  else if c.nonce ≠ (Config.nonce (d.auth.nonce - 1)).toNat then 4
  else match c.role with
  | none => 5
  | some r =>
    if authKey e c ≠ some (sha256 c.pubkey) then 5
    else if !ecdsaVerify c.pubkey (sha256Bytes c.signed) c.sig then 6
    else if !authRight e c r then 7
    else if !authBody e d c then 8
    else 1

/-- A command ends (R401, R405): its blocks are released and its RESULT shows. Identity, nonce, key, signature and role
failures count towards the lockout. -/
def authEnd (e : Env) (res rej : Nat) (d : Dev) : Dev :=
  let counts := decide (3 ≤ res ∧ res ≤ 7)
  let run := if res = 1 then 0 else if counts then d.auth.run + 1 else d.auth.run
  let lock := counts && decide (8 ≤ run)
  let d1 := authRelease
    { d with sup := { d.sup with held := false }
             auth := { d.auth with submit := none, loads := none, result := res, rejCnt := satN rej 0xFF, run := if lock then 0 else run
                                   lock := d.auth.lock || lock } }
  if lock then raiseLive e d1 Ev.SUP_AUTH_LOCK else d1

/-- A command that fails verification (R402, R410) applies nothing; it counts and is recorded. -/
def authFail (e : Env) (res : Nat) (d : Dev) : Dev :=
  authEnd e res 0 (report e (countFail true d) Ev.SUP_AUTH_FAIL noInst res)

/-- The 10 s lockout ends (R405). -/
def authUnlock (d : Dev) : Dev :=
  if d.auth.lock then clearLive { d with auth := { d.auth with lock := false } } Ev.SUP_AUTH_LOCK else d

/-- A buffer left unsubmitted for 60 s is released (R401). -/
def authTimeout (e : Env) (d : Dev) : Dev := if 0 < d.authBlocks ∧ d.auth.submit.isNone then authEnd e 10 0 d else d

/-- What stands in the buffer: a submitted command's sender and layout. -/
inductive Submitted where
  /-- Nothing has been submitted, or a command of another kind. -/
  | none_
  /-- The layout or a check fails, with this RESULT. -/
  | bad (res : Nat)
  /-- The command passes every check. -/
  | good (by_ : By) (r : Role) (c : AuthCmd)

/-- The pending submit as a row of one kind finds it. -/
def submitted (e : Env) (k : AuthKind) (d : Dev) : Submitted :=
  match d.auth.submit with
  | none => .none_
  | some by_ =>
    match parseAuth (bufferBytes d) with
    | none => .bad 2
    | some c =>
      if c.kind ≠ k then .none_
      else match authCheck e d c, c.role with
        | 1, some r => .good { by_ with role := some r } r c
        | res, _ => .bad res

/-- A WRITES command applies its runs in order, as one batch (R404). -/
def authWrites (e : Env) (d : Dev) : Dev :=
  match submitted e .writes d with
  | .none_ => d
  | .bad res => authFail e res d
  | .good by_ _ c =>
    let z := writeAll e by_ ((runsOf c.body).getD []) { d := d }
    authEnd e 1 z.gone (closeBatch e by_ z.d)

/-- A USERCAL command writes the user calibration area (R112, R113); under SHUTDOWN the write does not begin (R352). -/
def authUsercal (e : Env) (d : Dev) : Dev :=
  match submitted e .usercal d with
  | .none_ => d
  | .bad res => authFail e res d
  | .good by_ _ c => if nvBarred d then d else authEnd e 1 0 (ucalStart by_ c.body d)

/-- A submitted FIRMWARE command whose sender may give it loads its section into the READY pair, which becomes LOADING while the
section is checked (R393). -/
def firmwareLoads (e : Env) (d : Dev) : Dev :=
  if d.auth.submit.isNone ∨ d.auth.loads.isSome then d
  else
    let go : Dev := match pairIn d .ready with
      | some b => modPair b (fun p => { p with st := .loading }) { d with auth := { d.auth with loads := some b } }
      | none => d
    match submitted e .firmware d with
    | .none_ => d
    | .bad res => if res = 8 then go else d
    | .good .. => go

/-- A FIRMWARE command ends: the pair is READY with the new image, or with the active pair's where the section fails its check
(R393). -/
def authFirmware (e : Env) (d : Dev) : Dev :=
  match submitted e .firmware d with
  | .none_ => d
  | .bad res =>
    let d1 := authFail e res d
    match res, firmwarePair d, pairIn d .active with
    | 8, some b, some a => pairReady b (modPair b (fun p => { p with img := (pairOf d a).img }) d1)
    | 8, some b, none => pairReady b d1
    | _, _, _ => d1
  | .good _ _ c =>
    match firmwarePair d with
    | some b => authEnd e 1 0 (pairReady b (modPair b (fun p => { p with img := crc32 c.body }) d))
    | none => authFail e 8 d

/-- The slot of the Fixative area that holds a command whole (R408). -/
def slotOf (r : Role) (c : AuthCmd) : FixSlot :=
  { role := r, pub := c.pubkey, signed := c.signed, sig := c.sig, crc := crc32 (c.signed ++ c.sig), fix := fixOfBytes c.body }

/-- The signature of a slot's command holds under the key of its role (R256, R402). A role's key hash is the record's own: no
command changes the hash that its signer answers to (R403, R407). -/
def FixSlot.authentic (x : FixSlot) : Bool :=
  sha256 x.pub == x.fix.key x.role && ecdsaVerify x.pub (sha256Bytes x.signed) x.sig

/-- A FIXATIVE command goes whole into the slot not in use (R408); under SHUTDOWN the write does not begin (R352). -/
def authFixative (e : Env) (d : Dev) : Env × Dev :=
  match submitted e .fixative d with
  | .none_ => (e, d)
  | .bad res => (e, authFail e res d)
  | .good by_ r c => if nvBarred d then (e, d) else (fixWrite by_ (slotOf r c) e, authEnd e 1 0 d)

/-- The boundary after a Fixative write: everything that R408 lists changes together. -/
def fixativeTakeEffect (e : Env) (d : Dev) : Env × Dev :=
  match e.fixPend with
  | none => (e, d)
  | some by_ => let e1 := fixTake e; (e1, fixEffect e1 by_ d)

end Sys2Proof.Machine
end

