-- ==== Sys2Proof/Machine/Image.lean ====
section
/-! DEFINITION. The Primer image: its layout (R374, R375), what makes the device reject it (R376), and which of the two places
in the flash serves (R372, R373). -/
namespace Sys2Proof.Machine

/-- An entry of the section table with its index (R374). -/
structure Sect where
  idx : Nat
  typ : Nat
  optional : Bool
  ofs : Nat
  len : Nat
  crc : Nat
deriving DecidableEq, Repr

/-- The register writes of a section, with its table index and its CRC-32 (R374, R375). -/
structure SectRuns where
  idx : Nat
  crc : Nat
  words : List (Nat × Word)
deriving DecidableEq, Repr

/-- What an accepted image brings. -/
structure Image where
  configId : Nat
  seq : Nat
  /-- IMAGE_LEN. -/
  len : Nat
  /-- CRC-32 of the FIRMWARE section. -/
  fw : Nat
  /-- Table indices of the skipped optional sections. -/
  skips : List Nat
  /-- REGISTERS and TABLES sections, in table order. -/
  regs : List SectRuns
  tables : List SectRuns
  /-- The USERCAL section. -/
  ucal : Option (List Nat)
deriving DecidableEq, Repr

/-- Entry `k` of the section table. -/
def sectAt (bs : List Nat) (k : Nat) : Sect :=
  let o := 256 + 32 * k
  { idx := k, typ := leAt bs o 2, optional := bitOf (leAt bs (o + 2) 2) 0, ofs := leAt bs (o + 4) 4, len := leAt bs (o + 8) 4
    crc := leAt bs (o + 16) 4 }

/-- The bytes of a section. -/
def Sect.bytes (bs : List Nat) (s : Sect) : List Nat := sliceBytes bs s.ofs s.len

/-- The types that R375 names. -/
def Sect.known (s : Sect) : Bool := decide (s.typ ∈ [0x0001, 0x0010, 0x0020, 0x0030])

/-- The form of the header (R374): marks, length, signature at the end, and the header's CRC. -/
def headerOk (bs : List Nat) (room : Nat) : Bool :=
  let len := leAt bs 8 4
  decide (sliceBytes bs 0 4 = [0x53, 0x4C, 0x4E, 0x50] ∧ leAt bs 4 2 = 1 ∧ leAt bs 252 4 = crc32 (sliceBytes bs 0 252) ∧
    len ≤ 16777216 ∧ len ≤ room ∧ 1 ≤ leAt bs 6 2 ∧ leAt bs 6 2 ≤ 255 ∧ leAt bs 20 4 = 256 ∧ leAt bs 24 4 + 64 = len ∧ leAt bs 24 4 % 4 = 0)

/-- The signer's key is the one whose hash the Fixative holds for the role, and it has signed the image (R376). -/
def signatureOk (e : Env) (bs : List Nat) : Bool :=
  let sig := leAt bs 24 4
  let pub := sliceBytes bs 32 64
  match e.fix, Role.ofCode (leAt bs 28 1) with
  | some f, some r => sha256 pub == f.key r && ecdsaVerify pub (sha256Bytes (sliceBytes bs 0 sig)) (sliceBytes bs sig 64)
  | _, _ => false

/-- A section lies between the table and the signature on word boundaries (R374). -/
def Sect.inside (cnt sig : Nat) (s : Sect) : Bool :=
  decide (s.ofs % 4 = 0 ∧ s.len % 4 = 0 ∧ 4 ≤ s.len ∧ 256 + 32 * cnt ≤ s.ofs ∧ s.ofs + s.len ≤ sig)

/-- No two sections of a list overlap. -/
def apart : List Sect → Bool
  | [] => true
  | s :: l => (l.all fun t => decide (s.ofs + s.len ≤ t.ofs ∨ t.ofs + t.len ≤ s.ofs)) && apart l

/-- The contents of a section satisfy its type (R375, R376). -/
def Sect.content (bs : List Nat) (s : Sect) : Bool :=
  let b := s.bytes bs
  match s.typ with
  | 0x0001 => decide (s.len ≤ 524288) && kuhelVerify b
  | 0x0010 => (runsOf b).isSome
  | 0x0020 => match runsOf b with
    | some l => l.all fun p => match findReg p.1 with | some r => r.name.isTable | none => false
    | none => false
  | 0x0030 => decide (s.len ≤ 131072)
  | _ => s.optional

/-- The image that the bytes at a place of the flash hold, with `room` bytes of flash from there; none when R376 rejects it. -/
def imageOf (e : Env) (room : Nat) (bs : List Nat) : Option Image :=
  if !headerOk bs room then none
  else
    let sects := (List.range (leAt bs 6 2)).map (sectAt bs)
    let count (t : Nat) : Nat := (sects.filter fun s => s.typ == t).length
    let runs (t : Nat) : List SectRuns :=
      (sects.filter fun s => s.typ == t).map fun s => { idx := s.idx, crc := s.crc, words := (runsOf (s.bytes bs)).getD [] }
    let good := (sects.all fun s => s.inside sects.length (leAt bs 24 4)) && apart sects && signatureOk e bs &&
      (sects.all fun s => crc32 (s.bytes bs) == s.crc && s.content bs) && decide (count 1 = 1 ∧ count 0x30 ≤ 1)
    if !good then none
    else some
      { configId := leAt bs 12 4, seq := leAt bs 16 4, len := leAt bs 8 4
        fw := ((sects.filter fun s => s.typ == 1).map (·.crc)).headD 0
        skips := (sects.filter fun s => !s.known).map (·.idx)
        regs := runs 0x10, tables := runs 0x20
        ucal := ((sects.filter fun s => s.typ == 0x30).map fun s => s.bytes bs).head? }

/-- The flash address of the secondary image, and the size from which a flash can hold one (R373). -/
def secondaryAt : Nat := 0x01000000
def secondarySize : Nat := 0x02000000

/-- The read mode that the flash port chooses from the SFDP tables (R9, R372): 1-1-4 where the tables declare that read and the
quad-enable bit is set or not needed; 4-byte addresses where the tables require them or the secondary image needs them. A
flash without valid SFDP tables is read with instruction 0x03 and 3-byte addresses at 12.5 MHz (DEDUCED, log 233: its secondary image, which
needs 4-byte addresses, is not read). -/
def flashRead (x : StartIn) (second : Bool) : FlashRead :=
  match x.sfdp with
  | none => { basic := true, clock := 12500 }
  | some t => { quad := t.fast114 && t.quadEnable.getD true, addr4 := t.wide || second }

/-- What the flash gives: an image, its place (1 primary, 2 secondary), and whether the secondary was read at all. -/
def flashImage (e : Env) (x : StartIn) : Option (Image × Nat) × Bool :=
  if !x.answers then (none, false)
  else match imageOf e x.size x.primary with
    | some i => (some (i, 1), false)
    | none =>
      if x.size < secondarySize ∨ x.sfdp.isNone then (none, false)
      else match imageOf e (x.size - secondaryAt) x.secondary with
        | some i => (some (i, 2), true)
        | none => (none, true)

end Sys2Proof.Machine
end

