-- ==== Sys2Proof/Machine/Start.lean ====
section
/-! DEFINITION. Resets and starts (R53, R54, R304, R313, R314, R365 to R388, R454, R495): what a reset leaves, cold start and
warm restart from the release of the internal reset to the end of the enabling pass. -/
namespace Sys2Proof.Machine

/-! ### What survives (R367, R368) -/

/-- The fields of a word that a warm restart keeps: GLB_LOCK and every RWL field (R368, R489). -/
def lockedWord (n : RegName) (i j : Nat) (w : Word) : Word :=
  if n = .GLB_LOCK then w
  else n.fields.foldl (fun acc p => if p.2 = .rwl then p.1.into (p.1.of w) acc else acc) (n.resetWord i j)

/-- The register file after a reset: the Lodge's registers stand while the Lodge has kept its supply, and in a warm restart
what `lockedWord` keeps stands too. -/
def keptRegs (warm lodge : Bool) (t : List (Nat × Word)) : List (Nat × Word) :=
  t.filterMap fun p => match findReg p.1 with
    | none => none
    | some r =>
      if r.name.block = 1 then (if lodge then some p else none)
      else if warm then
        let w := lockedWord r.name r.i r.j p.2
        if w = r.name.resetWord r.i r.j then none else some (p.1, w)
      else none

/-- The recorder across a reset: staging and the areas stand, counts and the operation in hand go. A clear that still waited
for its flush is lost; the erase of one that has run needs no resumption (R319). -/
def recorderAfter (warm lodge : Bool) (r : Recorder) : Recorder :=
  { stg := if lodge then r.stg else [], varnish := r.varnish, palette := r.palette, vUsed := r.vUsed, pHead := r.pHead, next := r.next
    torn := r.torn, bad := if warm then r.bad else [], commitOk := r.commitOk, drop := r.drop
    flushing := warm && r.flushing, inPlace := if warm then r.inPlace else [], wr := if warm then r.wr else none
    tokens := if warm then r.tokens else 256
    heldFrom := if warm then r.heldFrom else 0
    clrSeqV := r.clrSeqV, clrSeqP := r.clrSeqP, clrCntV := r.clrCntV, clrCntP := r.clrCntP
    clrBusy := if warm then r.clrBusy else [], markVal := r.markVal, markSeq := r.markSeq }

/-- The Lodge across a reset. -/
def powerAfter (lodge : Bool) (p : Power) : Power :=
  if lodge then
    { xtalOk := p.xtalOk, wakeCause := p.wakeCause, wakePins := p.wakePins, pfCnt := p.pfCnt, rfPres := p.rfPres, rfRun := p.rfRun
      mainEn := p.mainEn, pwrGood := p.pwrGood }
  else { mainEn := p.mainEn, pwrGood := p.pwrGood, lodgeLost := true }

/-- The device outside the Lodge after a reset without a start: everything at its reset value but the non-volatile memory, the
Lodge, the levels at the pins and the JTAG port. -/
def bareDev (d : Dev) : Dev :=
  let lodge := !d.pwr.lodgeLost
  let d1 := cutWrite d
  { regs := keptRegs false lodge d1.regs
    rcd := recorderAfter false lodge d1.rcd
    pwr := powerAfter lodge d1.pwr
    ptl := { pinLow := d1.ptl.pinLow }
    auth := { nonce := d1.auth.nonce }
    ret := { cfgA := d1.ret.cfgA, cfgB := d1.ret.cfgB, ldgA := d1.ret.ldgA, ldgB := d1.ret.ldgB, cfgSel := d1.ret.cfgSel
             ldgSel := d1.ret.ldgSel, disc := d1.ret.disc }
    boot := { straps := d1.boot.straps }
    ucalArea := d1.ucalArea, ucalCrc := d1.ucalCrc
    ucalOk := d1.ucalOk
    jtag := { ir := if d1.jtag.ir = .idcode then .idcode else .bypass, cells := d1.jtag.cells, scan := d1.jtag.scan, bypassBit := d1.jtag.bypassBit, idWord := d1.jtag.idWord, open_ := d1.jtag.open_ }
    tow := { tok := { line := d1.tow.tok.line } }
    hiOpt := if lodge then d1.hiOpt else 0
    free := d1.free }

/-- The core's supplies go away or its reset is asserted (R87, R324, R360, R364, R367). -/
def coreOff (inReset : Bool) (d : Dev) : Dev :=
  let d1 := bareDev d
  { d1 with pwr := { d1.pwr with sleep := d.pwr.sleep, heldWake := d.pwr.heldWake, failed := d.pwr.failed, relWait := d.pwr.relWait
                                 inReset := inReset } }

/-- RESET_N low for 1 µs (R367). Without core supplies there is nothing to reset. -/
def resetAssert (d : Dev) : Dev := if d.pwr.mainEn then coreOff true d else d

/-- VDD_LDG has come up (R454): what the Lodge kept is gone, MAIN_EN goes high, and the device waits for PWR_GOOD. -/
def lodgePowerUp (d : Dev) : Dev :=
  let d1 := bareDev { d with pwr := { lodgeLost := true } }
  { d1 with pwr := { lodgeLost := true, pwrGood := false, inReset := true } }

/-- PWR_GOOD rises: the 10 ms wait before the release of the internal reset begins (R370). -/
def pwrGoodRise (d : Dev) : Dev :=
  { d with pwr := { d.pwr with pwrGood := true, relWait := d.pwr.relWait || (d.pwr.mainEn && (d.pwr.inReset || d.boot.phase = .rom)) } }

/-- The latch table over a warm restart (R284). -/
def latchAfter (t : List (Nat × Latch)) : List (Nat × Latch) := t.map fun p => (p.1, { p.2 with live := false, spent := false, run := .none })

/-- A channel over a warm restart (R327): what drives its pin goes on at PARK. DESIGN CHOICE (log 207): the restart is one step, in
which a slew to PARK or a span change in hand has ended: the latter holds PARK_NEW in the new span (R334). A window of R328
that was open stays open. -/
def chanAfter (d : Dev) (c : Nat) (x : Bdac) : Bdac :=
  match x.chg with
  | some s => { st := .parked, driven := true, out := s.park, span := s.span, pcause := [.warm], back := true }
  | none =>
    if x.driven then { st := .parked, driven := true, out := parkCode d c, span := x.span, pcause := [.warm], back := true }
    else { back := x.back }

/-- A warm restart keeps a failed pair that has failed twice (R396). -/
def pairAfter (x : Pair) (st : PairSt) : Pair := { x with st := if x.st = .failed ∧ 2 ≤ x.strikes then .failed else st, img := 0 }

/-- A power domain after the reset of a warm restart: its count of power-ups since the cold start stands. -/
def domAfter (on : Bool) (x : Dom) : Dom := if on then { phase := .on, req := true, upCnt := x.upCnt } else { upCnt := x.upCnt }

/-- The device after the reset of a warm restart (R368): what `bareDev` keeps, the second column of R368, and the counts that
run since the cold start. DEDUCED (log 249): an accepted SLEEP request, which cannot be reversed, and a wake cause held for it stand in
the Lodge, and the sequence begins anew (R360). -/
def warmDev (d : Dev) : Dev :=
  let d0 := bareDev { d with rcd := { d.rcd with wr := none } }
  let chans := (d.bdac.ch.map fun p => (p.1, chanAfter d p.1 p.2)).filter fun p => p.2 ≠ {}
  let doms := (d.pwr.doms.map fun p => (p.1, domAfter false p.2)).filter fun p => p.2 ≠ {}
  let failedA := d.sup.a.st = .failed && decide (2 ≤ d.sup.a.strikes)
  let d1 : Dev :=
    { d0 with
      regs := keptRegs true true d.regs
      rcd := recorderAfter true true d.rcd
      pwr := { powerAfter true d.pwr with sleep := d.pwr.sleep, heldWake := d.pwr.heldWake, doms := if chans.all fun p => !p.2.driven then doms else tput doms 71 (domAfter true (d.dom 71)) }
      flt := { latch := latchAfter d.flt.latch, escCnt := d.flt.escCnt }
      synths := (d.synths.map fun p => (p.1, ({ cache := p.2.cache, unlockCnt := p.2.unlockCnt } : Synth))).filter fun p => p.2 ≠ {}
      eng := { ovrCnt := d.eng.ovrCnt, loadPk := d.eng.loadPk }
      tow := { d0.tow with stepCnt := d.tow.stepCnt, tok := { d0.tow.tok with acqCnt := d.tow.tok.acqCnt } }
      tgpio := (List.range 32).map fun n =>
        (n, { drive := (d.pin n).drive.map fun _ => safeLevel d n, hold := if d.thm.sd then [.warm, .shutdown] else [.warm] })
      bdac := { ch := chans }
      slices := (d.slices.map fun p => (p.1, ({ phys := p.2.phys } : Slice))).filter fun p => p.2 ≠ {}
      spr := { oos := d.spr.oos, parked := d.spr.parked }
      thm := { sens := (d.thm.sens.map fun p => (p.1, ({ broken := p.2.broken } : Sensor))).filter fun p => p.2 ≠ {}
               sd := d.thm.sd, cool := d.thm.cool, blind := d.thm.blind, hot := d.thm.hot }
      src := { stepCnt := d.src.stepCnt, det := (List.range 8).map fun n => (n, { warm := true }) }
      sup := { a := pairAfter d.sup.a .active, b := pairAfter d.sup.b (if failedA then .active else .ready)
               hoCnt := d.sup.hoCnt }
      ret := { d.ret with again := false, dirty := false, failCnt := 0 }
      boot := { straps := d.boot.straps, warm := true }
      ucalJob := d.ucalJob }
  if d.thm.sd then bdacCauseAll .shutdown (fun _ => true) d1 else d1

/-! ### Lodge values and retained copies (R53, R54, R383, R386) -/

/-- The valid copy with the higher SEQ: whether it is B. -/
def newerB {α : Type} (seq : α → Nat) (a b : Option α) : Bool :=
  match a, b with
  | some x, some y => decide (seq x < seq y)
  | none, some _ => true
  | _, _ => false

/-- Select the copies (R386): one whose CRC fails counts for nothing. -/
def selectCopies (d : Dev) : Dev :=
  let d1 := d.modRet fun r =>
    { r with ldgA := r.ldgA.filter LdgRec.good, ldgB := r.ldgB.filter LdgRec.good
             cfgA := r.cfgA.filter RetCfg.good, cfgB := r.cfgB.filter RetCfg.good }
  d1.modRet fun r => { r with ldgSel := newerB LdgRec.seq r.ldgA r.ldgB, cfgSel := newerB RetCfg.seq r.cfgA r.cfgB }

/-- The Lodge's values after a loss of its supply (R53): the larger of the two valid copies, 65,536 counts more unless the last
power-fail commit completed. -/
def restoreLodge (e : Env) (d : Dev) : Env × Dev :=
  if !d.pwr.lodgeLost then (e, d)
  else
    let most (f : LdgRec → Nat) : Nat := max ((d.ret.ldgA.map f).getD 0) ((d.ret.ldgB.map f).getD 0)
    let last := ldgChosen d.ret
    let ok := (last.map (·.commitOk)).getD true
    let opt := satN (most (·.opt) + (if ok then 0 else 65536)) (2 ^ 48 - 1)
    ({ e with opt := opt, pwrcyc := most (·.pwrcyc) },
     { d with
        hiOpt := opt / 2 ^ 32
        rcd := { d.rcd with markVal := (last.map (·.mark)).getD 0, markSeq := (last.map (·.markSeq)).getD 0, commitOk := ok }
        pwr := { d.pwr with pfCnt := (last.map (·.pfCnt)).getD 0, lodgeLost := false } })

/-! ### The recorder's scan (R304, R313, R314) -/

/-- Torn slots of an area in rising order. -/
def tornSlots (t : List (Nat × MemSlot)) : List Nat :=
  (t.filter fun p => match p.2 with | .torn _ => true | _ => false).map (·.1)

/-- The sequence numbers of an area's valid records, by slot. -/
def validSeqs (t : List (Nat × MemSlot)) : List (Nat × Nat) :=
  t.filterMap fun p => match p.2 with | .valid r => some (p.1, r.seq) | _ => none

/-- The used part of the Varnish area ends with its last slot that is neither empty nor cleared; a torn slot stays used. -/
def scanVarnish (d : Dev) : Nat :=
  d.rcd.varnish.foldl (fun m p => match readSlot d .varnish p.1 with | .blank => m | _ => max m (p.1 + 1)) 0

/-- The Palette head follows the newest record that is not cleared. -/
def scanPalette (d : Dev) : Nat :=
  let l := (validSeqs d.rcd.palette).filter fun p => decide (d.rcd.clrSeqP ≤ p.2)
  match l with
  | [] => 0
  | p :: rest => ((rest.foldl (fun b q => if b.2 < q.2 then q else b) p).1 + 1) % 8192

/-- The next sequence number (R304); in a warm restart the recorder has kept it. -/
def scanNext (warm : Bool) (d : Dev) : Nat :=
  let high := ((validSeqs d.rcd.varnish ++ validSeqs d.rcd.palette).map (·.2)).foldl max 0
  if warm then max d.rcd.next (high + 1)
  else if d.rcd.commitOk then max (((ldgChosen d.ret).map (·.recNext)).getD 0) (high + 1)
  else high + 65

/-- The number of the latest CLEAR record that an area holds; 0 where it holds none (R313). -/
def latestClear (t : List (Nat × MemSlot)) : Nat :=
  t.foldl (fun m p => match p.2 with | .valid r => if r.code = Ev.CLEAR then max m r.seq else m | _ => m) 0

/-- What staging still holds is written, NEW and DIRTY records alike (R313), `fails` saying whose verify fails. Each Palette record
takes its token; what the bucket lacks the start waits for (R309, log 205). Under SHUTDOWN no flush starts (R352). -/
def startWrites (e : Env) (fails : List Bool) (d : Dev) : Dev :=
  let held : Bool := d.thm.sd && decide (d.thm.cool < 8)
  if held then
    if d.rcd.flushing then flushAll e (fillSnaps e) fails (kick d) else d
  else
    let n := (d.rcd.stg.filter fun p => (p.2.st = .new ∨ p.2.st = .dirty) ∧ takesToken p.2.r).length
    (flushAll e (fillSnaps e) fails (kick (d.modRcd fun x => { x with flushing := true, pfail := true }))).modRcd fun x =>
      { x with tokens := x.tokens - n, pfail := false }

/-- Staged records are written, and both areas are scanned (R313). -/
def scanRecorder (e : Env) (warm : Bool) (fails : List Bool) (d : Dev) : Dev :=
  let d0 := startWrites e fails d
  let d1 := d0.modRcd fun x => { x with clrSeqV := latestClear x.varnish, clrSeqP := latestClear x.palette }
  d1.modRcd fun x => { x with vUsed := scanVarnish d1, pHead := scanPalette d1, next := scanNext warm d1
                              torn := (tornSlots x.varnish).length + (tornSlots x.palette).length, announce := [] }

/-- The recorder's records of a start: one per torn slot, then START (R303, R313, R314). -/
def recordStart (e : Env) (warm : Bool) (d : Dev) : Dev :=
  let torn := (tornSlots d.rcd.varnish).map (areaAux .varnish) ++ (tornSlots d.rcd.palette).map (areaAux .palette)
  let d1 := forL torn (fun a d => report e d Ev.REC_TORN noInst a) d
  (recordEvent e d1 Ev.START noInst { cls := .note, aux := b2n warm, own := [d1.rcd.torn] }).1

/-! ### Step 2 of R370 -/

/-- The Fixative of the area: of the slots whose CRC-32 holds, the one with the higher version, in force where its signature
holds (R256, R408). -/
def loadFixative (e : Env) : Env :=
  let s0 := e.slot0.filter FixSlot.valid
  let s1 := e.slot1.filter FixSlot.valid
  let b := newerB (fun x : FixSlot => x.fix.version) s0 s1
  let x := if b then s1 else s0
  { e with slot0 := s0, slot1 := s1, slotSel := b, fix := (x.filter FixSlot.authentic).map (·.fix), fixPend := none }

/-- Patrol's latches come back from the chosen copy whatever configures the registers; PIN follows its pin and FIX is derived
afresh (R256, R260). -/
def restorePatrol (e : Env) (stopLow : Bool) (d : Dev) : Dev :=
  let d1 := match cfgChosen d.ret with
    | none => d
    | some c =>
      let m := forL c.mutes (fun p d => muteSlice e p.1 p.2 d) d
      let x := forL c.ul (fun k d => muteDir e true k d) (forL c.dl (fun k d => muteDir e false k d) m)
      let y := x.modPtl fun p => { p with mslCnt := 0, mdirCnt := 0, recentDl := [], recentUl := [] }
      forL c.stops (fun k d => stopFor e k d) y
  let d2 := d1.modPtl fun p => { p with pinLow := stopLow }
  let d3 := if stopLow then stopFor e .pin d2 else d2
  if e.fix.isNone then noFixative e d3 else d3

/-- The factory calibration of the part (R110). -/
def factoryCal : FactoryCal :=
  let (rx, tx, ref, rxSeed, txSeed, orx, trims) := Config.factoryCal
  { rx := rx, tx := tx, ref := ref, rxSeed := rxSeed, txSeed := txSeed, orx := orx, trims := trims }

/-- The factory layer is applied, and the user's on top of it where the area is valid (R110, R111, R113, R377). -/
def loadCal (e : Env) (d : Dev) : Dev :=
  let d1 := { d with ucal := if d.ucalOk then d.ucalArea else {}, ucalNew := false, cal := { d.cal with fac := factoryCal, loaded := true } }
  if d.ucalOk then d1 else raiseLive e d1 Ev.USERCAL_INVALID

/-- What is still wrong raises its fault again (R284). -/
def raiseStanding (e : Env) (d : Dev) : Dev :=
  let d1 := setLive e Ev.LDG_XTAL noInst (!d.pwr.xtalOk) d
  let d2 := forN 16 (fun n d => if (d.sensor n).broken then raiseLive e d Ev.THM_SENSOR n else d) d1
  let d3 := if d2.thm.hot then raiseLive e d2 Ev.THM_SHUTDOWN else d2
  let d4 := if d3.thm.blind then raiseLive e d3 Ev.THM_BLIND else d3
  let d5 := if (pairIn d4 .active).isNone then raiseLive e d4 Ev.SUP_NO_STANDBY else d4
  raiseLive e d5 Ev.FT_HOLDOVER

/-- Steps 1 to 3 of R370. -/
def startStores (e : Env) (warm : Bool) (x : StartIn) (d : Dev) : Dev :=
  let d1 := scanRecorder e warm x.recFails d
  let d2 := if (cfgChosen d1.ret).isNone then report e d1 Ev.RET_INVALID noInst 0 else d1
  recordStart e warm (raiseStanding e (restorePatrol e x.stopLow (loadCal e d2)))

/-! ### The passes of R379 -/

/-- The enabling fields and their order. -/
def enablingField (n : RegName) : Option (Nat × Fld) :=
  match n with
  | .SYN_RFFE_CFG => some (0, SYN_RFFE_CFG.EN)
  | .SYN_TGPIO_CFG => some (0, SYN_TGPIO_CFG.EN)
  | .BDAC_CFG => some (1, BDAC_CFG.EN)
  | .SLC_CTL => some (2, SLC_CTL.EN)
  | .STN_CFG => some (3, STN_CFG.EN)
  | .CRV_TPL_CFG => some (4, CRV_TPL_CFG.EN)
  | .CRV_CTL => some (5, CRV_CTL.EN)
  | .LOOP_CTL => some (6, LOOP_CTL.MODE)
  | .SYN_GRP_CTL => some (7, SYN_GRP_CTL.TARGET)
  | _ => none

/-- Registers that no pass may write (R379): RWA registers, FIX_ and TST_ addresses, and select registers. -/
def RegName.closedToPrimer (n : RegName) : Bool :=
  n.fields.any (fun p => p.2 = .rwa) || n.block == 0x70 || n.block == 0xF0 || decide (n ∈ [.REC_RD_SEL, .CNL_COEF_SEL, .POOL_CAP_RD])

/-- What a pass carries along: the device and the noted enabling fields, by order and address, with section and value. -/
structure Pass where
  d : Dev
  notes : List (Nat × (Nat × Nat)) := []

/-- The passes write as the Primer (R379). -/
def byPrimer : By := { origin := .primer }

/-- A discarded write (R379). -/
def passReject (e : Env) (sect : Nat) (d : Dev) : Dev :=
  report e { d with boot := { d.boot with rejCnt := satN (d.boot.rejCnt + 1) 0xFF } } Ev.PRM_WRITE_REJ noInst sect

/-- The key of a noted field: its place in the order, then its address. -/
def noteKey (order a : Nat) : Nat := order * 2 ^ 24 + a

/-- One write of the configuration pass: an enabling field is noted and held at 0. -/
def passWrite (e : Env) (sect : Nat) (p : Nat × Word) (z : Pass) : Pass :=
  let a := p.1
  match findReg a with
  | some r =>
    if r.name.closedToPrimer then { z with d := passReject e sect z.d }
    else
      let (w, notes) := match enablingField r.name with
        | some (o, f) =>
          (f.into 0 p.2, if f.of p.2 = 0 then tdel z.notes (noteKey o a) else tput z.notes (noteKey o a) (sect, f.of p.2))
        | none => (p.2, z.notes)
      let x := writeWord e byPrimer a w z.d
      { d := if x.missed then passReject e sect x.d else x.d, notes := notes }
  | none =>
    let x := writeWord e byPrimer a p.2 z.d
    { z with d := passReject e sect x.d }

/-- A section is written and journalled as one TABLE record with its CRC-32, over the addresses of `span` (R317, R379). -/
def passSection (e : Env) (span : List (Nat × Word)) (s : SectRuns) (z : Pass) : Pass :=
  let z1 := forL s.words (passWrite e s.idx) z
  let d1 := z1.d.modRcd fun x => { x with jl := [] }
  match span with
  | [] => { z1 with d := d1 }
  | p :: rest =>
    let lo := rest.foldl (fun m q => min m q.1) p.1
    let hi := rest.foldl (fun m q => max m q.1) p.1
    { z1 with d := journalTable e byPrimer lo (hi + 3) s.crc false d1 }

/-- One write of the enabling pass. -/
def enableWrite (e : Env) (n : Nat × (Nat × Nat)) (d : Dev) : Dev :=
  let a := n.1 % 2 ^ 24
  match findReg a with
  | some r => match enablingField r.name with
    | some (_, f) =>
      let x := writeWord e byPrimer a (f.into n.2.2 (view e d r.name r.i r.j)) d
      if x.missed then passReject e n.2.1 x.d else x.d
    | none => d
  | none => d

/-- The section index of the retained restore. -/
def retainedSect : Nat := 0xFFFF

/-- The spans that the retained BDAC_CFG words show (R327): a channel that is OFF takes its span at once. -/
def restoreSpans (runs : List (Nat × Word)) (d : Dev) : Dev :=
  forL runs (fun p d => match findReg p.1 with
    | some r =>
      if r.name = .BDAC_CFG then
        let x := d.chan r.i
        let v := BDAC_CFG.SPAN.of p.2
        d.setChan r.i (if x.st = .off then { x with span := v } else { x with restore := some v })
      else d
    | none => d) d

/-- Retained outputs and live banks (R379, R381, R386). -/
def restoreOutputs (c : RetCfg) (d : Dev) : Dev :=
  let d1 := forN 256 (fun i d =>
    let (lo, hi) := outRange i
    let v := clampI (c.outs.getD i 0) lo hi
    d.setLoop i { d.loop i with out := v, u := v * 256 }) d
  forL c.liveB (fun s d => d.modSlice s fun x => { x with gz := { x.gz with live := true } }) d1

/-- The retained runs that a start writes: those that differ from reset, and a reset word for every retained register that holds
another by then (R384): the IDLE_FILL that the firmware has set, an RWL value that a warm restart has kept. -/
def restoreRuns (c : RetCfg) (d : Dev) : List (Nat × Word) :=
  let extra := d.regs.filterMap fun p => match findReg p.1 with
    | some r =>
      let reset := keptWord r.name (r.name.resetWord r.i r.j)
      if r.name.retained && (c.runs.lookup p.1).isNone && keptWord r.name p.2 != reset then some (p.1, reset) else none
    | none => none
  extra.foldl (fun t p => tput t p.1 p.2) c.runs

/-- The device with the enables of the templates as the pass has noted them: the words that their CRCs are taken over (R386). -/
def withTemplates (notes : List (Nat × (Nat × Nat))) (d : Dev) : Dev :=
  forN 64 (fun m d => d.put CRV_TPL_CFG.EN m (((notes.lookup (noteKey 4 (RegName.CRV_TPL_CFG.addr m 0))).map (·.2)).getD 0)) d

/-- Each table that differs from its retained CRC-32 (R386): kind and instance. A template counts with its noted enable. -/
def tableDiffs (e : Env) (c : RetCfg) (notes : List (Nat × (Nat × Nat))) (d : Dev) : Dev :=
  let differ (kind : Nat) (inst : Nat → Nat) (old new : List Nat) (d : Dev) : Dev :=
    forN new.length (fun k d => if old.getD k 0 = new.getD k 0 then d else report e d Ev.RET_TABLE_DIFF (inst k) kind) d
  let banks := differ 0 (fun k => k / 2) c.bankCrc (bankCrcs d) d
  let luts := differ 1 id c.lutCrc (lutCrcs d) banks
  differ 3 id c.snapCrc (snapCrcs d) (differ 2 id c.tplCrc (tplCrcs (withTemplates notes d)) luts)

/-- A USERCAL section whose CRC-32 differs from the area's goes into the area before the configuration pass (R380); under
SHUTDOWN no write begins (R352), and a write whose verify `fails` leaves the marker clear (R113). -/
def applyUsercal (e : Env) (u : Option (List Nat)) (fails : Bool) (d : Dev) : Dev :=
  match u with
  | none => d
  | some bytes =>
    if nvBarred d ∨ (d.ucalOk ∧ d.ucalCrc = crc32 bytes) then d
    else if fails then { d with ucalOk := false, ucalJob := none }
    else
      let d1 := ucalFinish e { image := ucalOf bytes, crc := crc32 bytes, len := bytes.length, left := 0, by_ := byPrimer } d
      { d1 with ucal := d1.ucalArea, ucalNew := false }

/-- The configuration source of R378: 2 retained state, 1 the image. -/
def configSource (i : Image) (d : Dev) : Nat :=
  match cfgChosen d.ret with
  | some c => if c.configId = i.configId ∧ !d.ret.disc then 2 else 1
  | none => 1

/-- The warm-restart hold of a channel ends (R327): EN = 0 goes on to OFFING, another span to the span change, and a channel
under no other cause to its code. -/
def chanRelease (c : Nat) (d : Dev) : Dev :=
  let x := d.chan c
  if HoldCause.warm ∈ x.pcause then
    let y := { x with pcause := sdel x.pcause .warm, restore := none }
    let d1 := d.setChan c y
    if x.st ≠ .parked then d1
    else if !d.flag BDAC_CFG.EN c then bdacRelease c d1
    else if x.restore.getD 0 ≠ x.span then
      bdacSpanOut c (d1.setChan c { y with chg := some ⟨x.restore.getD 0, parkCode d c, x.t⟩, back := true })
    else if y.pcause.isEmpty then bdacDrive c d1
    else if x.out ≠ parkCode d c then d1.setChan c { y with st := .parking, back := true }
    else d1
  else d

/-- The enabling pass releases the holds of the restart (R88, R327, R379). -/
def endHolds (d : Dev) : Dev :=
  let d1 := forN 32 (fun n d => pinStart n (d.setPin n { d.pin n with hold := sdel (d.pin n).hold .warm })) d
  forN 48 chanRelease d1

/-- The firmware runs (R370 step 7, R495): it sets IDLE_FILL on optical ports. -/
def firmwareRuns (e : Env) (d : Dev) : Dev :=
  let d1 := { d with boot := { d.boot with phase := .apply } }
  forN 2 (fun i d =>
    if bitOf d.boot.straps (1 + i) then
      hostWrite e { origin := .firmware } (RegName.TOW_PORT_CFG.addr i 0) (TOW_PORT_CFG.IDLE_FILL.into 1 (view e d .TOW_PORT_CFG i 0)) d
    else d) d1

/-- The end of a start: pins and inputs follow their functions, a benched start benches, and the pair token may be taken
(R427, R431, R450). -/
def serve (e : Env) (ph : BootPh) (d : Dev) : Dev :=
  let d1 := { d with boot := { d.boot with phase := ph } }
  let d2 := Dev.modSrc d1 fun s => { s with open_ := true }
  let d3 := d2.modTow fun t => { t with tok := { t.tok with allowed := true } }
  if d3.flag TOW_PAIR_CFG.START_BENCH then enterBench e false d3 else d3

/-- Steps 7 to 9 of R370 with an accepted image, which occupies the pool until the enabling pass (R373). -/
def startImage (e : Env) (i : Image) (place : Nat) (ucalFails : Bool) (d : Dev) : Dev :=
  let d1 := forL i.skips (fun k d => report e d Ev.PRM_SKIP noInst k)
    { d with boot := { d.boot with image := place, imgBlocks := (i.len + 4095) / 4096, prmId := i.configId, prmSeq := i.seq, skipCnt := satN i.skips.length 0xFF }
             sup := { d.sup with a := { d.sup.a with img := i.fw }, b := { d.sup.b with img := i.fw } } }
  let d2 := applyUsercal e i.ucal ucalFails (firmwareRuns e d1)
  let old := cfgChosen d2.ret
  let src := configSource i d2
  let d3 := if src = 1 ∧ old.isSome then report e d2 Ev.RET_INVALID noInst (if d2.ret.disc then 2 else 1) else d2
  let d4 := Dev.modRet { d3 with boot := { d3.boot with cfgSrc := src } } fun r => { r with disc := false }
  let z0 : Pass := { d := d4 }
  let z1 := match src, old with
    | 2, some c =>
      passSection e c.words { idx := retainedSect, crc := c.crcBody, words := restoreRuns c z0.d } { z0 with d := restoreSpans c.runs z0.d }
    | _, _ => forL i.regs (fun s => passSection e s.words s) z0
  let z2 := forL i.tables (fun s => passSection e s.words s) z1
  let d5 := match src, old with
    | 2, some c => restoreOutputs c z2.d
    | _, _ => z2.d
  let d6 := match old with | some c => tableDiffs e c z2.notes d5 | none => d5
  let d7 := bdacTick { d6 with eng := { d6.eng with dirty := [] }, boot := { d6.boot with phase := .enable, imgBlocks := 0 } }
  let d8 := if d7.ptl.phase ≠ .none_ ∧ d7.flag PTL_CFG.BDAC_PARK then bdacCauseAll .stop (fun _ => true) d7 else d7
  let d9 := forL z2.notes (enableWrite e) d8
  let d10 := endHolds (Dev.modRet (d9.modRcd fun x => { x with jl := [] }) fun r => { r with dirty := false })
  serve e .run d10

/-- The boot fallback image (R387): reset values, factory and user calibration. If it fails its check too, pair A stays in the
boot ROM. -/
def startFallback (e : Env) (ok : Bool) (d : Dev) : Dev :=
  if !ok then d
  else
    let d1 := raiseLive e { d with boot := { d.boot with image := 3 } } Ev.PRM_INVALID
    serve e .fallback (endHolds (firmwareRuns e d1))

/-- Steps 4 to 9 of R370. A start that no pair can run stays in the boot ROM. -/
def startFlash (e : Env) (x : StartIn) (d : Dev) : Dev :=
  let (img, second) := flashImage e x
  let d1 := { d with boot := { d.boot with read := if x.answers then some (flashRead x second) else none } }
  let d2 := if second then report e d1 Ev.PRM_SECONDARY else d1
  if d2.sup.a.st ≠ .active ∧ d2.sup.b.st ≠ .active then d2
  else match img with
    | some (i, place) => startImage e i place x.ucalFail d2
    | none => startFallback e x.fallbackOk d2

/-! ### The two starts -/

/-- A cold start (R367, R370): the internal reset is released. It needs a reset before it and the core's supplies. -/
def coldStart (x : StartIn) (e : Env) (d : Dev) : Env × Dev :=
  if !(d.pwr.mainEn && d.pwr.pwrGood && (d.pwr.inReset || d.boot.phase = .rom)) then (e, d)
  else
    let d1 := selectCopies (bareDev d)
    let (e1, d2) := restoreLodge e d1
    let e2 := loadFixative { e1 with pwrcyc := (e1.pwrcyc + 1) % 4294967296, factory := bitOf x.straps 4 }
    let d3 : Dev :=
      { d2 with boot := { straps := x.straps }
                auth := { nonce := d.auth.nonce + 1 }
                jtag := { d2.jtag with open_ := !bitOf x.straps 4 } }
    let d4 := startStores e2 false x d3
    (e2, startFlash e2 x (lodgeWrite e2 false d4))

/-- A warm restart (R367, R368), once one has been requested. -/
def warmRestart (x : StartIn) (e : Env) (d : Dev) : Env × Dev :=
  if !(d.boot.warmReq && d.pwr.mainEn && !d.pwr.inReset && !d.pwr.failed) then (e, d)
  else
    let d1 := selectCopies (warmDev d)
    let e1 := loadFixative e
    let d2 := { d1 with auth := { nonce := d.auth.nonce + 1 } }
    (e1, startFlash e1 x (startStores e1 true x d2))

end Sys2Proof.Machine
end

