-- ==== Sys2Proof/Machine/HostPorts.lean ====
section
/-! DEFINITION. The ports through which others reach the registers: JTAG (R13, R14), the service SPI (R482), and the WRITE,
READ, BULK and gather accesses of the Tow link (R434 to R439). -/
namespace Sys2Proof.Machine

/-- The core runs: supplied, not held in reset, not after a power-fail trip. -/
def coreRuns (d : Dev) : Bool := d.pwr.mainEn && !d.pwr.inReset && !d.pwr.failed

/-- The firmware or the boot fallback image runs (R370 step 7, R382). -/
def firmwareUp (d : Dev) : Bool :=
  d.boot.phase = .apply || d.boot.phase = .enable || d.boot.phase = .run || d.boot.phase = .fallback

/-! ### JTAG (R13) -/

/-- Change the JTAG port. -/
def Dev.modJtag (d : Dev) (f : Jtag → Jtag) : Dev := { d with jtag := f d.jtag }

/-- The pins in the boundary-scan chain: the digital signal balls of R450 but the test port's own (R13). -/
inductive ScanPin where
  | frameSync | pps | frameOut | resetN | pwrGood | mainEn | wake | alive | netStopN | irqN | pairToken | pairSense
  | prmSck | prmCsN | prmIo (k : Fin 4) | svcSck | svcCsN | svcMosi | svcMiso | strap (k : Fin 5)
  | towRx (dn : Bool) | towTx (dn : Bool) | rffeSclk (m : Fin 4) | rffeSdata (m : Fin 4) | tgpio (n : Fin 32)
deriving DecidableEq, Repr

/-- The chain, cell 0 first, in the order of the table of R450. -/
def scanChain : List ScanPin :=
  [.frameSync, .pps, .frameOut, .resetN, .pwrGood, .mainEn, .wake, .alive, .netStopN, .irqN, .pairToken, .pairSense, .prmSck, .prmCsN] ++
  (List.finRange 4).map .prmIo ++ [.svcSck, .svcCsN, .svcMosi, .svcMiso] ++ (List.finRange 5).map .strap ++
  [.towRx false, .towTx false, .towRx true, .towTx true] ++
  ((List.finRange 4).flatMap fun m => [.rffeSclk m, .rffeSdata m]) ++ (List.finRange 32).map .tgpio

/-- The level that a chain of cells holds for a pin; a cell that was not shifted in holds 0. -/
def scanLevel (cells : List Bool) (p : ScanPin) : Bool := cells.getD (scanChain.idxOf p) false

/-- Boundary scan is available: the device is held in reset with TEST_MODE low (R13). DEDUCED (log 163): low at the pin when the instruction
is selected. -/
def scanOpen (d : Dev) (testMode : Bool) : Bool := d.pwr.inReset && !testMode

/-- REG_ACCESS is available (R14). -/
def accessOpen (d : Dev) : Bool := coreRuns d && d.jtag.open_

/-- BYPASS: a one-bit register between TDI and TDO, loaded with 0 when it is captured. -/
def jtagBypass (tdi : Bool) (d : Dev) : Dev := d.modJtag fun j => { j with ir := .bypass, bypassBit := tdi, drive := none }

/-- EXTEST drives the cells onto the pins. -/
def jtagExtest (x : ScanIn) (d : Dev) : Dev :=
  if scanOpen d x.testMode then d.modJtag fun j => { j with ir := .extest, cells := x.cells, drive := some x.cells } else jtagBypass false d

/-- SAMPLE/PRELOAD captures the pins, TEST_MODE among them, and loads the cells. -/
def jtagSample (pins cells : List Bool) (d : Dev) : Dev :=
  if scanOpen d (scanLevel pins (.strap 4)) then d.modJtag fun j => { j with ir := .sample, scan := pins, cells := cells, drive := none } else jtagBypass false d

/-- IDCODE. -/
def jtagIdcode (d : Dev) : Dev := d.modJtag fun j => { j with ir := .idcode, idWord := some Config.idcode, drive := none }

/-- A code that selects BYPASS at present: 0b1111, every unused code, and the codes of instructions that are not available. -/
def bypassCode (d : Dev) (testMode : Bool) (code : Nat) : Bool :=
  match code with
  | 0 => !scanOpen d testMode
  | 1 => false
  | 2 => !scanOpen d testMode
  | 8 => !accessOpen d
  | _ => true

/-- Update-DR of REG_ACCESS starts an access; one in progress goes on (R14). -/
def jtagAccess (wr : Bool) (a w : Word) (d : Dev) : Dev :=
  if !accessOpen d then jtagBypass false d
  else d.modJtag fun j =>
    { j with ir := .regAccess, drive := none, acc := if j.acc.isSome then j.acc else some (wr, a.toNat, w), done := j.done && j.acc.isSome }

/-- The access in progress completes (R14). -/
def jtagDone (e : Env) (d : Dev) : Dev :=
  match d.jtag.acc with
  | none => d
  | some (wr, a, w) =>
    let by_ : By := { origin := .debug }
    let (d1, res, data) :=
      if wr then
        let x := writeWord e by_ a w (d.modJtag fun j => { j with acc := none })
        (closeBatch e by_ x.d, x.res, 0#32)
      else if a % 4 ≠ 0 then (d, 3, 0#32)
      else let (d2, v) := readReg e a d; (d2, 0, v)
    d1.modJtag fun j => { j with acc := none, done := true, result := res, data := data }

/-- Capture-DR loads DONE, RESULT and the data of the last read (R14). -/
def jtagCapture (d : Dev) : Dev :=
  if accessOpen d then d.modJtag fun j => { j with dr := (j.done && j.acc.isNone, j.result, j.data) } else d

/-! ### The service SPI (R482) -/

/-- The status word that shifts out beside the command word. -/
def spiStatus (d : Dev) : Word :=
  BitVec.ofNat 32 (packBits [(24, 8, 0x5A), (16, 8, d.spi.result), (8, 8, d.spi.count), (0, 1, b2n (irqLow d))])

/-- Fields of a command word: read or write, words less one, and the byte address. -/
def spiRd (cmd : Word) : Bool := cmd.toNat.testBit 31
def spiWords (cmd : Word) : Nat := bitsOf cmd.toNat 24 7 + 1
def spiAddr (cmd : Word) : Nat := bitsOf cmd.toNat 0 24

/-- A write transaction: each complete word is applied in turn, and all are one batch. -/
def spiWrite (e : Env) (cmd : Word) (words : List Word) (cut : Bool) (d : Dev) : Dev :=
  let status := spiStatus d
  let by_ : By := { origin := .spi }
  let ws := words.take (spiWords cmd)
  let a := spiAddr cmd
  let z : BatchRes := if a % 4 ≠ 0 then { d := d, res := 3, count := ws.length }
    else writeAll e by_ ((List.range ws.length).zip ws |>.map fun p => (a + 4 * p.1, p.2)) { d := d }
  { closeBatch e by_ z.d with
    spi := { result := if cut then 3 else z.res, count := satN (z.count + b2n cut) 0xFF }, answer := [status] }

/-- Consecutive reads, in order. -/
def readAll (e : Env) : List Nat → Dev → Dev × List Word
  | [], d => (d, [])
  | a :: l, d =>
    let (d1, w) := readReg e a d
    let (d2, ws) := readAll e l d1
    (d2, w :: ws)

/-- A read transaction: after the status and a wait word, N + 1 data words, or those complete before SVC_CS_N rose inside a word:
that word is discarded, and its register is not read (DEDUCED, log 232). Before the firmware runs reads are refused (R382), and during
a handover they are answered BUSY (R394). -/
def spiRead (e : Env) (cmd : Word) (cut : Option Nat) (d : Dev) : Dev :=
  let status := spiStatus d
  let n := min (spiWords cmd) (cut.getD 128)
  let a := spiAddr cmd
  let zeros := List.replicate n 0#32
  let (d1, ws, res) :=
    if a % 4 ≠ 0 then (d, zeros, 3)
    else if handoverHolds d then (d, zeros, 4)
    else if !firmwareUp d then (d, zeros, 5)
    else
      let (d2, l) := readAll e ((List.range n).map fun k => a + 4 * k) d
      (d2, l, 0)
  { d1 with spi := { result := if cut.isSome then 3 else res, count := 0 }, answer := [status, 0#32] ++ ws }

/-! ### WRITE, READ and BULK (R434 to R437) -/

/-- Words as payload bytes. -/
def wordBytes (ws : List Word) : List Nat := ws.flatMap fun w => leBytes 4 w.toNat

/-- Answer a request, but not a broadcast. -/
def answerTow (e : Env) (f : Frame) (res : Nat) (pay : List Nat) (d : Dev) : Dev :=
  if f.dst = 0x7FF then d else respond e f res pay d

/-- The writes of a frame as one batch, with origin 0x02 and the frame's SRC; the RESULT of R434. -/
def towBatch (e : Env) (src : Nat) (l : List (Nat × Word)) (d : Dev) : Dev × Nat × Nat :=
  let by_ : By := { origin := .tow, addr := Fin.ofNat 2048 src }
  let z := writeAll e by_ l { d := d }
  (closeBatch e by_ z.d, if z.res = 0 then 0 else if z.res = 1 then 1 else 2, z.count)

/-- Apply register runs and answer. -/
def towApply (e : Env) (f : Frame) (l : List (Nat × Word)) (answer : Bool) (d : Dev) : Dev :=
  let (d1, res, n) := towBatch e f.src l d
  if answer then answerTow e f res (if res = 2 then leBytes 4 n else []) d1 else d1

/-- Ten seconds of Tow time in core cycles. -/
def tenSeconds : Nat := 9830400000

/-- A WRITE (R434): at once, or queued with TIMED set. -/
def serveWrite (e : Env) (f : Frame) (d : Dev) : Dev :=
  if f.timed then
    let t := leAt f.pay 0 8
    if f.pay.length < 8 ∨ (runsOf (f.pay.drop 8)).isNone then answerTow e f 3 [] d
    else if t < towNow d ∨ towNow d + tenSeconds < t ∨ 16 ≤ d.tow.timed.length then answerTow e f 4 [] d
    else answerTow e f 0 [] (d.modTow fun x => { x with timed := x.timed ++ [{ at_ := t, frame := f }] })
  else match runsOf f.pay with
    | some l => towApply e f l true d
    | none => answerTow e f 3 [] d

/-- A READ (R435): 1 to 63 words. -/
def serveRead (e : Env) (f : Frame) (d : Dev) : Dev :=
  let n := leAt f.pay 0 4
  if f.pay.length ≠ 4 ∨ n < 1 ∨ 63 < n ∨ f.arg % 4 ≠ 0 then answerTow e f 3 [] d
  else
    let (d1, ws) := readAll e ((List.range n).map fun k => f.arg + 4 * k) d
    answerTow e f 0 (wordBytes ws) d1

/-- The payload of a BULK for the command buffer (R436): bytes from a byte offset. Without an open buffer, or past its end,
they are discarded, as SUP_AUTH_WIN discards them. -/
def bulkBuffer (f : Frame) (d : Dev) : Dev :=
  let at_ := bitsOf f.arg 0 20
  if d.auth.submit.isSome then d
  else forN f.pay.length (fun k d => if at_ + k < 4096 * d.authBlocks then authByte (at_ + k) (f.pay.getD k 0) d else d) d

/-- A BULK (R436): in order it is applied, with an ACK at every 16th SEQ and at LAST; after a gap frames are discarded until
the missing one arrives, with one NAK. -/
def serveBulk (e : Env) (f : Frame) (d : Dev) : Dev :=
  let d0 := { d with eng := { d.eng with bulk := true } }
  let want := d.tow.bulkSeq.getD f.seq
  if f.seq ≠ want then
    if d.tow.bulkNak then d0
    else answerTow e f 5 (leBytes 4 want) (d0.modTow fun t => { t with bulkNak := true })
  else
    let d1 := d0.modTow fun t => { t with bulkSeq := if f.last then none else some ((f.seq + 1) % 65536), bulkNak := false }
    let (d2, ok) := if bitOf f.arg 31 then (bulkBuffer f d1, true)
      else match runsOf f.pay with
        | some l => (towApply e f l false d1, true)
        | none => (d1, false)
    if !ok then answerTow e f 3 [] d2
    else if f.last ∨ f.seq % 16 = 0 then answerTow e f 6 (leBytes 4 f.seq) d2
    else d2

/-- Serve a request addressed to the device. -/
def serveTow (e : Env) (f : Frame) (d : Dev) : Dev :=
  match f.type with
  | 1 => serveWrite e f d
  | 2 => serveRead e f d
  | 4 => serveBulk e f d
  | _ => d

/-- A WRITE, READ or BULK arrives. During a handover it waits in order (R394, R437), and before the firmware runs nobody
serves it. -/
def towRequest (e : Env) (dn : Bool) (type : Nat) (rf : RxFrame) (d : Dev) : Dev :=
  match receive e dn type rf d with
  | (d1, .drop) => d1
  | (d1, .act f) =>
    if isHead d1 ∨ !firmwareUp d1 then d1
    else if handoverHolds d1 then d1.modTow fun t => { t with held := t.held ++ [f] }
    else serveTow e f d1

/-- Frames held during a handover are served once it has ended, in order. -/
def serveHeld (e : Env) (d : Dev) : Dev :=
  if handoverHolds d ∨ d.tow.held.isEmpty then d
  else forL d.tow.held (serveTow e) (d.modTow fun t => { t with held := [] })

/-- Timed WRITEs whose Tow time has come by the present boundary are applied, in the order in which they came (R36, R434). -/
def towTimedApply (e : Env) (d : Dev) : Dev :=
  if handoverHolds d then d
  else
    let due := d.tow.timed.filter fun w => decide (w.at_ ≤ d.clk.tow)
    let d1 := d.modTow fun t => { t with timed := t.timed.filter fun w => decide (d.clk.tow < w.at_) }
    forL due (fun w d => towApply e w.frame ((runsOf (w.frame.pay.drop 8)).getD []) false d) d1

/-- At T_G the device reads REG0 and REG1, without side effects (R439). -/
def gatherSample (e : Env) (d : Dev) : Dev :=
  match d.tow.gather with
  | some g =>
    if g.late ∨ g.result.isSome ∨ towNow d < g.at_ then d
    else d.modTow fun t => { t with gather := some { g with result := some ((peek e d g.reg0).toNat, (peek e d g.reg1).toNat) } }
  | none => d

end Sys2Proof.Machine
end

