-- ==== Sys2Proof/Machine/Upkeep.lean ====
section
/-! DEFINITION. What the end of every step does: escalations are carried out (R76, R279, R289 to R291), conditions that follow
others are looked at again, snapshot lists are read (R305), new records are announced on the Tow link (R438). -/
namespace Sys2Proof.Machine

/-! ### Reactions (R279, R289, R291) -/

/-- A GROUP escalation (R76, R88, R251, R291, R327). DESIGN CHOICE (log 221): its channels are parked before its epochs are unwound, so the
unwind discards a bias DAC inverse on one of them. -/
def groupReaction (g parent : Nat) (d : Dev) : Dev :=
  let d1 := calAbort g (holdGroup g (openShadow (.group g) parent d))
  let d2 := bdacCauseAll (.group g) (chanOfGroup d1 g) (holdPins (.group g) (pinOfGroup d1 g) d1)
  unwindWhere (epochOnGroup d2 g) d2

/-- One escalation is carried out. A SAFETY reaction is the source's own. -/
def reactTo (e : Env) (x : Cls × Nat × Nat × Nat) (d : Dev) : Dev :=
  let (cls, code, inst, n) := x
  match cls with
  | .device => { d with boot := { d.boot with warmReq := true } }
  | .group => match groupOfFault d code inst with | some g => groupReaction g n d | none => d
  | .slice => match sliceOfFault d code inst with | some s => spareEscalate e s n d | none => d
  | _ => d

/-- The escalations of this step, by class; a DEVICE escalation supersedes the others (R289). -/
def react (e : Env) (d : Dev) : Dev :=
  let due := d.flt.due
  let d1 := d.modFlt fun f => { f with due := [] }
  if due.any fun x => x.1 = .device then { d1 with boot := { d1.boot with warmReq := true } }
  else forL (due.filter fun x => x.1 = .slice) (reactTo e) (forL (due.filter fun x => x.1 = .group) (reactTo e) d1)

/-- A group reaction completes when the group shows STANDBY, at once for a group that stays in SLEEP (R291). -/
def groupShadows (d : Dev) : Dev :=
  let shown (g : Nat) : Bool := let x := d.group g; x.state = .standby || (x.state = .sleep && x.phase = .steady)
  endReaction (fun r => match r with | .group g => shown g | _ => false) d

/-! ### Conditions that follow others -/

/-- The last domain of the sleep sequence is OFF: a configuration commit and a flush begin (R360). -/
def sleepCheck (d : Dev) : Dev :=
  if d.pwr.sleep = .entering ∧ d.pwr.stage = 1 ∧ domainsOff d then startFlush false (commitStart (d.modPwr fun p => { p with stage := 2 })) else d

/-- REC_VARNISH_FULL is live while the Varnish area is full (R300). -/
def varnishFull (e : Env) (d : Dev) : Dev := setLive e Ev.REC_VARNISH_FULL noInst (decide (4096 ≤ d.rcd.vUsed)) d

/-- The groups' calibrations follow their states (R76, R102, R104). -/
def calFollow (e : Env) (g : Nat) (d : Dev) : Dev := onReqPending e g (calAtSynth e g (calAbort g d))

/-- A calibration that waited for a synthesiser to lock goes on (R96, R102). -/
def calResume (e : Env) (d : Dev) : Dev := if d.cal.now.isNone ∧ !(calOrder d).isEmpty then calGo e d else d

/-- Everything that follows from what the step has done. -/
def upkeep (e : Env) (d : Dev) : Dev :=
  let d1 := groupShadows (shedShadows (stackClean (contradictLost e (react e d))))
  let d2 := calResume e (calFollow e 1 (calFollow e 0 d1))
  let d3 := stopPark (probeCheck e (sweepCheck (bgCheck d2)))
  let d4 := sleepCheck (sleepDown (spareParents d3))
  serveHeld e (firmwareLoads e (clearGo e (varnishFull e (tokenWatch d4))))

/-! ### EVENT frames (R438) -/

/-- Announce the records that this step has staged. -/
def announceAll (e : Env) (d : Dev) : Dev :=
  forL d.rcd.announce (fun n d => match d.rcd.stg.find? fun p => p.2.r.seq == n with
    | some p => sendEvent e p.2.r d
    | none => d) (d.modRcd fun x => { x with announce := [] })

/-! ### The end of a step -/

/-- One round of what ends a step; the period remembers what its chains do (R27, R193). -/
def finishOnce (e : Env) (d : Dev) : Dev := announceAll e (fillSnaps e (probeNote (noteGates (upkeep e d))))

/-- The end of a step. The second round takes what the first one has raised. -/
def finish (e : Env) (d : Dev) : Dev := finishOnce e (finishOnce e d)

/-- The end of a step of a device whose core runs; without its core only the Lodge acts. -/
def settle (e : Env) (d : Dev) : Dev := if coreRuns d then finish e d else d

end Sys2Proof.Machine
end

