-- ==== Sys2Proof/Machine/Retune.lean ====
section
/-! DEFINITION. What a retune and a loss of lock do to the slices a synthesiser serves (R71, R75, R128, R154, R172). -/
namespace Sys2Proof.Machine
open Fld

/-- Synthesiser `n` serves slice `s` (R71): an RX synthesiser its source chain, a TX synthesiser its sink chain. -/
def servedBy (d : Dev) (n s : Nat) : Bool := (if n % 2 = 0 then (effOf d s).src else (effOf d s).sink) / 4 == n / 2

/-- A retune starts for the slices it moves: the canceller restarts, and the output is suppressed until the boundary after lock. -/
def retuneSlices (e : Env) (n : Nat) (d : Dev) : Dev :=
  forN 192 (fun s d =>
    if servedBy d n s ∧ (d.slice s).st ≠ .idle then
      suppress e 3 (.lock (n % 2 = 0) (n % 2 = 1)) s (cnlRestart s d)
    else d) d

/-- The retunes that start at this boundary (R70). -/
def retuneBoundary (e : Env) (d : Dev) : Dev :=
  forN 4 (fun n d =>
    if (d.synth n).due.isSome ∧ 2 ≤ (d.group (n / 2)).state.code then retuneSlices e n (startRetune n d) else startRetune n d) d

/-- A loss of lock in SYNTH or above (R75): slices sourced from an RX synthesiser's chains are muted until relock. -/
def loseLock (e : Env) (n : Nat) (d : Dev) : Dev :=
  let d1 := lostLock e n d
  if n % 2 = 0 then forN 192 (fun s d => if servedBy d n s then suppress e 3 (.lock true false) s d else d) d1 else d1

/-- A synthesiser loses lock: below SYNTH only the lock goes. -/
def synthUnlock (e : Env) (n : Nat) (d : Dev) : Dev :=
  let y := d.synth n
  if !y.lock then d
  else if 2 ≤ (d.group (n / 2)).state.code then loseLock e n d
  else followEdges (d.setSynth n { y with lock := false })

/-- A retune has not locked at the end of its nominal time (R70). -/
def retuneTimeout (e : Env) (n : Nat) (d : Dev) : Dev :=
  let y := d.synth n
  if y.retune && !y.lock then loseLock e n d else d

/-- A synthesiser declares lock (R69); after a retune its chains show COARSE (R109), and the range check is repeated on the slices it
serves (R128). -/
def synthLock (e : Env) (n band : Nat) (d : Dev) : Dev :=
  let y := d.synth n
  if y.on && !y.lock then
    let d1 := locked n band d
    if y.retune then forN 192 (fun s d => if servedBy d n s then rangeCheck e s d else d) (retuneCoarse n d1) else d1
  else d

end Sys2Proof.Machine
end

