-- ==== Sys2Proof/Machine/Boundary.lean ====
section
/-! DEFINITION. The control-period boundary (chapter 2, R31, R32, R40, R191) and a frame-time step (R43, R44): the records of
the period close, the outputs of the period take effect, limits and Patrol checks are made, and what waited for the
boundary starts. -/
namespace Sys2Proof.Machine
open Fld

/-! ### Time -/

/-- Core cycles of the period in progress (R43). -/
def periodLen (d : Dev) : Nat := ((periodCycles : Int) + d.src.adj).toNat

/-- A period of `n` core cycles ends; `step` begins a new frame wherever the old one stood (R40, R43, R44). -/
def clockOn (n : Nat) (step : Bool) (d : Dev) : Dev :=
  let c := d.clk
  let cyc := if step then 0 else (c.cyc + periodCycles) % frameCycles
  { d with clk := { c with
      core := c.core + n, tow := (c.tow + n) % 2 ^ 64, ofs := 0, periods := c.periods + 1, cyc := cyc
      frame := if cyc = 0 then (c.frame + 1) % 256 else c.frame } }

/-! ### Records of the period just closed (R32, R137, R193) -/

/-- A slice closes its record: zeros where its source chain has delivered nothing in the period (R57, R58). A slice that should have
measured and delivers nothing keeps its old sequence number: its record is missing (R210). -/
def closeSlice (x : Period) (s : Nat) (d : Dev) : Dev :=
  let st := (d.slice s).st
  let measures := st = .settling || st = .active || st = .draining
  let live := measures && (d.rxChain (effOf d s).src).fed
  match (if measures && !live then none else x.slices.find? fun m => m.s.val == s) with
  | some m => if live then sliceClose s m.pw m.pk m.raw m.bins d else sliceClose s 0 0 0 [] d
  | none =>
    if live && !(d.slice s).supHit then
      d.modSlice s fun z => { z with meas := { z.meas with valid := false, pres := z.seen }, bins := [], seen := false, supHit := z.suppressed }
    else sliceClose s 0 0 0 [] d

/-- A TX chain closes its composite record and its digital peak level (R96, R193). A period without an active sample holds no power.
DESIGN CHOICE (log 180): active samples of which none has passed every gate are zeros, −200.00 dBm. A chain whose samples have reached
its DACs and that brings no measurement keeps its sequence number: its record is missing (R210). -/
def closeTx (x : Period) (c : Nat) (d : Dev) : Dev :=
  let (q, _, pw, _) := (d.eng.comp.lookup c).getD (0, 0, -20000, false)
  let put (r : Nat × Nat × Int × Bool) (peak : Int) (d : Dev) : Dev :=
    { d.modTx c fun z => { z with peak := peak } with eng := { d.eng with comp := tput d.eng.comp c r } }
  let z := d.txChain c
  if !z.heard then put ((q + 1) % 256, 0, pw, false) (-20000) d
  else if !z.fed then put ((q + 1) % 256, 0, -20000, true) (-20000) d
  else match x.tx.find? fun m => m.c.val == c with
    | some m => put ((q + 1) % 256, m.raw % 2 ^ 32, clampI m.pw (-32767) 32767, true) m.peak d
    | none => d

/-- An RX chain closes its power record (R93, R94): none where it has not received in the period. A chain
that receives and brings no measurement keeps its sequence number: its record is missing (R210). -/
def closeRx (e : Env) (x : Period) (c : Nat) (d : Dev) : Dev :=
  let heard := (d.rxChain c).heard
  match x.rx.find? fun m => m.c.val == c, heard with
  | some m, true => rxReading e c m.pw m.raw m.clipped m.total d
  | _, _ => d.modRx c fun z => { z with pwr := none, raw := 0, seq := if heard then z.seq else (z.seq + 1) % 256 }

/-- Samples of the period closed in state `d` in which a donor TX chain transmitted (R271). -/
def dutyOf (x : Period) (d : Dev) (c : Nat) : Nat :=
  if (d.txChain c).sent then ((x.tx.find? fun m => m.c.val == c).map (·.duty)).getD 0 else 0

/-- Every measurement closed at a short boundary carries VALID = 0 (R44). -/
def voidPeriod (d : Dev) : Dev := forN 192 (fun s d => d.modSlice s fun z => { z with supHit := true }) d

/-- A canceller's published figures carry the sequence number and validity of its slice's measurement (R177). -/
def cnlStamp (s : Nat) (d : Dev) : Dev :=
  let m := (d.slice s).meas
  d.setCanc s { d.canc s with seq := m.seq, valid := m.valid }

/-- The canceller's part of a boundary (R172 to R179, R185). -/
def cnlBoundary (e : Env) (d : Dev) : Dev :=
  let d1 := forN 192 (cnlFigures e) d
  forN 192 (fun s d => cnlStamp s (cnlPublish e s d)) (probeCompare e d1)

/-! ### The loop engine -/

/-- A channel is between the start of a park and the end of the slew back (R328). -/
def chanAway (d : Dev) (c : Nat) : Bool :=
  let x := d.chan c
  x.back || x.st = .parking || x.st = .parked || x.st = .span || x.st = .offing

/-- The record of a general loop: the source of LOOP_SRC (R188, R193, R211, R328). -/
def genRec (d : Dev) (i : Nat) : Option LRec :=
  let k := d.get LOOP_SRC.MIDX i
  let r : Option LRec := match d.get LOOP_SRC.MSRC i with
    | 1 => (d.hk.slots.lookup k).map fun x => { seq := x.seq, raw := x.code, y := x.value, valid := x.valid, frz := false }
    | 2 =>
      let x := d.rxChain k
      some { seq := x.seq, raw := x.raw, y := x.pwr.getD 0, valid := x.pwr.isSome, frz := x.pwr.isSome }
    | 3 =>
      let m := (d.slice k).meas
      let ok := m.valid && m.rms.isSome
      some { seq := m.seq, raw := m.raw, y := m.rms.getD 0, valid := ok, frz := ok, start := m.start }
    | _ => none
  if chanAway d (d.get LOOP_SRC.BDAC i) then r.map fun x => { x with valid := false, frz := false } else r

/-- The record that loop `i` finds at this boundary. -/
def recOf (e : Env) (d : Dev) (i : Nat) : Option LRec :=
  if i < 192 then sliceRec e d i else if i < 200 then compRec d i else genRec d i

/-- The outputs of general loops reach their channels (R329, R330). DEDUCED (log 247): T is unchanged in the window of R328, and
at the boundary whose output was computed from a record of that window, so that CODE_NEW of a span change stands (R334). -/
def driveChans (d : Dev) : Dev :=
  forN 48 (fun c d => match loopsOn d c with
    | i :: _ =>
      let x := d.chan c
      let d1 := d.setChan c { x with held := chanAway d c }
      if x.held || chanAway d c then d1 else setT c (d.loop i).out.toNat d1
    | [] => d.setChan c { d.chan c with held := false }) d

/-- The limit unit takes HI and LO from the records (R191, R203). -/
def takeLimits (e : Env) (d : Dev) : Dev := forN 256 (fun i d => d.setLoop i { d.loop i with lims := some (limits e d i) }) d

/-- The first boundary clamps with the limits that it finds itself (R381). -/
def firstLimits (e : Env) (d : Dev) : Dev :=
  forN 256 (fun i d => if (d.loop i).lims.isNone then d.setLoop i { d.loop i with lims := some (limits e d i) } else d) d

/-- The loop engine at a boundary (R31, R191, R206, R212, R219, R498). -/
def engineBoundary (e : Env) (d : Dev) : Dev :=
  let d1 := takeLimits e (driveChans (forN 256 applyOut (firstLimits e d)))
  let d2 := forN 256 (fun i d => takeMode e i (recOf e d i) (holdTick i d)) d1
  let d3 := forN 256 (fun i d => beginLoop e i (recOf e d i) (decide (d.get LOOP_SRC.MIDX i ∈ d.hk.fresh)) d) d2
  { d3 with eng := { d3.eng with due := true }, hk := { d3.hk with fresh := [] } }

/-! ### What waits for a boundary -/

/-- The Stencils take the bins of the period and judge it (R227). -/
def stencilsBoundary (e : Env) (d : Dev) : Dev :=
  forL (d.stn.map (·.1)) (fun n d => stencilBins e n (d.slice (d.get STN_CFG.SLICE n)).bins d) d

/-- Changes that take effect at a boundary: slices, chains, background corrections, retunes and lock gates (R70, R75, R107,
R124, R154), user calibration (R112). -/
def changesBoundary (e : Env) (d : Dev) : Dev :=
  let d1 := bgApply e (chainsBoundary (slicesBoundary e d))
  let d2 := reopenGates (retuneBoundary e d1)
  if d2.ucalNew then { d2 with ucal := d2.ucalArea, ucalNew := false } else d2

/-- A frame boundary (R41, R181, R186). -/
def frameBoundary (d : Dev) : Dev :=
  if d.clk.cyc = 0 then (probeFrame d).modSrc fun s => { s with out := s.open_ } else d

/-- A period begins: no LOOP_LUT word and no bulk transfer counts in it yet (R498). -/
def freshLoads (d : Dev) : Dev := { d with eng := { d.eng with lutWords := 0, bulk := false } }

/-- Everything a boundary does once the clock stands on it and the records have closed, with the duty of each TX chain: Tow-timed writes
that are due come first (R36, R221), the Stencils judge before the engine takes the records (R233), and their predictions after it
(R196). -/
def boundaryWork (e : Env) (x : Period) (duty : Nat → Nat) (d : Dev) : Dev :=
  let d0 := towTimedApply e (forgetEdges (freshLoads (freshGates d)))
  let d1 := patrolBoundary e x.fixOk (detectorServes d0) (d0.clk.cyc == 0) duty (cnlBoundary e d0)
  let d2 := changesBoundary e (takePredictions (engineBoundary e (stencilsBoundary e d1)))
  frameBoundary (towPendAlone e (ftBoundary e (towSlew d2)))

/-- The boundary B(k) (R40): period k − 1 closes, the outputs that the engine computed take effect. -/
def boundary (e : Env) (x : Period) (d : Dev) : Dev :=
  let d1 := clockOn (periodLen d) false (computeAll e (probeClose periodCycles d))
  boundaryWork e x (dutyOf x d1) (forN 8 (closeRx e x) (forN 8 (closeTx x) (forN 192 (closeSlice x) d1)))

/-- The offset of a step that falls into the period in progress. -/
def stepDue (d : Dev) : Option Nat := (stepOffset d).filter fun o => decide (o < periodLen d)

/-- The composite and wideband records of a short period are void (R44). -/
def voidChains (c : Nat) (d : Dev) : Dev :=
  let (q, r, pw, _) := (d.eng.comp.lookup c).getD (0, 0, -20000, false)
  let eng := { d.eng with comp := tput d.eng.comp c (q, r, pw, false) }
  { d with eng := eng }.modRx c fun z => { z with pwr := none, raw := 0, seq := (z.seq + 1) % 256 }

/-- A frame-time step takes effect (R43, R44): the period ends early, its measurements are void and no loop computes in it;
every slice goes through a slice sync. -/
def frameStep (e : Env) (x : Period) (d : Dev) : Dev :=
  match stepDue d with
  | none => d
  | some o =>
    let d1 := clockOn o true (voidPeriod (undoPeriod (probeClose o { d with eng := { d.eng with due := false } })))
    let d2 := forN 8 voidChains (forN 8 (closeTx x) (forN 192 (closeSlice x) d1))
    let d3 := sliceSync e (towPended e <| report e (d2.modSrc fun s => { s with stepCnt := satN (s.stepCnt + 1) 0xFF, adj := 0 }) Ev.FT_STEP)
    (boundaryWork e x (dutyOf x d1) d3).modSrc fun s => { s with stepped := true, step := none }

end Sys2Proof.Machine
end

