-- ==== Sys2Proof/Machine/Ops.lean ====
section
/-! DEFINITION. The shapes of a command's effect: every meaning is one of these over an operation of the block's parts. The
queue of waiting commands is not theirs. -/
namespace Sys2Proof.Machine

/-- The answer of a command. -/
abbrev Answer := Host.Outcome State Fault Refusal

/-- A command that acts on the running core. -/
def lift (f : Env → Dev → Dev) (s : State) : Answer :=
  .next { s with dev := if coreRuns s.dev then settle s.env (f s.env s.dev) else s.dev }

/-- A command that acts on the Lodge or on the pins whatever the core does. -/
def liftLodge (f : Env → Dev → Dev) (s : State) : Answer := .next { s with dev := settle s.env (f s.env s.dev) }

/-- A command that acts on the environment too. -/
def liftEnv (f : Env → Dev → Env × Dev) (s : State) : Answer :=
  let p := f s.env s.dev
  .next { s with env := p.1, dev := settle p.1 p.2 }

/-- A write command: one word to a register, as a batch of its own (R316, R500). -/
def liftWrite (by_ : By) (n : RegName) (i j : Nat) (w : Word) (s : State) : Answer :=
  lift (fun e d => hostWrite e by_ (n.addr i j) w d) s

end Sys2Proof.Machine
end

