-- ==== Sys2Proof/Machine/Operands.lean ====
section
/-! DEFINITION. Operand forms of the commands: what an operand names, and accesses whose operand is a whole word. -/
namespace Sys2Proof.Machine

/-- The calibration step an operand names (R101). -/
def calStepOf : CalOp → CalStep
  | .orxSelf => .orxSelf
  | .rx g => .rx g.val
  | .tx c => .tx c.val
  | .rxFlat g => .rxFlat g.val
  | .txFlat c => .txFlat c.val

/-- The kind of background step an operand names (R106). -/
def bgKindOf : BgOp → BgKind
  | .rxGap => .rxGap
  | .txGap => .txGap
  | .txTrack => .txTrack

/-- The register of a slice that an operand names (R124). -/
def sliceRegOf : SliceCfg → RegName
  | .cfg0 => .SLC_CFG0
  | .cfg1 => .SLC_CFG1
  | .ncoRx => .SLC_NCO_RX
  | .ncoTx => .SLC_NCO_TX

/-- The Patrol register that an operand names (R257). -/
def ptlRegOf : PtlCfg → RegName
  | .cfg => .PTL_CFG
  | .osc => .PTL_OSC
  | .time => .PTL_TIME
  | .sweep => .PTL_SWEEP

/-- A plain write of a word to a register, as a batch of its own (R316, R500). -/
def writeTo (src : Src) (n : RegName) (i j : Nat) (w : Word) (s : State) : Answer := liftWrite src.plain n i j w s

/-- A write that an authorised command carries (R402 to R404); a role without the right to the word writes nothing. -/
def writeAuth (src : Src) (role : Role) (n : RegName) (w : Word) (s : State) : Answer :=
  lift (fun e d =>
    if writeRight role (n.addr 0 0, w) then hostWrite e (src.auth role) (n.addr 0 0) w d else d) s

/-- A read: the word it returns is the answer of the port (R15, R18). -/
def readAt (a : Nat) (e : Env) (d : Dev) : Dev := let p := readReg e a d; { p.1 with answer := [p.2] }

end Sys2Proof.Machine
end

