-- ==== Sys2Proof/Machine/ExecBdac.lean ====
section
/-! DEFINITION. Meanings: bias DACs (chapter 14). -/
namespace Sys2Proof.Machine
open Fld

/-- A write of BDAC_CFG.EN = 1 (R325). -/
def execBdacEnable (src : Src) (c : Fin 48) (w : Word) (s : State) : Answer := writeTo src .BDAC_CFG c.val 0 w s

/-- A write of BDAC_CFG.EN = 0 (R325). -/
def execBdacDisable (src : Src) (c : Fin 48) (w : Word) (s : State) : Answer := writeTo src .BDAC_CFG c.val 0 w s

/-- The output stage has powered up (R325). -/
def execBdacPowered (c : Fin 48) (s : State) : Answer := lift (fun _ d => bdacPowered c.val d) s

/-- A slew step of the channels named (R333). -/
def execBdacSlewStep (chans : List (Fin 48)) (s : State) : Answer := lift (fun _ d => forL (chans.map (·.val)) bdacStep d) s

/-- OUT has reached PARK (R325). -/
def execBdacParkReached (c : Fin 48) (s : State) : Answer := lift (fun _ d => bdacAtPark c.val d) s

/-- 20 µs of OFFING end (R325). -/
def execBdacOffingDone (c : Fin 48) (s : State) : Answer := lift (fun _ d => bdacOffed c.val d) s

/-- A write of BDAC_CODE (R329). -/
def execBdacCodeWrite (src : Src) (c : Fin 48) (w : Word) (s : State) : Answer := writeTo src .BDAC_CODE c.val 0 w s

/-- A write of BDAC_LOAD0 or BDAC_LOAD1.BIT (R331). -/
def execBdacStrobe (src : Src) (hi : Bool) (w : Word) (s : State) : Answer :=
  writeTo src (if hi then .BDAC_LOAD1 else .BDAC_LOAD0) 0 0 w s

/-- A write of BDAC_LOAD1.ALL (R331). -/
def execBdacStrobeAll (src : Src) (w : Word) (s : State) : Answer := writeTo src .BDAC_LOAD1 0 0 w s

/-- A write of BDAC_TT_CTL.ARM (R332). -/
def execBdacTimerArm (src : Src) (w : Word) (ofs : Nat) (s : State) : Answer :=
  lift (fun e d => hostWrite e src.plain (RegName.BDAC_TT_CTL.addr 0 0) w (d.atOfs ofs)) s

/-- The load timer comes due (R332). -/
def execBdacTimerLoad (ofs : Nat) (s : State) : Answer := lift (fun _ d => timerLoad (d.atOfs ofs)) s

/-- A write of BDAC_SPAN.GO (R334). -/
def execBdacSpanChange (src : Src) (c : Fin 48) (w : Word) (s : State) : Answer := writeTo src .BDAC_SPAN c.val 0 w s

/-- The span switch ends (R334). -/
def execBdacSpanSwitchDone (c : Fin 48) (s : State) : Answer := lift (fun _ d => spanDone c.val d) s

/-- A write of BDAC_SINE.RUN = 1 (R335). -/
def execBdacSineStart (src : Src) (c : Fin 48) (w : Word) (s : State) : Answer := writeTo src .BDAC_SINE c.val 0 w s

/-- A write of BDAC_SINE.RUN = 0 (R335). -/
def execBdacSineStop (src : Src) (c : Fin 48) (w : Word) (s : State) : Answer := writeTo src .BDAC_SINE c.val 0 w s

/-- A stopping sine crosses zero (R335). -/
def execBdacSineZeroCross (c : Fin 48) (s : State) : Answer := lift (fun _ d => sineZero c.val d) s

/-- A driven output has limited its current for 10 µs (R336). -/
def currentLimit (e : Env) (c : Nat) (d : Dev) : Dev := if (d.chan c).driven then report e d Ev.BDAC_ILIM c else d

/-- An output limits its current (R336). -/
def execBdacIlim (c : Fin 48) (s : State) : Answer := lift (fun e d => currentLimit e c.val d) s

/-- An update tick (R329). -/
def execBdacUpdateTick (ofs : Nat) (s : State) : Answer := lift (fun _ d => bdacTick (d.atOfs ofs)) s

end Sys2Proof.Machine
end

