-- ==== Sys2Proof/Machine/ExecSlices.lean ====
section
/-! DEFINITION. Meanings: slices, captures, latency, glaze (chapters 5 and 6). -/
namespace Sys2Proof.Machine
open Fld

/-- A write of SLC_CTL.EN = 1 (R139). -/
def execSliceEnable (src : Src) (n : Fin 192) (w : Word) (s : State) : Answer := writeTo src .SLC_CTL n.val 0 w s

/-- A write of SLC_CTL.EN = 0 (R140). -/
def execSliceDisable (src : Src) (n : Fin 192) (w : Word) (s : State) : Answer := writeTo src .SLC_CTL n.val 0 w s

/-- A write of SLC_CTL.FMUTE (R136). -/
def execSliceForcedMute (src : Src) (n : Fin 192) (w : Word) (s : State) : Answer := writeTo src .SLC_CTL n.val 0 w s

/-- A write of SLC_CFG0, SLC_CFG1 or an NCO word (R124). -/
def execSliceCfgWrite (src : Src) (n : Fin 192) (r : SliceCfg) (w : Word) (s : State) : Answer :=
  writeTo src (sliceRegOf r) n.val 0 w s

/-- A write of SLC_GAIN (R133). -/
def execSliceGainWrite (src : Src) (n : Fin 192) (w : Word) (s : State) : Answer := writeTo src .SLC_GAIN n.val 0 w s

/-- A write of a coefficient word (R131, R162). -/
def execCoefWrite (src : Src) (n : Fin 192) (bankB : Bool) (k : Fin 64) (w : Word) (s : State) : Answer :=
  writeTo src (if bankB then .SLC_COEF_B else .SLC_COEF_A) n.val k.val w s

/-- A presence window closes (R135). -/
def execPresenceWindow (n : Fin 192) (pw : Rat) (ofs : Nat) (s : State) : Answer :=
  lift (fun _ d => presence n.val pw (d.atOfs ofs)) s

/-- HANG ends (R136). -/
def execMuteHangExpiry (n : Fin 192) (s : State) : Answer := lift (fun _ d => muteHang n.val d) s

/-- A mute ramp ends (R136). -/
def execSliceMuteRampDone (n : Fin 192) (s : State) : Answer := lift (fun _ d => muteRampDone n.val d) s

/-- Ramp and flush of a drain complete (R141). -/
def execSliceDrainDone (n : Fin 192) (s : State) : Answer := lift (fun e d => drainDone e n.val d) s

/-- The slice that a physical slice carries. -/
def carriedBy (d : Dev) (p : Nat) : Option Nat := (List.range 192).find? fun s => physOf d s == p

/-- A check of a physical slice keeps failing: the fault of the logical slice that it carries is live (R146, R187). -/
def physCheck (code p : Nat) (e : Env) (d : Dev) : Dev :=
  match carriedBy d p with
  | some s => raiseLive e d code s
  | none => d

/-- The parity or residue check of a physical slice fails (R146). -/
def execSliceCheck (p : Fin 200) (s : State) : Answer := lift (physCheck Ev.SLICE_CHECK p.val) s

/-- A write of POOL_CAP_CFG.ARM (R145). -/
def execCaptureArm (src : Src) (w : Word) (s : State) : Answer := writeTo src .POOL_CAP_CFG 0 0 w s

/-- A write of POOL_CAP_CFG.REL (R145). -/
def execCaptureRelease (src : Src) (w : Word) (s : State) : Answer := writeTo src .POOL_CAP_CFG 0 0 w s

/-- The trigger of an armed capture. -/
def capStart (d : Dev) : Dev :=
  let x := d.pool.cap
  if x.armed then { d with pool := { d.pool with cap := { x with armed := false, running := true, samples := [] } } } else d

/-- A running capture has filled its blocks, 1,024 samples each; ARM reads 0 again (R145). -/
def capDone (samples : List Nat) (d : Dev) : Dev :=
  let x := d.pool.cap
  if x.running then
    let d1 := { d with pool := { d.pool with cap := { x with
        running := false, done := true, samples := (samples.take (1024 * x.blocks)).map (· % 4294967296) } } }
    d1.put POOL_CAP_CFG.ARM 0 0
  else d

/-- The capture's trigger (R145). -/
def execCaptureTrigger (s : State) : Answer := lift (fun _ d => capStart d) s

/-- The capture fills its blocks (R145). -/
def execCaptureDone (samples : List Nat) (s : State) : Answer := lift (fun _ d => capDone samples d) s

/-- A write of SLC_LAT (R150). -/
def execLatencyWrite (src : Src) (ul : Bool) (w : Word) (s : State) : Answer := writeTo src .SLC_LAT (if ul then 1 else 0) 0 w s

/-- The settle count ends (R157). -/
def execSettleCountElapsed (n : Fin 192) (ofs : Nat) (s : State) : Answer :=
  lift (fun e d => settleElapsed e n.val (d.atOfs ofs)) s

/-- A write of SLC_GLZ_CTL.SWAP on one slice (R160). -/
def execGlazeSwapRequest (src : Src) (n : Fin 192) (w : Word) (s : State) : Answer := writeTo src .SLC_GLZ_CTL n.val 0 w s

/-- A write of SLC_GLZ_CTL.SWAP with SET (R163). -/
def execGlazeSetSwapRequest (src : Src) (n : Fin 192) (w : Word) (s : State) : Answer := writeTo src .SLC_GLZ_CTL n.val 0 w s

/-- A fade ends (R159). -/
def execGlazeFadeEnd (n : Fin 192) (ofs : Nat) (s : State) : Answer := lift (fun e d => fadeEnd e n.val (d.atOfs ofs)) s

end Sys2Proof.Machine
end

