-- ==== Sys2Proof/Machine/ExecCanceller.lean ====
section
/-! DEFINITION. Meanings: canceller and isolation probe (chapter 7). -/
namespace Sys2Proof.Machine
open Fld

/-- A block ends, on the samples that its chains deliver: the onset detectors see the canceller's output, then the canceller adapts
(R171, R263). -/
def blockEnd (e : Env) (n : Nat) (inp : List Cpx) (refs : List (Nat × List Cpx)) (d : Dev) : Dev :=
  let x := blockIn d n inp
  let r := blockRefs d n refs
  oscBlock e n (blockErr n x r d) (cnlBlockEnd n x r d)

/-- A 64-sample canceller block ends (R171). -/
def execCnlBlockEnd (n : Fin 192) (inp : List Cpx) (refs : List (Nat × List Cpx)) (ofs : Nat) (s : State) : Answer :=
  lift (fun e d => blockEnd e n.val inp refs (d.atOfs ofs)) s

/-- A write of CNL_CFG or CNL_BULK (R170). -/
def execCnlCfgWrite (src : Src) (n : Fin 192) (bulk : Bool) (w : Word) (s : State) : Answer :=
  writeTo src (if bulk then .CNL_BULK else .CNL_CFG) n.val 0 w s

/-- A write of CNL_CTL (R180). -/
def execCnlCtlWrite (src : Src) (n : Fin 192) (w : Word) (s : State) : Answer := writeTo src .CNL_CTL n.val 0 w s

/-- A write of CNL_CTL.CLR (R172). -/
def execCnlClear (src : Src) (n : Fin 192) (w : Word) (s : State) : Answer := writeTo src .CNL_CTL n.val 0 w s

/-- A write that changes CNL_CTL.FREEZE (R172). -/
def execCnlFreeze (src : Src) (n : Fin 192) (w : Word) (s : State) : Answer := writeTo src .CNL_CTL n.val 0 w s

/-- The canceller check of a physical slice fails (R187). -/
def execCnlCheck (p : Fin 200) (s : State) : Answer := lift (physCheck Ev.CNL_CHECK p.val) s

/-- A write of CNL_PRB_CTL.START (R186). -/
def execProbeStart (src : Src) (w : Word) (s : State) : Answer := writeTo src .CNL_PRB_CTL 0 0 w s

/-- A write of CNL_PRB_CTL.ABORT (R186). -/
def execProbeAbort (src : Src) (w : Word) (s : State) : Answer := writeTo src .CNL_PRB_CTL 0 0 w s

/-- The automatic rotation comes due (R186). -/
def execProbeAutoRun (s : State) : Answer := lift (fun _ d => probeAuto d) s

/-- A probe run ends (R182 to R184). -/
def execProbeRunEnd (mean orx : Int) (depth aIn aOut : Rat) (s : State) : Answer :=
  lift (fun e d => probeEnd e mean orx depth aIn aOut d) s

end Sys2Proof.Machine
end

