-- ==== Sys2Proof/Machine/ExecCarve.lean ====
section
/-! DEFINITION. Meanings: Carve (chapter 10). -/
namespace Sys2Proof.Machine
open Fld

/-- A template takes an edge (R244). -/
def execEpochInstantiate (m : Fin 64) (ofs : Nat) (s : State) : Answer := lift (fun e d => instantiate e m.val (d.atOfs ofs)) s

/-- Actions come due (R242). -/
def execCarveActionDue (ofs : Nat) (s : State) : Answer := lift (fun _ d => runAllDue (d.atOfs ofs)) s

/-- A presence report reaches an epoch (R245). -/
def execEpochConfirm (n : Fin 256) (sl : Fin 192) (t : CarveAt) (s : State) : Answer :=
  lift (fun e d => epochReport e n.val sl.val t.outside (d.atOfs t.ofs)) s

/-- A window opens (R246). -/
def execEpochWindowOpen (n : Fin 256) (ofs : Nat) (s : State) : Answer := lift (fun e d => windowOpens e n.val (d.atOfs ofs)) s

/-- A window closes (R246). -/
def execEpochWindowClose (n : Fin 256) (t : CarveAt) (s : State) : Answer :=
  lift (fun e d => windowCloses e n.val t.outside (d.atOfs t.ofs)) s

/-- A write of CRV_CTL.FLUSH (R251). -/
def execCarveFlush (src : Src) (w : Word) (s : State) : Answer := writeTo src .CRV_CTL 0 0 w s

/-- A write of CRV_CTL.EN = 0 (R251). -/
def execCarveDisable (src : Src) (w : Word) (s : State) : Answer := writeTo src .CRV_CTL 0 0 w s

/-- A write of CRV_TPL_CFG.EN = 1 (R247). -/
def execTemplateEnable (src : Src) (m : Fin 64) (w : Word) (s : State) : Answer := writeTo src .CRV_TPL_CFG m.val 0 w s

/-- A write that clears CRV_TPL_CFG.EN (R247). -/
def execTemplateDisable (src : Src) (m : Fin 64) (w : Word) (s : State) : Answer := writeTo src .CRV_TPL_CFG m.val 0 w s

/-- A write of CRV_DIR_GO (R252). -/
def execDirectActionGo (src : Src) (w : Word) (ofs : Nat) (s : State) : Answer :=
  lift (fun e d => hostWrite e src.plain (RegName.CRV_DIR_GO.addr 0 0) w (d.atOfs ofs)) s

/-- The parity check of the queue and template memory (R254). -/
def execCrvCheck (fails : Bool) (s : State) : Answer := lift (fun e d => carveCheck e fails d) s

end Sys2Proof.Machine
end

