-- ==== Sys2Proof/Machine/ExecChains.lean ====
section
/-! DEFINITION. Meanings: observation receiver, calibration, user calibration (chapter 4). -/
namespace Sys2Proof.Machine
open Fld

/-- An ORX tap switch settles (R96). -/
def execOrxSwitchDone (s : State) : Answer := lift (fun _ d => { d with orx := { d.orx with switching := false } }) s

/-- A calibration step ends (R101, R103, R105). -/
def execCalStepDone (step : CalOp) (ok : Nat) (s : State) : Answer := lift (fun e d => calStepDone e (calStepOf step) ok d) s

/-- A write of CAL_CTL (R104). -/
def execCalRequest (src : Src) (w : Word) (s : State) : Answer := writeTo src .CAL_CTL 0 0 w s

/-- An on-request calibration that waited starts (R105). -/
def execOnreqCalStart (g : Fin 2) (s : State) : Answer := lift (fun e d => onReqPending e g.val d) s

/-- A background calibration step starts where it may (R106). -/
def bgBegin (k : BgKind) (c : Nat) (d : Dev) : Dev := if bgMay d k c then bgStart k c d else d

/-- A background calibration step starts (R106). -/
def execBgCalStepStart (k : BgOp) (c : Fin 8) (s : State) : Answer := lift (fun _ d => bgBegin (bgKindOf k) c.val d) s

/-- A background calibration step completes (R107). -/
def execBgCalStepDone (s : State) : Answer := lift (fun _ d => bgDone d) s

/-- A segment of the user calibration area is written (R113). -/
def execUsercalSegmentDone (ok : Bool) (s : State) : Answer := lift (fun e d => ucalSegment e ok d) s

end Sys2Proof.Machine
end

