-- ==== Sys2Proof/Machine/ExecFaults.lean ====
section
/-! DEFINITION. Meanings: fault collector (chapter 12). -/
namespace Sys2Proof.Machine
open Fld

/-- A source raises a fault or event (R281): an event-only identity is an occurrence, any other becomes live. -/
def sourceRaise (code inst aux : Nat) (e : Env) (d : Dev) : Dev :=
  if !Ev.isIdentity code then d else if Ev.eventOnly code then report e d code inst aux else raiseLive e d code inst aux

/-- A source raises a fault or event (R281). -/
def execFaultRaise (code : Fin 65536) (inst : Fin 256) (aux : Fin 65536) (s : State) : Answer :=
  lift (sourceRaise code.val inst.val aux.val) s

/-- A source's live status falls (R282). -/
def execFaultClear (code : Fin 65536) (inst : Fin 256) (s : State) : Answer := lift (fun _ d => clearLive d code.val inst.val) s

/-- The entries of a list on which a runout or an extension runs, with their numbers. -/
def runningIn_ (d : Dev) (l : List Nat) : List (Nat × Latch) :=
  l.filterMap fun k => (entry? d k).bind fun x => if x.run = .none then none else some (k, x)

/-- The fault of an entry is live, and not one that was raised inside a shadow that is still open: such a fault is never
escalated (R292). -/
def supervised (d : Dev) (x : Latch) : Bool :=
  x.live && !(d.flt.shadows.any fun s => decide ((x.code, x.inst) ∈ s.inside))

/-- What the end of a runout or an extension makes of an entry (R287): the fault is gone, its extension starts, or it
escalates. -/
def escalates (d : Dev) (x : Latch) : Bool := supervised d x && (x.run = .extension || !x.claimed)

/-- Entries in the order in which their escalations are taken (R289). -/
def byClass (l : List (Nat × Latch)) : List (Nat × Latch) :=
  (l.filter fun p => p.2.cls = .device) ++ (l.filter fun p => p.2.cls = .group) ++
    l.filter fun p => p.2.cls ≠ .device && p.2.cls ≠ .group

/-- Runouts and claim extensions, in any mixture, end in one core cycle (R287, R289): a DEVICE escalation supersedes the others, and
a SLICE escalation in a group that escalates is marked CONSEQ. -/
def runoutEnd (l : List Nat) (e : Env) (d : Dev) : Dev :=
  let due := byClass (runningIn_ d l)
  let esc := due.filter fun p => escalates d p.2
  let device := esc.any fun p => p.2.cls = .device
  let groups := (esc.filter fun p => p.2.cls = .group).filterMap fun p => groupOfFault d p.2.code p.2.inst
  let covered (x : Latch) : Bool := x.cls = .slice && (match sliceOfFault d x.code x.inst with
    | some s => groups.any fun g => sliceOfGroup d g s
    | none => false)
  let one (p : Nat × Latch) (z : Dev) : Dev :=
    let (k, x) := p
    if escalates d x then
      if device ∧ x.cls ≠ .device then z.setLatch k { x with run := .none, claimed := false }
      else if covered x then z.setLatch k { x with run := .none, claimed := false, conseq := true }
      else escalate e z x.code x.inst x.cls k x.inj
    else if supervised d x then z.setLatch k { x with run := .extension }
    else z.setLatch k { x with run := .none }
  forL due one d

/-- Runouts end (R287), with any claim extensions that end in the same core cycle. -/
def execRunoutExpiry (entries : List (Fin 128)) (s : State) : Answer := lift (runoutEnd (entries.map (·.val))) s

/-- Claim extensions end (R287), with any runouts that end in the same core cycle. -/
def execClaimExtensionExpiry (entries : List (Fin 128)) (s : State) : Answer := lift (runoutEnd (entries.map (·.val))) s

/-- A shadow whose reaction has completed closes (R291, R293). -/
def shadowEnd (k : Nat) (e : Env) (d : Dev) : Dev :=
  match d.flt.shadows[k]? with
  | some sh => if sh.done then closeShadow e k d else d
  | none => d

/-- A reaction shadow closes (R293). -/
def execShadowClose (k : Nat) (s : State) : Answer := lift (shadowEnd k) s

/-- A write of FLT_CLAIM (R286). -/
def execFaultClaim (src : Src) (w : Word) (s : State) : Answer := writeTo src .FLT_CLAIM 0 0 w s

/-- A state in which an acknowledgement finds occurrences of its own core cycle (R283). -/
def State.withSame (s : State) (same : List Nat) : State := { s with dev := s.dev.modFlt fun f => { f with same := same } }

/-- An acknowledgement with the occurrences of its core cycle (R283). -/
def ackWith (same : List (Fin 128)) (run : State → Answer) (s : State) : Answer :=
  match run (s.withSame (same.map (·.val))) with
  | .next t => .next (t.withSame [])
  | x => x

/-- A write of FLT_ACK.ACK (R283). -/
def execFaultAck (src : Src) (x : AckWord) (s : State) : Answer := ackWith x.same (writeTo src .FLT_ACK 0 0 x.w) s

/-- A write of FLT_ACK.ALL (R283). -/
def execFaultAckAll (src : Src) (x : AckWord) (s : State) : Answer := ackWith x.same (writeTo src .FLT_ACK 0 0 x.w) s

/-- An authorised write of FLT_ACKA (R283). -/
def execFaultAckAuth (src : Src) (role : Role) (x : AckWord) (s : State) : Answer :=
  ackWith x.same (writeAuth src role .FLT_ACKA x.w) s

/-- A write of FLT_HB (R295). -/
def execHeartbeatWrite (src : Src) (w : Word) (s : State) : Answer := writeTo src .FLT_HB 0 0 w s

/-- What holds ALIVE low (R294): no first heartbeat yet, a live DEVICE or SAFETY fault, SLEEP, factory test mode. -/
def aliveHeld (d : Dev) : Bool := !d.flt.hbArmed || liveHolds d || d.pwr.sleep = .asleep || bitOf d.boot.straps 4

/-- A toggle instant of ALIVE (R294, R295): without a beat since the last one the pin is held low. -/
def aliveInstant (d : Dev) : Dev :=
  let go := !aliveHeld d && d.flt.beat
  d.modFlt fun f => { f with alive := go && !f.alive, aliveRun := go, beat := false }

/-- A toggle instant of ALIVE (R294). -/
def execAliveToggleInstant (s : State) : Answer := lift (fun _ d => aliveInstant d) s

/-- No heartbeat for 2 ms once armed (R295). -/
def beatLost (e : Env) (d : Dev) : Dev :=
  if d.flt.hbArmed then raiseLive e (d.modFlt fun f => { f with hbOk := false }) Ev.FLT_HB_LOST else d

/-- No heartbeat for 2 ms (R295). -/
def execHeartbeatTimeout (s : State) : Answer := lift beatLost s

/-- A write of TST_FINJ with MODE report (R297). -/
def execFaultInjectEvent (src : Src) (w : Word) (s : State) : Answer := writeTo src .TST_FINJ 0 0 w s

/-- A write of TST_FINJ with MODE raise (R297). -/
def execFaultInjectRaise (src : Src) (w : Word) (s : State) : Answer := writeTo src .TST_FINJ 0 0 w s

/-- A write of TST_FINJ with MODE clear (R297). -/
def execFaultInjectClear (src : Src) (w : Word) (s : State) : Answer := writeTo src .TST_FINJ 0 0 w s

end Sys2Proof.Machine
end

