-- ==== Sys2Proof/Machine/ExecLoops.lean ====
section
/-! DEFINITION. Meanings: loop engine and Stencil (chapters 8 and 9). -/
namespace Sys2Proof.Machine
open Fld

/-- The compute deadline (R214). -/
def execLoopComputeDeadline (unfinished : Bool) (s : State) : Answer := lift (fun e d => loopDeadline e unfinished d) s

/-- The hold count reaches HOLD_TO (R212). -/
def execLoopHoldTimeout (i : Fin 256) (s : State) : Answer := lift (fun e d => holdTimeout e i.val d) s

/-- A write of LOOP_CTL.MODE (R208). -/
def execLoopModeWrite (src : Src) (i : Fin 256) (w : Word) (s : State) : Answer := writeTo src .LOOP_CTL i.val 0 w s

/-- A write of LOOP_GCTL.REARM_OVR (R215). -/
def execLoopRearmOvr (src : Src) (w : Word) (s : State) : Answer := writeTo src .LOOP_GCTL 0 0 w s

/-- A write of a LOOP_LUT word (R207). -/
def execLoopLutWrite (src : Src) (t : Fin 32) (k : Fin 64) (w : Word) (s : State) : Answer := writeTo src .LOOP_LUT t.val k.val w s

/-- A write of LOOP_SP (R221). -/
def execLoopSpWrite (src : Src) (i : Fin 256) (w : Word) (s : State) : Answer := writeTo src .LOOP_SP i.val 0 w s

/-- A write of STN_CFG.EN = 1 (R225). -/
def execStencilAttach (src : Src) (n : Fin 32) (w : Word) (s : State) : Answer := writeTo src .STN_CFG n.val 0 w s

/-- A write of STN_CFG.EN = 0 (R231). -/
def execStencilDetach (src : Src) (n : Fin 32) (w : Word) (s : State) : Answer := writeTo src .STN_CFG n.val 0 w s

/-- A write of STN_CTL.RESTART (R231). -/
def execStencilRestart (src : Src) (n : Fin 32) (w : Word) (s : State) : Answer := writeTo src .STN_CTL n.val 0 w s

/-- An even frame boundary anchors a Stencil (R226). -/
def anchorHere (n : Nat) (d : Dev) : Dev :=
  if d.clk.cyc = 0 ∧ d.clk.ofs = 0 ∧ d.clk.frame % 2 = 0 then stencilAnchor n d.clk.frame d else d

/-- The anchor frame boundary (R226). -/
def execStencilAnchor (n : Fin 32) (s : State) : Answer := lift (fun _ d => anchorHere n.val d) s

/-- The 64th period in RELEARN (R231). -/
def relearnEnd (e : Env) (n : Nat) (d : Dev) : Dev :=
  if (d.stencil n).st = .relearn ∧ 64 ≤ (d.stencil n).rlCnt then relearnTimeout e n d else d

/-- The 64th period in RELEARN ends without arming (R231). -/
def execStencilRelearnTimeout (n : Fin 32) (s : State) : Answer := lift (fun e d => relearnEnd e n.val d) s

end Sys2Proof.Machine
end

