-- ==== Sys2Proof/Machine/ExecPatrol.lean ====
section
/-! DEFINITION. Meanings: Patrol (chapter 11). -/
namespace Sys2Proof.Machine
open Fld

/-- A write of a Patrol configuration register (R257). -/
def execPatrolCfgWrite (src : Src) (r : PtlCfg) (w : Word) (s : State) : Answer := writeTo src (ptlRegOf r) 0 0 w s

/-- OSC_REL frames without onset (R264). -/
def execOscTrimRelease (n : Fin 192) (s : State) : Answer := lift (fun _ d => oscRelease n.val d) s

/-- The donor has been absent for DLOSS_T (R272). -/
def execDlossTimeout (s : State) : Answer := lift dlossTimeout s

/-- A sweep segment starts (R269). -/
def execSweepSegmentStart (s : State) : Answer := lift sweepStart s

/-- A sweep segment ends (R269). -/
def execSweepSegmentEnd (bins : List Int) (total : Int) (ofs : Nat) (s : State) : Answer :=
  lift (fun e d => sweepEnd e bins total (d.atOfs ofs)) s

/-- NET_STOP_N low for 1 µs (R273). -/
def stopPinLow (e : Env) (d : Dev) : Dev := stopFor e .pin (d.modPtl fun p => { p with pinLow := true })

/-- NET_STOP_N high for 100 ms (R273): with NS_AUTOREL the cause is met. -/
def stopPinHigh (d : Dev) : Dev :=
  let d1 := d.modPtl fun p => { p with pinLow := false }
  if d.flag PTL_CFG.NS_AUTOREL then stopMet (fun c => c = .pin) d1 else d1

/-- NET_STOP_N goes low (R273). -/
def execNetStopPinLow (s : State) : Answer := lift stopPinLow s

/-- NET_STOP_N has been high for 100 ms (R273). -/
def execNetStopPinRelease (s : State) : Answer := lift (fun _ d => stopPinHigh d) s

/-- A write of PTL_CTL.STOP (R273). -/
def execPatrolLocalStop (src : Src) (w : Word) (s : State) : Answer := writeTo src .PTL_CTL 0 0 w s

/-- A write of PTL_CTL.SREL (R262). -/
def execPatrolSliceRelease (src : Src) (w : Word) (s : State) : Answer := writeTo src .PTL_CTL 0 0 w s

/-- An authorised write of PTL_REL.REL_STOP (R275). -/
def execPatrolRelStop (src : Src) (role : Role) (w : Word) (s : State) : Answer := writeAuth src role .PTL_REL w s

/-- An authorised write of PTL_REL.REL_DL (R273). -/
def execPatrolRelDl (src : Src) (role : Role) (w : Word) (s : State) : Answer := writeAuth src role .PTL_REL w s

/-- An authorised write of PTL_REL.REL_UL (R273). -/
def execPatrolRelUl (src : Src) (role : Role) (w : Word) (s : State) : Answer := writeAuth src role .PTL_REL w s

/-- Every step of a STOP is done (R274). -/
def execStopStepsDone (s : State) : Answer := lift (fun _ d => stopReached d) s

/-- The release slews end (R275). -/
def execStopReleaseDone (s : State) : Answer := lift (fun _ d => stopReleased d) s

end Sys2Proof.Machine
end

