-- ==== Sys2Proof/Machine/ExecPorts.lean ====
section
/-! DEFINITION. Meanings: JTAG, plain reads and writes, the service SPI. -/
namespace Sys2Proof.Machine
open Fld

/-- EXTEST (R13). -/
def execExtest (cells : ScanIn) (s : State) : Answer := liftLodge (fun _ d => jtagExtest cells d) s

/-- SAMPLE/PRELOAD (R13). -/
def execSamplePreload (pins cells : List Bool) (s : State) : Answer := liftLodge (fun _ d => jtagSample pins cells d) s

/-- IDCODE (R13). -/
def execIdcode (s : State) : Answer := liftLodge (fun _ d => jtagIdcode d) s

/-- BYPASS (R13): a code that names an available instruction is not one of its codes. -/
def execBypass (code : Fin 16) (tdi : TapIn) (s : State) : Answer :=
  liftLodge (fun _ d => if bypassCode d tdi.testMode code.val then jtagBypass tdi.tdi d else d) s

/-- REG_ACCESS, Update-DR with WR = 1 (R14). -/
def execRegAccessWrite (a w : Word) (s : State) : Answer := liftLodge (fun _ d => jtagAccess true a w d) s

/-- REG_ACCESS, Update-DR with WR = 0 (R14). -/
def execRegAccessRead (a : Word) (s : State) : Answer := liftLodge (fun _ d => jtagAccess false a 0#32 d) s

/-- REG_ACCESS, Capture-DR (R14). -/
def execRegAccessCapture (s : State) : Answer := lift (fun _ d => jtagCapture d) s

/-- A debug access completes (R14). -/
def execRegAccessDone (s : State) : Answer := lift jtagDone s

/-- A write to any register (R500). -/
def execRegisterWrite (src : Src) (a w : Word) (s : State) : Answer := lift (fun e d => hostWrite e src.plain a.toNat w d) s

/-- A read; of an unoccupied address it returns 0 and raises ADDR_UNMAPPED (R18). -/
def execUnmappedRead (_src : Src) (a : Word) (s : State) : Answer := lift (readAt a.toNat) s

/-- A write to GLB_LOCK (R489). -/
def execGlbLockSet (src : Src) (w : Word) (s : State) : Answer := writeTo src .GLB_LOCK 0 0 w s

/-- A read of LDG_OPT_LO (R488). -/
def execLdgOptLoRead (_src : Src) (s : State) : Answer := lift (readAt (RegName.LDG_OPT_LO.addr 0 0)) s

/-- A read of TOW_TIME_LO (R488). -/
def execTowTimeLoRead (_src : Src) (ofs : Nat) (s : State) : Answer :=
  lift (fun e d => readAt (RegName.TOW_TIME_LO.addr 0 0) e (d.atOfs ofs)) s

/-- A read of SYN_RFFE_RD (R84). -/
def execSynRffeRdRead (_src : Src) (m : Fin 4) (s : State) : Answer := lift (readAt (RegName.SYN_RFFE_RD.addr m.val 0)) s

/-- A service SPI transaction of a controller that shifts `words` after the command word: RD judges which kind it is, and a read
ignores the words shifted in, of which the first is the wait word (R482). -/
def execSpiWriteTransaction (cmd : Word) (words : List Word) (cut : Bool) (s : State) : Answer :=
  lift (fun e d => if spiRd cmd then spiRead e cmd (if cut then some (words.length - 1) else none) d else spiWrite e cmd words cut d) s

/-- A service SPI transaction that shifts out data words, `cut` of them complete where SVC_CS_N rises inside a word: RD judges
which kind it is, and a write of which no data word is complete applies nothing (R482). -/
def execSpiReadTransaction (cmd : Word) (cut : Option Nat) (s : State) : Answer :=
  lift (fun e d => if spiRd cmd then spiRead e cmd cut d else spiWrite e cmd [] cut.isSome d) s

end Sys2Proof.Machine
end

