-- ==== Sys2Proof/Machine/ExecPower.lean ====
section
/-! DEFINITION. Meanings: housekeeping, thermal management, power domains, dozing, sleep, the Lodge (chapters 15 and 16). -/
namespace Sys2Proof.Machine
open Fld

/-- A housekeeping slot ends (R338). -/
def execHkSlotEnd (code : Fin 65536) (value : Int) (s : State) : Answer := lift (fun e d => slotEnd e code.val value d) s

/-- A lap ends (R347). -/
def execHkLapEnd (xo : Int) (s : State) : Answer := lift (fun e d => lapEnd e xo d) s

/-- A write of THM_CFG (R348). -/
def execThmCfgWrite (src : Src) (w : Word) (s : State) : Answer := writeTo src .THM_CFG 0 0 w s

/-- A sensor gate ends (R351). -/
def execSensorGateEnd (n : Fin 16) (count : Nat) (tf : Int) (inRange : Bool) (s : State) : Answer :=
  lift (fun e d => gateEnd e n.val count tf inRange d) s

/-- Slices follow the domains of their tiles (R140): QUEUED ends when the power-down has completed, also where the power-up then waits
for its turn (R356), and POWERING when the tile is on. -/
def tilesFollow (d : Dev) : Dev :=
  forN 50 (fun t d => match (d.dom t).phase with
    | .powering => tileRequeued t d
    | .wait => tileRequeued t d
    | .on => tileOn t d
    | _ => d) d

/-- A domain completes POWERING (R355). -/
def execDomainPowerUpDone (n : Fin 72) (s : State) : Answer := lift (fun _ d => tilesFollow (domUp n.val d)) s

/-- A domain completes DRAINING (R355). -/
def execDomainDrainDone (n : Fin 72) (s : State) : Answer := lift (fun _ d => tilesFollow (domDrained n.val d)) s

/-- A domain completes OFFING (R355). -/
def execDomainOffingDone (n : Fin 72) (s : State) : Answer := lift (fun _ d => tilesFollow (domOff n.val d)) s

/-- A domain fails to power up (R356). -/
def execDomainPowerUpTimeout (n : Fin 72) (s : State) : Answer := lift (fun e d => tilesFollow (domTimeout e n.val d)) s

/-- A silent slice dozes (R357). -/
def execDozeEntry (n : Fin 192) (s : State) : Answer := lift (fun _ d => dozeEnter n.val d) s

/-- A write of PWR_CTL.SLEEP (R360). -/
def execSleepRequest (src : Src) (w : Word) (s : State) : Answer := writeTo src .PWR_CTL 0 0 w s

/-- MAIN_EN falls (R360): what the core held is gone. Where the board leaves MAIN_EN unconnected the supplies stay up and the
core is held in reset (R454); otherwise PWR_GOOD falls with them. -/
def fallAsleep (e : Env) (d : Dev) : Dev :=
  let d1 := sleepEnter d
  if d1.pwr.sleep = .asleep ∧ d.pwr.sleep = .entering then
    coreOff (!e.mainEnWired) (d1.modPwr fun p => { p with pwrGood := p.pwrGood && !e.mainEnWired })
  else d

/-- The device enters SLEEP (R360). -/
def execSleepEntered (s : State) : Answer := liftLodge fallAsleep s

/-- A rising WAKE edge (R361). -/
def wakePin (d : Dev) : Dev := if d.flag LDG_WAKE_CFG.PIN_EN then wakeCause 1 0 d else d

/-- A rising WAKE edge (R361). -/
def execWakePinEdge (s : State) : Answer := liftLodge (fun _ d => wakePin d) s

/-- A comparator window closes (R363). -/
def execRfEnergyWindow (pin : Fin 8) (samples : List Int) (s : State) : Answer := liftLodge (fun _ d => rfWindow pin.val samples d) s

/-- The wake timer runs in SLEEP with the crystal only (R361, R362). -/
def wakeTimer (d : Dev) : Dev :=
  if d.get LDG_WAKE_TMR.SEC ≠ 0 ∧ d.pwr.sleep = .asleep ∧ d.pwr.xtalOk then wakeCause 8 0 d else d

/-- LDG_WAKE_TMR seconds have passed in SLEEP (R361). -/
def execWakeTimerExpiry (s : State) : Answer := liftLodge (fun _ d => wakeTimer d) s

/-- Activity on TOW_UP (R361). -/
def wakeTow (d : Dev) : Dev := if d.flag LDG_WAKE_CFG.TOW_EN then wakeCause 4 0 d else d

/-- TOW_UP carries a live stream (R361). -/
def execTowActivityWake (s : State) : Answer := liftLodge (fun _ d => wakeTow d) s

/-- The 32.768 kHz crystal runs or has stopped (R362); LDG_XTAL is raised where the core runs, else at the next start. -/
def crystal (ok : Bool) (e : Env) (d : Dev) : Dev :=
  let d1 := d.modPwr fun p => { p with xtalOk := ok }
  if coreRuns d1 then setLive e Ev.LDG_XTAL noInst (!ok) d1 else d1

/-- The crystal stops (R362). -/
def execXtalStop (s : State) : Answer := liftLodge (crystal false) s

/-- The crystal runs again (R362). -/
def execXtalResume (s : State) : Answer := liftLodge (crystal true) s

/-- The core's supplies are up or a reset waits on them: MAIN_EN is high, or the core is held in reset (R454). -/
def supplied (d : Dev) : Bool := d.pwr.mainEn || d.pwr.inReset

/-- The power-fail comparator trips (R310, R364), also while the device waits after an earlier trip. Where MAIN_EN has taken
the supplies away in SLEEP there is nothing left to trip on. -/
def powerTrip (x : PowerFailIn) (e : Env) (d : Dev) : Dev := if supplied d then coreOff true (powerFail e (fillSnaps e) x d) else d

/-- The power-fail comparator trips (R364). -/
def execPowerFailTrip (x : PowerFailIn) (s : State) : Answer := liftLodge (powerTrip x) s

/-- VDD_LDG comes up (R454). -/
def execLodgePowerUp (s : State) : Answer := liftLodge (fun _ d => lodgePowerUp d) s

/-- A wake cause held during ENTERING acts (R360). -/
def execHeldWakeRelease (s : State) : Answer := liftLodge (fun _ d => heldWakeRelease d) s

end Sys2Proof.Machine
end

