-- ==== Sys2Proof/Machine/ExecRadio.lean ====
section
/-! DEFINITION. Meanings: radio groups, synthesisers, RFFE masters, timed pins (chapter 3). -/
namespace Sys2Proof.Machine
open Fld

/-- A write of SYN_GRP_CTL.TARGET (R61). -/
def execGroupTargetRequest (src : Src) (g : Fin 2) (w : Word) (s : State) : Answer := writeTo src .SYN_GRP_CTL g.val 0 w s

/-- A write of SYN_GRP_CTL.REARM (R76). -/
def execGroupRearm (src : Src) (g : Fin 2) (w : Word) (s : State) : Answer := writeTo src .SYN_GRP_CTL g.val 0 w s

/-- A step or phase of a group completes (R59). -/
def execGroupStepDone (g : Fin 2) (ofs : Nat) (s : State) : Answer := lift (fun _ d => stepDone g.val (d.atOfs ofs)) s

/-- The transmit lock wait ends (R73). -/
def execTxWaitExpiry (g : Fin 2) (s : State) : Answer := lift (fun e d => txWaitEnd e g.val d) s

/-- The RX lock wait ends (R74). -/
def execRxLockWaitExpiry (g : Fin 2) (s : State) : Answer := lift (fun e d => rxWaitEnd e g.val d) s

/-- A write of SYN_LO_FREQ (R70). -/
def execLoFreqWrite (src : Src) (n : Fin 4) (w : Word) (s : State) : Answer := writeTo src .SYN_LO_FREQ n.val 0 w s

/-- A retune has not locked in its nominal time (R70). -/
def execRetuneTimeout (n : Fin 4) (s : State) : Answer := lift (fun e d => retuneTimeout e n.val d) s

/-- A synthesiser declares lock (R69). -/
def execSynthLock (n : Fin 4) (band : Nat) (ofs : Nat) (s : State) : Answer :=
  lift (fun e d => synthLock e n.val band (d.atOfs ofs)) s

/-- A synthesiser loses lock (R75). -/
def execSynthUnlock (n : Fin 4) (s : State) : Answer := lift (fun e d => synthUnlock e n.val d) s

/-- SYN_RFFE_CMD with TYPE Register Write (R83). -/
def execRffeRegisterWrite (src : Src) (m : Fin 4) (w : Word) (s : State) : Answer := writeTo src .SYN_RFFE_CMD m.val 0 w s

/-- SYN_RFFE_CMD with TYPE Extended Register Write (R83). -/
def execRffeExtRegisterWrite (src : Src) (m : Fin 4) (w : Word) (s : State) : Answer := writeTo src .SYN_RFFE_CMD m.val 0 w s

/-- SYN_RFFE_CMD with TYPE Extended Register Write Long (R83). -/
def execRffeExtRegisterWriteLong (src : Src) (m : Fin 4) (w : Word) (s : State) : Answer := writeTo src .SYN_RFFE_CMD m.val 0 w s

/-- SYN_RFFE_CMD with TYPE Register Read (R83). -/
def execRffeRegisterRead (src : Src) (m : Fin 4) (w : Word) (s : State) : Answer := writeTo src .SYN_RFFE_CMD m.val 0 w s

/-- A sequence starts on a bus (R82). -/
def rffeBegin (m : Nat) (e : Env) (d : Dev) : Dev := let p := rffeStart e m d; rffeExecuted p.2 p.1

/-- A sequence starts on a bus (R82): the Carve action it carries is executed. -/
def execRffeSequenceStart (m : Fin 4) (ofs : Nat) (s : State) : Answer := lift (fun e d => rffeBegin m.val e (d.atOfs ofs)) s

/-- A sequence ends (R84). -/
def execRffeSequenceDone (m : Fin 4) (byte : Nat) (parityOk : Bool) (s : State) : Answer :=
  lift (fun e d => rffeDone e m.val byte parityOk d) s

/-- A write of SYN_TGPIO_CFG (R86). -/
def execTgpioCfgWrite (src : Src) (n : Fin 32) (w : Word) (s : State) : Answer := writeTo src .SYN_TGPIO_CFG n.val 0 w s

/-- A delayed edge reaches a FOLLOW pin (R86). -/
def execTgpioFollowEdge (n : Fin 32) (s : State) : Answer := lift (fun _ d => pinEdge n.val d) s

end Sys2Proof.Machine
end

