-- ==== Sys2Proof/Machine/ExecRecorder.lean ====
section
/-! DEFINITION. Meanings: recorder (chapter 13). -/
namespace Sys2Proof.Machine
open Fld

/-- FLUSH_INT has passed (R308). -/
def execScheduledFlush (s : State) : Answer := lift (fun _ d => startFlush true d) s

/-- A write of REC_CTL.FLUSH (R308). -/
def execRecorderFlushCmd (src : Src) (w : Word) (s : State) : Answer := writeTo src .REC_CTL 0 0 w s

/-- A record write ends (R312). -/
def execRecordWriteDone (ok : Bool) (s : State) : Answer := lift (recordWriteEnd ok) s

/-- A write of REC_MARK_GO (R318). -/
def execTimeMark (src : Src) (w : Word) (s : State) : Answer := writeTo src .REC_MARK_GO 0 0 w s

/-- An authorised write of REC_CLR.CLR_V (R319). -/
def execVarnishClear (src : Src) (role : Role) (w : Word) (s : State) : Answer := writeAuth src role .REC_CLR w s

/-- An authorised write of REC_CLR.CLR_P (R319). -/
def execPaletteClear (src : Src) (role : Role) (w : Word) (s : State) : Answer := writeAuth src role .REC_CLR w s

/-- The background erase ends (R319). -/
def execClearEraseDone (s : State) : Answer := lift (fun _ d => clearErased d) s

end Sys2Proof.Machine
end

