-- ==== Sys2Proof/Machine/ExecStart.lean ====
section
/-! DEFINITION. Meanings: resets, starts, retained state (chapter 17). -/
namespace Sys2Proof.Machine
open Fld

/-- PWR_GOOD rises (R370). -/
def execPwrGoodRise (s : State) : Answer := liftLodge (fun _ d => pwrGoodRise d) s

/-- RESET_N low for 1 µs (R367). -/
def execResetAssert (s : State) : Answer := liftLodge (fun _ d => resetAssert d) s

/-- A cold start (R370). -/
def execColdStart (x : StartIn) (s : State) : Answer := liftEnv (coldStart x) s

/-- A warm restart (R368). -/
def execWarmRestart (x : StartIn) (s : State) : Answer := liftEnv (warmRestart x) s

/-- An authorised write of SUP_CTL.WARM (R367). -/
def execSupCtlWarm (src : Src) (role : Role) (w : Word) (s : State) : Answer := writeAuth src role .SUP_CTL w s

/-- A write of CAL_RET_CTL.COMMIT (R385). -/
def execRetainedCommitCmd (src : Src) (w : Word) (s : State) : Answer := writeTo src .CAL_RET_CTL 0 0 w s

/-- An authorised write of CAL_RET_CTL.DISCARD (R378). -/
def execRetainedDiscard (src : Src) (role : Role) (w : Word) (s : State) : Answer := writeAuth src role .CAL_RET_CTL w s

/-- The commit timer (R385). -/
def execRetainedCommitTimer (s : State) : Answer := lift (fun _ d => commitStart d) s

/-- A segment of a commit ends (R385). -/
def execRetainedSegmentDone (ok : Bool) (s : State) : Answer := lift (fun e d => commitSegment e ok d) s

end Sys2Proof.Machine
end

