-- ==== Sys2Proof/Machine/ExecSup.lean ====
section
/-! DEFINITION. Meanings: moves to spares, supervisor pairs, authorised commands, Fixative (chapter 18). -/
namespace Sys2Proof.Machine
open Fld

/-- A write of SLC_SPARE_CTL.GO with RET = 0 (R392). -/
def execSpareMove (src : Src) (w : Word) (s : State) : Answer := writeTo src .SLC_SPARE_CTL 0 0 w s

/-- A write of SLC_SPARE_CTL.GO with RET = 1 (R392). -/
def execSpareReturn (src : Src) (w : Word) (s : State) : Answer := writeTo src .SLC_SPARE_CTL 0 0 w s

/-- A replacement starts (R390). -/
def execSpareReplacementStart (s : State) : Answer := lift spareStart s

/-- The copy to the spare completes (R390). -/
def execSpareCopyDone (s : State) : Answer := lift (fun _ d => spareDone d) s

/-- An authorised write of SUP_HO_CTL.GO (R394). -/
def execHandoverGo (src : Src) (role : Role) (w : Word) (ofs : Nat) (s : State) : Answer :=
  lift (fun e d =>
    if writeRight role (RegName.SUP_HO_CTL.addr 0 0, w) then hostWrite e (src.auth role) (RegName.SUP_HO_CTL.addr 0 0) w (d.atOfs ofs)
    else d) s

/-- 125 µs before F (R394). -/
def execHandoverFreeze (s : State) : Answer := lift (fun _ d => handoverFreeze d) s

/-- At F (R394). -/
def execHandoverSwitch (s : State) : Answer := lift (fun _ d => handoverSwitch d) s

/-- No beat by F + 1 ms (R395). -/
def execHandoverHbTimeout (s : State) : Answer := lift handoverBack s

/-- The cores of a pair disagree (R396). -/
def execLockstepMismatch (pairB : Bool) (s : State) : Answer := lift (fun e d => lockstep e pairB d) s

/-- A failed pair has been reloaded (R396). -/
def execPairReloadDone (pairB : Bool) (s : State) : Answer := lift (fun _ d => pairReloaded pairB d) s

/-- A write of SUP_AUTH_CTL.OPEN (R401). -/
def execAuthOpen (src : Src) (w : Word) (s : State) : Answer := writeTo src .SUP_AUTH_CTL 0 0 w s

/-- A write of SUP_AUTH_CTL.ABORT (R401). -/
def execAuthAbort (src : Src) (w : Word) (s : State) : Answer := writeTo src .SUP_AUTH_CTL 0 0 w s

/-- A buffer left unsubmitted for 60 s (R401). -/
def execAuthBufferTimeout (s : State) : Answer := lift authTimeout s

/-- A WRITES command (R404). -/
def execAuthWrites (s : State) : Answer := lift authWrites s

/-- A FIXATIVE command (R408), where the core runs. -/
def fixativeCommand (e : Env) (d : Dev) : Env × Dev := if coreRuns d then authFixative e d else (e, d)

/-- A FIXATIVE command (R408). -/
def execAuthFixative (s : State) : Answer := liftEnv fixativeCommand s

/-- A USERCAL command (R112). -/
def execAuthUsercal (s : State) : Answer := lift authUsercal s

/-- A FIRMWARE command (R393). -/
def execAuthFirmware (s : State) : Answer := lift authFirmware s

/-- The lockout ends (R405). -/
def execAuthLockoutEnd (s : State) : Answer := lift (fun _ d => authUnlock d) s

/-- The boundary after a Fixative write (R408), where the core runs. -/
def fixativeBoundary (e : Env) (d : Dev) : Env × Dev := if coreRuns d then fixativeTakeEffect e d else (e, d)

/-- A new Fixative takes effect (R408). -/
def execFixativeTakeEffect (s : State) : Answer := liftEnv fixativeBoundary s

end Sys2Proof.Machine
end

