-- ==== Sys2Proof/Machine/ExecTime.lean ====
section
/-! DEFINITION. Meanings: boundaries, frame-time sources, timing detectors, operating time (chapter 2). -/
namespace Sys2Proof.Machine
open Fld

/-- A control-period boundary (R40). -/
def execControlPeriodBoundary (x : Period) (s : State) : Answer := lift (fun e d => boundary e x d) s

/-- The FRAME_OUT pulse ends (R41). -/
def execFrameOutPulseEnd (s : State) : Answer := lift (fun _ d => d.modSrc fun x => { x with out := false }) s

/-- A rising edge on FRAME_SYNC (R42). -/
def execFrameSyncEdge (ofs : Nat) (s : State) : Answer := lift (fun _ d => syncEdge false (d.atOfs ofs)) s

/-- A rising edge on PPS (R42). -/
def execPpsEdge (ofs : Nat) (s : State) : Answer := lift (fun _ d => syncEdge true (d.atOfs ofs)) s

/-- The timeout of FRAME_SYNC or PPS (R42). -/
def execSourceTimeout (pps : Bool) (s : State) : Answer := lift (fun _ d => sourceTimeout pps d) s

/-- The dwell of a higher-ranked source ends (R46). -/
def execRevertDwellExpiry (code : Fin 5) (s : State) : Answer := lift (fun _ d => revertTo code.val d) s

/-- A frame-time step takes effect (R44). -/
def execFrameTimeStep (x : Period) (s : State) : Answer := lift (fun e d => frameStep e x d) s

/-- A write to SYN_FT_CFG (k = 0) or SYN_FT_OFS of source k (R47). -/
def execSynFtCfgWrite (src : Src) (k : Fin 5) (w : Word) (s : State) : Answer :=
  writeTo src (if k.val = 0 then .SYN_FT_CFG else .SYN_FT_OFS) (k.val - 1) 0 w s

/-- A write to SYN_TD_CFG (R48). -/
def execSynTdCfgWrite (src : Src) (n : Fin 8) (w : Word) (s : State) : Answer := writeTo src .SYN_TD_CFG n.val 0 w s

/-- A timing detector finds a peak (R49). -/
def execTdDetection (n : Fin 8) (nid : Fin 3) (qual : Nat) (settled : Bool) (ofs : Nat) (s : State) : Answer :=
  lift (fun _ d => tdDetect n.val nid.val qual settled (d.atOfs ofs)) s

/-- An expected detection does not come (R49). -/
def execTdMissedDetection (n : Fin 8) (s : State) : Answer := lift (fun _ d => tdMiss n.val d) s

/-- A count of operating time (R52): 48 bits, which no device fills. In SLEEP without the crystal it stands still (R362). -/
def countTime (d : Dev) (e : Env) : Env := if d.pwr.xtalOk || d.pwr.mainEn then { e with opt := min (e.opt + 1) (2 ^ 48 - 1) } else e

/-- Two Palette tokens come with each count, 2,048 a second (R309); writes that waited for one go on. -/
def refillTokens (d : Dev) : Dev :=
  let d1 := d.modRcd fun x => { x with tokens := satN (x.tokens + 2) 256 }
  if coreRuns d1 then kick d1 else d1

/-- Operating time advances (R52). -/
def execOperatingTimeTick (s : State) : Answer := liftEnv (fun e d => (countTime d e, refillTokens d)) s

/-- The Lodge commits (R53). -/
def execLodgeCommit (s : State) : Answer := liftLodge lodgeCommit s

end Sys2Proof.Machine
end

