-- ==== Sys2Proof/Machine/ExecTow.lean ====
section
/-! DEFINITION. Meanings: Tow link (chapter 19). -/
namespace Sys2Proof.Machine
open Fld

/-- A port goes UP (R413). -/
def execTowPortUp (dn : Bool) (s : State) : Answer := lift (fun e d => portUp e dn d) s

/-- A port goes DOWN (R413). -/
def execTowPortDown (dn : Bool) (s : State) : Answer := lift (fun e d => portDown e dn d) s

/-- A port sends its training burst (R413). -/
def execTowTrainingBurst (dn : Bool) (s : State) : Answer := lift (fun _ d => trainingBurst dn d) s

/-- An UP port sends IDLE sets (R413). -/
def execTowIdleBurst (dn : Bool) (s : State) : Answer := lift (fun _ d => lineRests false dn d) s

/-- A frame ends on the line; the next one goes (R419). -/
def execTowQueueDispatch (dn : Bool) (ofs : Nat) (s : State) : Answer := lift (fun _ d => frameEnd dn (d.atOfs ofs)) s

/-- A WRITE frame (R434). -/
def execTowWrite (dn : Bool) (f : RxFrame) (ofs : Nat) (s : State) : Answer := lift (fun e d => towRequest e dn 1 f (d.atOfs ofs)) s

/-- Timed WRITEs apply (R434). -/
def execTowTimedWriteApply (s : State) : Answer := lift towTimedApply s

/-- A READ frame (R435). -/
def execTowRead (dn : Bool) (f : RxFrame) (ofs : Nat) (s : State) : Answer := lift (fun e d => towRequest e dn 2 f (d.atOfs ofs)) s

/-- A RESP frame (R418). -/
def execTowResp (dn : Bool) (f : RxFrame) (ofs : Nat) (s : State) : Answer := lift (fun e d => towPass e dn 3 f (d.atOfs ofs)) s

/-- A BULK frame (R436). -/
def execTowBulk (dn : Bool) (f : RxFrame) (ofs : Nat) (s : State) : Answer := lift (fun e d => towRequest e dn 4 f (d.atOfs ofs)) s

/-- A HEARTBEAT frame (R425). -/
def execTowHeartbeat (dn : Bool) (f : RxFrame) (ofs : Nat) (s : State) : Answer := lift (fun e d => towHeartbeat e dn f (d.atOfs ofs)) s

/-- An EVENT frame (R418, R422). -/
def execTowEvent (dn : Bool) (f : RxFrame) (ofs : Nat) (s : State) : Answer := lift (fun e d => towEventIn e dn f (d.atOfs ofs)) s

/-- An ENUM frame (R422). -/
def execTowEnum (dn : Bool) (f : RxFrame) (ofs : Nat) (s : State) : Answer := lift (fun e d => towEnum e dn f (d.atOfs ofs)) s

/-- An EPOCH frame (R425). -/
def execTowEpoch (dn : Bool) (f : RxFrame) (ofs : Nat) (s : State) : Answer := lift (fun e d => towEpoch e dn f (d.atOfs ofs)) s

/-- A PROMOTE frame (R428). -/
def execTowPromote (dn : Bool) (f : RxFrame) (ofs : Nat) (s : State) : Answer := lift (fun e d => towPromote e dn f (d.atOfs ofs)) s

/-- A BENCH frame (R427). -/
def execTowBench (dn : Bool) (f : RxFrame) (ofs : Nat) (s : State) : Answer := lift (fun e d => towBench e dn f (d.atOfs ofs)) s

/-- A NETSTOP frame (R441). -/
def execTowNetstop (dn : Bool) (f : RxFrame) (ofs : Nat) (s : State) : Answer := lift (fun e d => towNetstop e dn f (d.atOfs ofs)) s

/-- A GATHER_REQ frame (R439). -/
def execTowGatherReq (dn : Bool) (f : RxFrame) (ofs : Nat) (s : State) : Answer := lift (fun e d => towGatherReq e dn f (d.atOfs ofs)) s

/-- The gather reads at T_G (R439). -/
def execGatherSample (ofs : Nat) (s : State) : Answer := lift (fun e d => gatherSample e (d.atOfs ofs)) s

/-- The tail starts the GATHER train (R440). -/
def execGatherTrainStart (ofs : Nat) (s : State) : Answer := lift (fun e d => gatherTrain e (d.atOfs ofs)) s

/-- A GATHER frame passes (R440). -/
def execTowGather (dn : Bool) (f : RxFrame) (ofs : Nat) (s : State) : Answer := lift (fun e d => towGather e dn f (d.atOfs ofs)) s

/-- A SYNC frame (R445). -/
def execTowSync (dn : Bool) (f : RxFrame) (ofs : Nat) (s : State) : Answer := lift (fun e d => towSync e dn f (d.atOfs ofs)) s

/-- A SYNC is sent (R443). -/
def execTowSyncSend (ofs : Nat) (s : State) : Answer := lift (fun e d => syncSend e (d.atOfs ofs)) s

/-- No SYNC in time (R445). -/
def execTowSyncTimeout (s : State) : Answer := lift syncTimeout s

/-- A DELAY request is sent (R444). -/
def execTowDelaySend (ofs : Nat) (s : State) : Answer := lift (fun e d => delaySend e (d.atOfs ofs)) s

/-- A DELAY request is received (R444). -/
def execTowDelayRequest (dn : Bool) (f : RxFrame) (ofs : Nat) (s : State) : Answer :=
  lift (fun e d => towDelayReq e dn f (d.atOfs ofs)) s

/-- A DELAY response is received (R444). -/
def execTowDelayResponse (dn : Bool) (f : RxFrame) (ofs : Nat) (s : State) : Answer :=
  lift (fun e d => towDelayResp e dn f (d.atOfs ofs)) s

/-- A HEARTBEAT is due (R424): of a device that has an address, once Tow time has passed one of its instants. -/
def beatDue (e : Env) (d : Dev) : Dev := if isHead d ∨ !d.tow.addrV ∨ !beatPassed d then d else sendHeartbeat e d

/-- A HEARTBEAT is sent (R424). -/
def execTowHeartbeatSend (ofs : Nat) (s : State) : Answer := lift (fun e d => beatDue e (d.atOfs ofs)) s

/-- A HELLO is due (R421): of a device without an address, from the moment its firmware runs. -/
def helloDue (e : Env) (d : Dev) : Dev := if isHead d ∨ d.tow.addrV ∨ !firmwareUp d then d else sendHeartbeat e d

/-- A HELLO is sent (R421). -/
def execTowHelloSend (ofs : Nat) (s : State) : Answer := lift (fun e d => helloDue e (d.atOfs ofs)) s

/-- The head declares an address dead (R424). -/
def execTowDeadDeclare (a : Fin 2048) (ofs : Nat) (s : State) : Answer := lift (fun e d => deadDeclare e a.val (d.atOfs ofs)) s

/-- The head broadcasts EPOCH frames (R423). -/
def execTowEpochBroadcast (ofs : Nat) (s : State) : Answer := lift (fun e d => epochBroadcast e (d.atOfs ofs)) s

/-- A write of TOW_HEAD_CTL.ENUM (R422). -/
def execTowEnumCmd (src : Src) (w : Word) (s : State) : Answer := writeTo src .TOW_HEAD_CTL 0 0 w s

/-- A write of TOW_HEAD_PROM.GO (R428). -/
def execTowPromoteCmd (src : Src) (w : Word) (s : State) : Answer := writeTo src .TOW_HEAD_PROM 0 0 w s

/-- A write of TOW_HEAD_MBX.SEND (R418). -/
def execTowMbxSend (src : Src) (w : Word) (s : State) : Answer := writeTo src .TOW_HEAD_MBX 0 0 w s

/-- A write of TOW_HEAD_MBX.POP (R418). -/
def execTowMbxPop (src : Src) (w : Word) (s : State) : Answer := writeTo src .TOW_HEAD_MBX 0 0 w s

/-- A write of TOW_TIME_SET_GO (R442). -/
def execTowTimeSet (src : Src) (w : Word) (ofs : Nat) (s : State) : Answer :=
  lift (fun e d => hostWrite e src.plain (RegName.TOW_TIME_SET_GO.addr 0 0) w (d.atOfs ofs)) s

/-- PAIR_SENSE changes level (R431). -/
def execPairLineChange (high : Bool) (s : State) : Answer := lift (fun _ d => modTok (fun t => { t with line := high }) d) s

/-- PAIR_SENSE has been high for T_W (R431). -/
def execPairTokenAcquire (s : State) : Answer := lift tokenAcquire s

/-- The line has read low for 10 µs (R431). -/
def execPairGateOpen (s : State) : Answer := lift (fun _ d => tokenGate d) s

/-- A write of TOW_PAIR_CTL.REL (R432). -/
def execPairTokenRelease (src : Src) (w : Word) (s : State) : Answer := writeTo src .TOW_PAIR_CTL 0 0 w s

/-- The device stops driving PAIR_TOKEN (R432). -/
def execPairTokenLineRelease (s : State) : Answer := lift (fun _ d => tokenLet d) s

/-- PAIR_SENSE reads high while the device drives (R433). -/
def execTowTokenFault (s : State) : Answer := lift tokenFault s

/-- A DOWN port aligns (R413). -/
def execTowPortTraining (dn : Bool) (s : State) : Answer := lift (fun _ d => portTraining dn d) s

/-- An UP port holds its line static (R413). -/
def execTowLineStatic (dn : Bool) (s : State) : Answer := lift (fun _ d => lineRests true dn d) s

/-- 10 s after a REL (R432). -/
def execPairRelBlockExpiry (s : State) : Answer := lift (fun _ d => modTok (fun t => { t with blocked := false }) d) s

end Sys2Proof.Machine
end

