-- ==== Sys2Proof/Machine/Dispatch.lean ====
section
/-! DEFINITION. The commands' dispatch: one arm per constructor of `Instr`, one direct call of a meaning each. -/
namespace Sys2Proof.Machine

def exec (i : Instr) (s : State) : Host.Outcome State Fault Refusal :=
  match i with
  | .extest cells => Sys2Proof.Machine.execExtest cells s
  | .samplePreload pins cells => Sys2Proof.Machine.execSamplePreload pins cells s
  | .idcode => Sys2Proof.Machine.execIdcode s
  | .bypass code tdi => Sys2Proof.Machine.execBypass code tdi s
  | .regAccessWrite a w => Sys2Proof.Machine.execRegAccessWrite a w s
  | .regAccessRead a => Sys2Proof.Machine.execRegAccessRead a s
  | .regAccessCapture => Sys2Proof.Machine.execRegAccessCapture s
  | .regAccessDone => Sys2Proof.Machine.execRegAccessDone s
  | .registerWrite src a w => Sys2Proof.Machine.execRegisterWrite src a w s
  | .unmappedRead src a => Sys2Proof.Machine.execUnmappedRead src a s
  | .glbLockSet src w => Sys2Proof.Machine.execGlbLockSet src w s
  | .ldgOptLoRead src => Sys2Proof.Machine.execLdgOptLoRead src s
  | .towTimeLoRead src ofs => Sys2Proof.Machine.execTowTimeLoRead src ofs s
  | .synRffeRdRead src m => Sys2Proof.Machine.execSynRffeRdRead src m s
  | .controlPeriodBoundary x => Sys2Proof.Machine.execControlPeriodBoundary x s
  | .frameOutPulseEnd => Sys2Proof.Machine.execFrameOutPulseEnd s
  | .frameSyncEdge ofs => Sys2Proof.Machine.execFrameSyncEdge ofs s
  | .ppsEdge ofs => Sys2Proof.Machine.execPpsEdge ofs s
  | .sourceTimeout pps => Sys2Proof.Machine.execSourceTimeout pps s
  | .revertDwellExpiry code => Sys2Proof.Machine.execRevertDwellExpiry code s
  | .frameTimeStep x => Sys2Proof.Machine.execFrameTimeStep x s
  | .synFtCfgWrite src k w => Sys2Proof.Machine.execSynFtCfgWrite src k w s
  | .synTdCfgWrite src n w => Sys2Proof.Machine.execSynTdCfgWrite src n w s
  | .tdDetection n nid qual settled ofs => Sys2Proof.Machine.execTdDetection n nid qual settled ofs s
  | .tdMissedDetection n => Sys2Proof.Machine.execTdMissedDetection n s
  | .operatingTimeTick => Sys2Proof.Machine.execOperatingTimeTick s
  | .lodgeCommit => Sys2Proof.Machine.execLodgeCommit s
  | .groupTargetRequest src g w => Sys2Proof.Machine.execGroupTargetRequest src g w s
  | .groupRearm src g w => Sys2Proof.Machine.execGroupRearm src g w s
  | .groupStepDone g ofs => Sys2Proof.Machine.execGroupStepDone g ofs s
  | .txWaitExpiry g => Sys2Proof.Machine.execTxWaitExpiry g s
  | .rxLockWaitExpiry g => Sys2Proof.Machine.execRxLockWaitExpiry g s
  | .loFreqWrite src n w => Sys2Proof.Machine.execLoFreqWrite src n w s
  | .retuneTimeout n => Sys2Proof.Machine.execRetuneTimeout n s
  | .synthLock n band ofs => Sys2Proof.Machine.execSynthLock n band ofs s
  | .synthUnlock n => Sys2Proof.Machine.execSynthUnlock n s
  | .rffeRegisterWrite src m w => Sys2Proof.Machine.execRffeRegisterWrite src m w s
  | .rffeExtRegisterWrite src m w => Sys2Proof.Machine.execRffeExtRegisterWrite src m w s
  | .rffeExtRegisterWriteLong src m w => Sys2Proof.Machine.execRffeExtRegisterWriteLong src m w s
  | .rffeRegisterRead src m w => Sys2Proof.Machine.execRffeRegisterRead src m w s
  | .rffeSequenceStart m ofs => Sys2Proof.Machine.execRffeSequenceStart m ofs s
  | .rffeSequenceDone m byte parityOk => Sys2Proof.Machine.execRffeSequenceDone m byte parityOk s
  | .tgpioCfgWrite src n w => Sys2Proof.Machine.execTgpioCfgWrite src n w s
  | .tgpioFollowEdge n => Sys2Proof.Machine.execTgpioFollowEdge n s
  | .orxSwitchDone => Sys2Proof.Machine.execOrxSwitchDone s
  | .calStepDone step ok => Sys2Proof.Machine.execCalStepDone step ok s
  | .calRequest src w => Sys2Proof.Machine.execCalRequest src w s
  | .onreqCalStart g => Sys2Proof.Machine.execOnreqCalStart g s
  | .bgCalStepStart k c => Sys2Proof.Machine.execBgCalStepStart k c s
  | .bgCalStepDone => Sys2Proof.Machine.execBgCalStepDone s
  | .usercalSegmentDone ok => Sys2Proof.Machine.execUsercalSegmentDone ok s
  | .sliceEnable src n w => Sys2Proof.Machine.execSliceEnable src n w s
  | .sliceDisable src n w => Sys2Proof.Machine.execSliceDisable src n w s
  | .sliceForcedMute src n w => Sys2Proof.Machine.execSliceForcedMute src n w s
  | .sliceCfgWrite src n r w => Sys2Proof.Machine.execSliceCfgWrite src n r w s
  | .sliceGainWrite src n w => Sys2Proof.Machine.execSliceGainWrite src n w s
  | .coefWrite src n bankB k w => Sys2Proof.Machine.execCoefWrite src n bankB k w s
  | .presenceWindow n pw ofs => Sys2Proof.Machine.execPresenceWindow n pw ofs s
  | .muteHangExpiry n => Sys2Proof.Machine.execMuteHangExpiry n s
  | .sliceMuteRampDone n => Sys2Proof.Machine.execSliceMuteRampDone n s
  | .sliceDrainDone n => Sys2Proof.Machine.execSliceDrainDone n s
  | .sliceCheck p => Sys2Proof.Machine.execSliceCheck p s
  | .captureArm src w => Sys2Proof.Machine.execCaptureArm src w s
  | .captureRelease src w => Sys2Proof.Machine.execCaptureRelease src w s
  | .captureTrigger => Sys2Proof.Machine.execCaptureTrigger s
  | .captureDone samples => Sys2Proof.Machine.execCaptureDone samples s
  | .latencyWrite src ul w => Sys2Proof.Machine.execLatencyWrite src ul w s
  | .settleCountElapsed n ofs => Sys2Proof.Machine.execSettleCountElapsed n ofs s
  | .glazeSwapRequest src n w => Sys2Proof.Machine.execGlazeSwapRequest src n w s
  | .glazeSetSwapRequest src n w => Sys2Proof.Machine.execGlazeSetSwapRequest src n w s
  | .glazeFadeEnd n ofs => Sys2Proof.Machine.execGlazeFadeEnd n ofs s
  | .cnlBlockEnd n inp refs ofs => Sys2Proof.Machine.execCnlBlockEnd n inp refs ofs s
  | .cnlCfgWrite src n bulk w => Sys2Proof.Machine.execCnlCfgWrite src n bulk w s
  | .cnlCtlWrite src n w => Sys2Proof.Machine.execCnlCtlWrite src n w s
  | .cnlClear src n w => Sys2Proof.Machine.execCnlClear src n w s
  | .cnlFreeze src n w => Sys2Proof.Machine.execCnlFreeze src n w s
  | .cnlCheck p => Sys2Proof.Machine.execCnlCheck p s
  | .probeStart src w => Sys2Proof.Machine.execProbeStart src w s
  | .probeAbort src w => Sys2Proof.Machine.execProbeAbort src w s
  | .probeAutoRun => Sys2Proof.Machine.execProbeAutoRun s
  | .probeRunEnd mean orx depth aIn aOut => Sys2Proof.Machine.execProbeRunEnd mean orx depth aIn aOut s
  | .loopComputeDeadline unfinished => Sys2Proof.Machine.execLoopComputeDeadline unfinished s
  | .loopHoldTimeout l => Sys2Proof.Machine.execLoopHoldTimeout l s
  | .loopModeWrite src l w => Sys2Proof.Machine.execLoopModeWrite src l w s
  | .loopRearmOvr src w => Sys2Proof.Machine.execLoopRearmOvr src w s
  | .loopLutWrite src t k w => Sys2Proof.Machine.execLoopLutWrite src t k w s
  | .loopSpWrite src l w => Sys2Proof.Machine.execLoopSpWrite src l w s
  | .stencilAttach src n w => Sys2Proof.Machine.execStencilAttach src n w s
  | .stencilDetach src n w => Sys2Proof.Machine.execStencilDetach src n w s
  | .stencilRestart src n w => Sys2Proof.Machine.execStencilRestart src n w s
  | .stencilAnchor n => Sys2Proof.Machine.execStencilAnchor n s
  | .stencilRelearnTimeout n => Sys2Proof.Machine.execStencilRelearnTimeout n s
  | .epochInstantiate m ofs => Sys2Proof.Machine.execEpochInstantiate m ofs s
  | .carveActionDue ofs => Sys2Proof.Machine.execCarveActionDue ofs s
  | .epochConfirm n sl t => Sys2Proof.Machine.execEpochConfirm n sl t s
  | .epochWindowOpen n ofs => Sys2Proof.Machine.execEpochWindowOpen n ofs s
  | .epochWindowClose n t => Sys2Proof.Machine.execEpochWindowClose n t s
  | .carveFlush src w => Sys2Proof.Machine.execCarveFlush src w s
  | .carveDisable src w => Sys2Proof.Machine.execCarveDisable src w s
  | .templateEnable src m w => Sys2Proof.Machine.execTemplateEnable src m w s
  | .templateDisable src m w => Sys2Proof.Machine.execTemplateDisable src m w s
  | .directActionGo src w ofs => Sys2Proof.Machine.execDirectActionGo src w ofs s
  | .crvCheck fails => Sys2Proof.Machine.execCrvCheck fails s
  | .patrolCfgWrite src r w => Sys2Proof.Machine.execPatrolCfgWrite src r w s
  | .oscTrimRelease n => Sys2Proof.Machine.execOscTrimRelease n s
  | .dlossTimeout => Sys2Proof.Machine.execDlossTimeout s
  | .sweepSegmentStart => Sys2Proof.Machine.execSweepSegmentStart s
  | .sweepSegmentEnd bins total ofs => Sys2Proof.Machine.execSweepSegmentEnd bins total ofs s
  | .netStopPinLow => Sys2Proof.Machine.execNetStopPinLow s
  | .netStopPinRelease => Sys2Proof.Machine.execNetStopPinRelease s
  | .patrolLocalStop src w => Sys2Proof.Machine.execPatrolLocalStop src w s
  | .patrolSliceRelease src w => Sys2Proof.Machine.execPatrolSliceRelease src w s
  | .patrolRelStop src role w => Sys2Proof.Machine.execPatrolRelStop src role w s
  | .patrolRelDl src role w => Sys2Proof.Machine.execPatrolRelDl src role w s
  | .patrolRelUl src role w => Sys2Proof.Machine.execPatrolRelUl src role w s
  | .stopStepsDone => Sys2Proof.Machine.execStopStepsDone s
  | .stopReleaseDone => Sys2Proof.Machine.execStopReleaseDone s
  | .faultRaise code inst aux => Sys2Proof.Machine.execFaultRaise code inst aux s
  | .faultClear code inst => Sys2Proof.Machine.execFaultClear code inst s
  | .runoutExpiry entries => Sys2Proof.Machine.execRunoutExpiry entries s
  | .claimExtensionExpiry entries => Sys2Proof.Machine.execClaimExtensionExpiry entries s
  | .shadowClose k => Sys2Proof.Machine.execShadowClose k s
  | .faultClaim src w => Sys2Proof.Machine.execFaultClaim src w s
  | .faultAck src x => Sys2Proof.Machine.execFaultAck src x s
  | .faultAckAll src x => Sys2Proof.Machine.execFaultAckAll src x s
  | .faultAckAuth src role x => Sys2Proof.Machine.execFaultAckAuth src role x s
  | .heartbeatWrite src w => Sys2Proof.Machine.execHeartbeatWrite src w s
  | .aliveToggleInstant => Sys2Proof.Machine.execAliveToggleInstant s
  | .heartbeatTimeout => Sys2Proof.Machine.execHeartbeatTimeout s
  | .faultInjectEvent src w => Sys2Proof.Machine.execFaultInjectEvent src w s
  | .faultInjectRaise src w => Sys2Proof.Machine.execFaultInjectRaise src w s
  | .faultInjectClear src w => Sys2Proof.Machine.execFaultInjectClear src w s
  | .scheduledFlush => Sys2Proof.Machine.execScheduledFlush s
  | .recorderFlushCmd src w => Sys2Proof.Machine.execRecorderFlushCmd src w s
  | .recordWriteDone ok => Sys2Proof.Machine.execRecordWriteDone ok s
  | .timeMark src w => Sys2Proof.Machine.execTimeMark src w s
  | .varnishClear src role w => Sys2Proof.Machine.execVarnishClear src role w s
  | .paletteClear src role w => Sys2Proof.Machine.execPaletteClear src role w s
  | .clearEraseDone => Sys2Proof.Machine.execClearEraseDone s
  | .bdacEnable src c w => Sys2Proof.Machine.execBdacEnable src c w s
  | .bdacDisable src c w => Sys2Proof.Machine.execBdacDisable src c w s
  | .bdacPowered c => Sys2Proof.Machine.execBdacPowered c s
  | .bdacSlewStep chans => Sys2Proof.Machine.execBdacSlewStep chans s
  | .bdacParkReached c => Sys2Proof.Machine.execBdacParkReached c s
  | .bdacOffingDone c => Sys2Proof.Machine.execBdacOffingDone c s
  | .bdacCodeWrite src c w => Sys2Proof.Machine.execBdacCodeWrite src c w s
  | .bdacStrobe src hi w => Sys2Proof.Machine.execBdacStrobe src hi w s
  | .bdacStrobeAll src w => Sys2Proof.Machine.execBdacStrobeAll src w s
  | .bdacTimerArm src w ofs => Sys2Proof.Machine.execBdacTimerArm src w ofs s
  | .bdacTimerLoad ofs => Sys2Proof.Machine.execBdacTimerLoad ofs s
  | .bdacSpanChange src c w => Sys2Proof.Machine.execBdacSpanChange src c w s
  | .bdacSpanSwitchDone c => Sys2Proof.Machine.execBdacSpanSwitchDone c s
  | .bdacSineStart src c w => Sys2Proof.Machine.execBdacSineStart src c w s
  | .bdacSineStop src c w => Sys2Proof.Machine.execBdacSineStop src c w s
  | .bdacSineZeroCross c => Sys2Proof.Machine.execBdacSineZeroCross c s
  | .bdacIlim c => Sys2Proof.Machine.execBdacIlim c s
  | .hkSlotEnd code value => Sys2Proof.Machine.execHkSlotEnd code value s
  | .hkLapEnd xo => Sys2Proof.Machine.execHkLapEnd xo s
  | .thmCfgWrite src w => Sys2Proof.Machine.execThmCfgWrite src w s
  | .sensorGateEnd n count tf inRange => Sys2Proof.Machine.execSensorGateEnd n count tf inRange s
  | .domainPowerUpDone n => Sys2Proof.Machine.execDomainPowerUpDone n s
  | .domainDrainDone n => Sys2Proof.Machine.execDomainDrainDone n s
  | .domainOffingDone n => Sys2Proof.Machine.execDomainOffingDone n s
  | .domainPowerUpTimeout n => Sys2Proof.Machine.execDomainPowerUpTimeout n s
  | .dozeEntry n => Sys2Proof.Machine.execDozeEntry n s
  | .sleepRequest src w => Sys2Proof.Machine.execSleepRequest src w s
  | .sleepEntered => Sys2Proof.Machine.execSleepEntered s
  | .wakePinEdge => Sys2Proof.Machine.execWakePinEdge s
  | .rfEnergyWindow pin samples => Sys2Proof.Machine.execRfEnergyWindow pin samples s
  | .wakeTimerExpiry => Sys2Proof.Machine.execWakeTimerExpiry s
  | .towActivityWake => Sys2Proof.Machine.execTowActivityWake s
  | .xtalStop => Sys2Proof.Machine.execXtalStop s
  | .xtalResume => Sys2Proof.Machine.execXtalResume s
  | .powerFailTrip x => Sys2Proof.Machine.execPowerFailTrip x s
  | .lodgePowerUp => Sys2Proof.Machine.execLodgePowerUp s
  | .pwrGoodRise => Sys2Proof.Machine.execPwrGoodRise s
  | .resetAssert => Sys2Proof.Machine.execResetAssert s
  | .coldStart x => Sys2Proof.Machine.execColdStart x s
  | .warmRestart x => Sys2Proof.Machine.execWarmRestart x s
  | .supCtlWarm src role w => Sys2Proof.Machine.execSupCtlWarm src role w s
  | .retainedCommitCmd src w => Sys2Proof.Machine.execRetainedCommitCmd src w s
  | .retainedDiscard src role w => Sys2Proof.Machine.execRetainedDiscard src role w s
  | .retainedCommitTimer => Sys2Proof.Machine.execRetainedCommitTimer s
  | .retainedSegmentDone ok => Sys2Proof.Machine.execRetainedSegmentDone ok s
  | .spareMove src w => Sys2Proof.Machine.execSpareMove src w s
  | .spareReturn src w => Sys2Proof.Machine.execSpareReturn src w s
  | .spareReplacementStart => Sys2Proof.Machine.execSpareReplacementStart s
  | .spareCopyDone => Sys2Proof.Machine.execSpareCopyDone s
  | .handoverGo src role w ofs => Sys2Proof.Machine.execHandoverGo src role w ofs s
  | .handoverFreeze => Sys2Proof.Machine.execHandoverFreeze s
  | .handoverSwitch => Sys2Proof.Machine.execHandoverSwitch s
  | .handoverHbTimeout => Sys2Proof.Machine.execHandoverHbTimeout s
  | .lockstepMismatch pairB => Sys2Proof.Machine.execLockstepMismatch pairB s
  | .pairReloadDone pairB => Sys2Proof.Machine.execPairReloadDone pairB s
  | .authOpen src w => Sys2Proof.Machine.execAuthOpen src w s
  | .authAbort src w => Sys2Proof.Machine.execAuthAbort src w s
  | .authBufferTimeout => Sys2Proof.Machine.execAuthBufferTimeout s
  | .authWrites => Sys2Proof.Machine.execAuthWrites s
  | .authFixative => Sys2Proof.Machine.execAuthFixative s
  | .authUsercal => Sys2Proof.Machine.execAuthUsercal s
  | .authFirmware => Sys2Proof.Machine.execAuthFirmware s
  | .authLockoutEnd => Sys2Proof.Machine.execAuthLockoutEnd s
  | .fixativeTakeEffect => Sys2Proof.Machine.execFixativeTakeEffect s
  | .spiWriteTransaction cmd words cut => Sys2Proof.Machine.execSpiWriteTransaction cmd words cut s
  | .spiReadTransaction cmd cut => Sys2Proof.Machine.execSpiReadTransaction cmd cut s
  | .towPortUp dn => Sys2Proof.Machine.execTowPortUp dn s
  | .towPortDown dn => Sys2Proof.Machine.execTowPortDown dn s
  | .towTrainingBurst dn => Sys2Proof.Machine.execTowTrainingBurst dn s
  | .towIdleBurst dn => Sys2Proof.Machine.execTowIdleBurst dn s
  | .towQueueDispatch dn ofs => Sys2Proof.Machine.execTowQueueDispatch dn ofs s
  | .towWrite dn f ofs => Sys2Proof.Machine.execTowWrite dn f ofs s
  | .towTimedWriteApply => Sys2Proof.Machine.execTowTimedWriteApply s
  | .towRead dn f ofs => Sys2Proof.Machine.execTowRead dn f ofs s
  | .towResp dn f ofs => Sys2Proof.Machine.execTowResp dn f ofs s
  | .towBulk dn f ofs => Sys2Proof.Machine.execTowBulk dn f ofs s
  | .towHeartbeat dn f ofs => Sys2Proof.Machine.execTowHeartbeat dn f ofs s
  | .towEvent dn f ofs => Sys2Proof.Machine.execTowEvent dn f ofs s
  | .towEnum dn f ofs => Sys2Proof.Machine.execTowEnum dn f ofs s
  | .towEpoch dn f ofs => Sys2Proof.Machine.execTowEpoch dn f ofs s
  | .towPromote dn f ofs => Sys2Proof.Machine.execTowPromote dn f ofs s
  | .towBench dn f ofs => Sys2Proof.Machine.execTowBench dn f ofs s
  | .towNetstop dn f ofs => Sys2Proof.Machine.execTowNetstop dn f ofs s
  | .towGatherReq dn f ofs => Sys2Proof.Machine.execTowGatherReq dn f ofs s
  | .gatherSample ofs => Sys2Proof.Machine.execGatherSample ofs s
  | .gatherTrainStart ofs => Sys2Proof.Machine.execGatherTrainStart ofs s
  | .towGather dn f ofs => Sys2Proof.Machine.execTowGather dn f ofs s
  | .towSync dn f ofs => Sys2Proof.Machine.execTowSync dn f ofs s
  | .towSyncSend ofs => Sys2Proof.Machine.execTowSyncSend ofs s
  | .towSyncTimeout => Sys2Proof.Machine.execTowSyncTimeout s
  | .towDelaySend ofs => Sys2Proof.Machine.execTowDelaySend ofs s
  | .towDelayRequest dn f ofs => Sys2Proof.Machine.execTowDelayRequest dn f ofs s
  | .towDelayResponse dn f ofs => Sys2Proof.Machine.execTowDelayResponse dn f ofs s
  | .towHeartbeatSend ofs => Sys2Proof.Machine.execTowHeartbeatSend ofs s
  | .towHelloSend ofs => Sys2Proof.Machine.execTowHelloSend ofs s
  | .towDeadDeclare a ofs => Sys2Proof.Machine.execTowDeadDeclare a ofs s
  | .towEpochBroadcast ofs => Sys2Proof.Machine.execTowEpochBroadcast ofs s
  | .towEnumCmd src w => Sys2Proof.Machine.execTowEnumCmd src w s
  | .towPromoteCmd src w => Sys2Proof.Machine.execTowPromoteCmd src w s
  | .towMbxSend src w => Sys2Proof.Machine.execTowMbxSend src w s
  | .towMbxPop src w => Sys2Proof.Machine.execTowMbxPop src w s
  | .towTimeSet src w ofs => Sys2Proof.Machine.execTowTimeSet src w ofs s
  | .pairLineChange high => Sys2Proof.Machine.execPairLineChange high s
  | .pairTokenAcquire => Sys2Proof.Machine.execPairTokenAcquire s
  | .pairGateOpen => Sys2Proof.Machine.execPairGateOpen s
  | .pairTokenRelease src w => Sys2Proof.Machine.execPairTokenRelease src w s
  | .pairTokenLineRelease => Sys2Proof.Machine.execPairTokenLineRelease s
  | .towTokenFault => Sys2Proof.Machine.execTowTokenFault s
  | .towPortTraining dn => Sys2Proof.Machine.execTowPortTraining dn s
  | .towLineStatic dn => Sys2Proof.Machine.execTowLineStatic dn s
  | .bdacUpdateTick ofs => Sys2Proof.Machine.execBdacUpdateTick ofs s
  | .pairRelBlockExpiry => Sys2Proof.Machine.execPairRelBlockExpiry s
  | .heldWakeRelease => Sys2Proof.Machine.execHeldWakeRelease s

end Sys2Proof.Machine
end

