-- ==== Sys2Proof/WellFormed.lean ====
section
/-! DEFINITION. Well-formed commands: what a command's operands have to say for the command to be its row of the opcode
table (the bit of the written word that the row names, an instant inside a control period, lists of the right length). A
command that is not well-formed still has its meaning; no such command comes from the hardware. -/
namespace Sys2Proof
open Machine

/-- A field of a written word. -/
def num (f : Fld) (w : Word) : Nat := f.of w

/-- A one-bit field is written with 1. -/
def on (f : Fld) (w : Word) : Bool := f.bit w

/-- A one-bit field is written with 0. -/
def off (f : Fld) (w : Word) : Bool := !f.bit w

/-- An instant inside a control period: 122,880 core cycles, at most one more while frame time slews (R39, R43). -/
def inPeriod (ofs : Nat) : Bool := decide (ofs < 122881)

/-- A list of byte values. -/
def bytes (l : List Nat) : Bool := l.all fun b => decide (b < 256)

/-- The measurements of a period: at most one entry a unit, eight bins a slice, no power below zero. -/
def Period.wf (x : Period) : Bool :=
  decide (x.slices.map (·.s)).Nodup && decide (x.tx.map (·.c)).Nodup && decide (x.rx.map (·.c)).Nodup &&
    x.slices.all (fun z => decide (z.bins.length = 8 ∧ 0 ≤ z.pw ∧ 0 ≤ z.pk)) && x.rx.all (fun z => decide (z.clipped ≤ z.total))

/-- What a start finds: the images are bytes. -/
def StartIn.wf (x : StartIn) : Bool := bytes x.primary && bytes x.secondary

/-- A received frame: payload bytes, and a length of 0 to 256 in steps of 4 (R416). -/
def RxFrame.wf (f : RxFrame) : Bool := bytes f.pay && decide (f.len ≤ 256 ∧ f.len % 4 = 0)

/-- The well-formed commands. -/
def Instr.wf : Instr → Bool
  | .extest _ => true
  | .samplePreload _ _ => true
  | .idcode => true
  | .bypass _ _ => true
  | .regAccessWrite _ _ => true
  | .regAccessRead _ => true
  | .regAccessCapture => true
  | .regAccessDone => true
  | .registerWrite _ _ _ => true
  | .unmappedRead _ a => (Machine.findReg a.toNat).isNone || Machine.blockOf a.toNat == 0xF0
  | .glbLockSet _ w => on GLB_LOCK.LOCK w
  | .ldgOptLoRead _ => true
  | .towTimeLoRead _ ofs => inPeriod ofs
  | .synRffeRdRead _ _ => true
  | .controlPeriodBoundary x => x.wf
  | .frameOutPulseEnd => true
  | .frameSyncEdge ofs => inPeriod ofs
  | .ppsEdge ofs => inPeriod ofs
  | .sourceTimeout _ => true
  | .revertDwellExpiry code => code.val != 0
  | .frameTimeStep x => x.wf
  | .synFtCfgWrite _ _ _ => true
  | .synTdCfgWrite _ _ _ => true
  | .tdDetection _ _ _ _ ofs => inPeriod ofs
  | .tdMissedDetection _ => true
  | .operatingTimeTick => true
  | .lodgeCommit => true
  | .groupTargetRequest _ _ _ => true
  | .groupRearm _ _ w => on SYN_GRP_CTL.REARM w
  | .groupStepDone _ ofs => inPeriod ofs
  | .txWaitExpiry _ => true
  | .rxLockWaitExpiry _ => true
  | .loFreqWrite _ _ _ => true
  | .retuneTimeout _ => true
  | .synthLock _ _ ofs => inPeriod ofs
  | .synthUnlock _ => true
  | .rffeRegisterWrite _ _ w => num SYN_RFFE_CMD.TYPE w == 0
  | .rffeExtRegisterWrite _ _ w => num SYN_RFFE_CMD.TYPE w == 1
  | .rffeExtRegisterWriteLong _ _ w => num SYN_RFFE_CMD.TYPE w == 2
  | .rffeRegisterRead _ _ w => num SYN_RFFE_CMD.TYPE w == 3
  | .rffeSequenceStart _ ofs => inPeriod ofs
  | .rffeSequenceDone _ byte _ => decide (byte < 256)
  | .tgpioCfgWrite _ _ _ => true
  | .tgpioFollowEdge _ => true
  | .orxSwitchDone => true
  | .calStepDone _ _ => true
  | .calRequest _ w => on CAL_CTL.REQ_D w || on CAL_CTL.REQ_S w
  | .onreqCalStart _ => true
  | .bgCalStepStart _ _ => true
  | .bgCalStepDone => true
  | .usercalSegmentDone _ => true
  | .sliceEnable _ _ w => on SLC_CTL.EN w
  | .sliceDisable _ _ w => off SLC_CTL.EN w
  | .sliceForcedMute _ _ _ => true
  | .sliceCfgWrite _ _ _ _ => true
  | .sliceGainWrite _ _ _ => true
  | .coefWrite _ _ _ _ _ => true
  | .presenceWindow _ _ ofs => inPeriod ofs
  | .muteHangExpiry _ => true
  | .sliceMuteRampDone _ => true
  | .sliceDrainDone _ => true
  | .sliceCheck _ => true
  | .captureArm _ w => on POOL_CAP_CFG.ARM w
  | .captureRelease _ w => on POOL_CAP_CFG.REL w
  | .captureTrigger => true
  | .captureDone _ => true
  | .latencyWrite _ _ _ => true
  | .settleCountElapsed _ ofs => inPeriod ofs
  | .glazeSwapRequest _ _ w => on SLC_GLZ_CTL.SWAP w && off SLC_GLZ_CTL.SET w
  | .glazeSetSwapRequest _ _ w => on SLC_GLZ_CTL.SWAP w && on SLC_GLZ_CTL.SET w
  | .glazeFadeEnd _ ofs => inPeriod ofs
  | .cnlBlockEnd _ inp refs ofs => decide (inp.length = 64) && refs.all (fun r => decide (r.1 < 8 ∧ r.2.length = 64)) && inPeriod ofs
  | .cnlCfgWrite _ _ _ _ => true
  | .cnlCtlWrite _ _ _ => true
  | .cnlClear _ _ w => on CNL_CTL.CLR w
  | .cnlFreeze _ _ _ => true
  | .cnlCheck _ => true
  | .probeStart _ w => on CNL_PRB_CTL.START w
  | .probeAbort _ w => on CNL_PRB_CTL.ABORT w
  | .probeAutoRun => true
  | .probeRunEnd _ _ _ _ _ => true
  | .loopComputeDeadline _ => true
  | .loopHoldTimeout _ => true
  | .loopModeWrite _ _ _ => true
  | .loopRearmOvr _ w => on LOOP_GCTL.REARM_OVR w
  | .loopLutWrite _ _ _ _ => true
  | .loopSpWrite _ _ _ => true
  | .stencilAttach _ _ w => on STN_CFG.EN w
  | .stencilDetach _ _ w => off STN_CFG.EN w
  | .stencilRestart _ _ w => on STN_CTL.RESTART w
  | .stencilAnchor _ => true
  | .stencilRelearnTimeout _ => true
  | .epochInstantiate _ ofs => inPeriod ofs
  | .carveActionDue ofs => inPeriod ofs
  | .epochConfirm _ _ t => inPeriod t.ofs
  | .epochWindowOpen _ ofs => inPeriod ofs
  | .epochWindowClose _ t => inPeriod t.ofs
  | .carveFlush _ w => on CRV_CTL.FLUSH w
  | .carveDisable _ w => off CRV_CTL.EN w
  | .templateEnable _ _ w => on CRV_TPL_CFG.EN w
  | .templateDisable _ _ w => off CRV_TPL_CFG.EN w
  | .directActionGo _ w ofs => on CRV_DIR_GO.GO w && inPeriod ofs
  | .crvCheck _ => true
  | .patrolCfgWrite _ _ _ => true
  | .oscTrimRelease _ => true
  | .dlossTimeout => true
  | .sweepSegmentStart => true
  | .sweepSegmentEnd bins _ ofs => decide (bins.length = 2048) && inPeriod ofs
  | .netStopPinLow => true
  | .netStopPinRelease => true
  | .patrolLocalStop _ w => on PTL_CTL.STOP w
  | .patrolSliceRelease _ w => on PTL_CTL.SREL w
  | .patrolRelStop _ _ w => on PTL_REL.REL_STOP w
  | .patrolRelDl _ _ w => on PTL_REL.REL_DL w
  | .patrolRelUl _ _ w => on PTL_REL.REL_UL w
  | .stopStepsDone => true
  | .stopReleaseDone => true
  | .faultRaise code _ _ => Machine.Ev.isIdentity code.val
  | .faultClear code _ => Machine.Ev.isIdentity code.val
  | .runoutExpiry entries => decide entries.Nodup
  | .claimExtensionExpiry entries => decide entries.Nodup
  | .shadowClose _ => true
  | .faultClaim _ w => on FLT_CLAIM.CLAIM w
  | .faultAck _ x => on FLT_ACK.ACK x.w
  | .faultAckAll _ x => on FLT_ACK.ALL x.w
  | .faultAckAuth _ _ x => on FLT_ACKA.ACK x.w
  | .heartbeatWrite _ w => on FLT_HB.BEAT w
  | .aliveToggleInstant => true
  | .heartbeatTimeout => true
  | .faultInjectEvent _ w => on TST_FINJ.GO w && num TST_FINJ.MODE w == 0
  | .faultInjectRaise _ w => on TST_FINJ.GO w && num TST_FINJ.MODE w == 1
  | .faultInjectClear _ w => on TST_FINJ.GO w && num TST_FINJ.MODE w == 2
  | .scheduledFlush => true
  | .recorderFlushCmd _ w => on REC_CTL.FLUSH w
  | .recordWriteDone _ => true
  | .timeMark _ w => on REC_MARK_GO.GO w
  | .varnishClear _ _ w => on REC_CLR.CLR_V w
  | .paletteClear _ _ w => on REC_CLR.CLR_P w
  | .clearEraseDone => true
  | .bdacEnable _ _ w => on BDAC_CFG.EN w
  | .bdacDisable _ _ w => off BDAC_CFG.EN w
  | .bdacPowered _ => true
  | .bdacSlewStep chans => decide chans.Nodup
  | .bdacParkReached _ => true
  | .bdacOffingDone _ => true
  | .bdacCodeWrite _ _ _ => true
  | .bdacStrobe _ _ _ => true
  | .bdacStrobeAll _ w => on BDAC_LOAD1.ALL w
  | .bdacTimerArm _ w ofs => on BDAC_TT_CTL.ARM w && inPeriod ofs
  | .bdacTimerLoad ofs => inPeriod ofs
  | .bdacSpanChange _ _ w => on BDAC_SPAN.GO w
  | .bdacSpanSwitchDone _ => true
  | .bdacSineStart _ _ w => on BDAC_SINE.RUN w
  | .bdacSineStop _ _ w => off BDAC_SINE.RUN w
  | .bdacSineZeroCross _ => true
  | .bdacIlim _ => true
  | .hkSlotEnd _ _ => true
  | .hkLapEnd _ => true
  | .thmCfgWrite _ _ => true
  | .sensorGateEnd _ _ _ _ => true
  | .domainPowerUpDone _ => true
  | .domainDrainDone _ => true
  | .domainOffingDone _ => true
  | .domainPowerUpTimeout _ => true
  | .dozeEntry _ => true
  | .sleepRequest _ w => on PWR_CTL.SLEEP w
  | .sleepEntered => true
  | .wakePinEdge => true
  | .rfEnergyWindow _ _ => true
  | .wakeTimerExpiry => true
  | .towActivityWake => true
  | .xtalStop => true
  | .xtalResume => true
  | .powerFailTrip _ => true
  | .lodgePowerUp => true
  | .pwrGoodRise => true
  | .resetAssert => true
  | .coldStart x => x.wf
  | .warmRestart x => x.wf
  | .supCtlWarm _ _ w => on SUP_CTL.WARM w
  | .retainedCommitCmd _ w => on CAL_RET_CTL.COMMIT w
  | .retainedDiscard _ _ w => on CAL_RET_CTL.DISCARD w
  | .retainedCommitTimer => true
  | .retainedSegmentDone _ => true
  | .spareMove _ w => on SLC_SPARE_CTL.GO w && off SLC_SPARE_CTL.RET w
  | .spareReturn _ w => on SLC_SPARE_CTL.GO w && on SLC_SPARE_CTL.RET w
  | .spareReplacementStart => true
  | .spareCopyDone => true
  | .handoverGo _ _ w ofs => on SUP_HO_CTL.GO w && inPeriod ofs
  | .handoverFreeze => true
  | .handoverSwitch => true
  | .handoverHbTimeout => true
  | .lockstepMismatch _ => true
  | .pairReloadDone _ => true
  | .authOpen _ w => on SUP_AUTH_CTL.OPEN w
  | .authAbort _ w => on SUP_AUTH_CTL.ABORT w
  | .authBufferTimeout => true
  | .authWrites => true
  | .authFixative => true
  | .authUsercal => true
  | .authFirmware => true
  | .authLockoutEnd => true
  | .fixativeTakeEffect => true
  | .spiWriteTransaction cmd words _ => !cmd.toNat.testBit 31 && decide (words.length ≤ 128)
  | .spiReadTransaction cmd cut => cmd.toNat.testBit 31 && decide (cut.getD 0 < 129)
  | .towPortUp _ => true
  | .towPortDown _ => true
  | .towTrainingBurst _ => true
  | .towIdleBurst _ => true
  | .towQueueDispatch _ ofs => inPeriod ofs
  | .towWrite _ f ofs => f.wf && inPeriod ofs
  | .towTimedWriteApply => true
  | .towRead _ f ofs => f.wf && inPeriod ofs
  | .towResp _ f ofs => f.wf && inPeriod ofs
  | .towBulk _ f ofs => f.wf && inPeriod ofs
  | .towHeartbeat _ f ofs => f.wf && inPeriod ofs
  | .towEvent _ f ofs => f.wf && inPeriod ofs
  | .towEnum _ f ofs => f.wf && inPeriod ofs
  | .towEpoch _ f ofs => f.wf && inPeriod ofs
  | .towPromote _ f ofs => f.wf && inPeriod ofs
  | .towBench _ f ofs => f.wf && inPeriod ofs
  | .towNetstop _ f ofs => f.wf && inPeriod ofs
  | .towGatherReq _ f ofs => f.wf && inPeriod ofs
  | .gatherSample ofs => inPeriod ofs
  | .gatherTrainStart ofs => inPeriod ofs
  | .towGather _ f ofs => f.wf && inPeriod ofs
  | .towSync _ f ofs => f.wf && inPeriod ofs
  | .towSyncSend ofs => inPeriod ofs
  | .towSyncTimeout => true
  | .towDelaySend ofs => inPeriod ofs
  | .towDelayRequest _ f ofs => f.wf && inPeriod ofs
  | .towDelayResponse _ f ofs => f.wf && inPeriod ofs
  | .towHeartbeatSend ofs => inPeriod ofs
  | .towHelloSend ofs => inPeriod ofs
  | .towDeadDeclare _ ofs => inPeriod ofs
  | .towEpochBroadcast ofs => inPeriod ofs
  | .towEnumCmd _ w => on TOW_HEAD_CTL.ENUM w
  | .towPromoteCmd _ w => on TOW_HEAD_PROM.GO w
  | .towMbxSend _ w => on TOW_HEAD_MBX.SEND w
  | .towMbxPop _ w => on TOW_HEAD_MBX.POP w
  | .towTimeSet _ w ofs => on TOW_TIME_SET_GO.GO w && inPeriod ofs
  | .pairLineChange _ => true
  | .pairTokenAcquire => true
  | .pairGateOpen => true
  | .pairTokenRelease _ w => on TOW_PAIR_CTL.REL w
  | .pairTokenLineRelease => true
  | .towTokenFault => true
  | .towPortTraining _ => true
  | .towLineStatic _ => true
  | .bdacUpdateTick ofs => inPeriod ofs
  | .pairRelBlockExpiry => true
  | .heldWakeRelease => true

end Sys2Proof
end

