-- ==== Sys2Proof/Safety.lean ====
section
/-! DEFINITION. What claims are stated in: a running core, a write that R500 lets through whole, the state after a command,
the invariants of the block. -/
namespace Sys2Proof

/-- Commands that act on the Lodge, on the JTAG port, on the supplies or as a start, whatever the core does. -/
def Instr.lodgeSide : Instr → Bool
  | .extest _ => true
  | .samplePreload _ _ => true
  | .idcode => true
  | .bypass _ _ => true
  | .regAccessWrite _ _ => true
  | .regAccessRead _ => true
  | .regAccessCapture => false
  | .regAccessDone => false
  | .registerWrite _ _ _ => false
  | .unmappedRead _ _ => false
  | .glbLockSet _ _ => false
  | .ldgOptLoRead _ => false
  | .towTimeLoRead _ _ => false
  | .synRffeRdRead _ _ => false
  | .controlPeriodBoundary _ => false
  | .frameOutPulseEnd => false
  | .frameSyncEdge _ => false
  | .ppsEdge _ => false
  | .sourceTimeout _ => false
  | .revertDwellExpiry _ => false
  | .frameTimeStep _ => false
  | .synFtCfgWrite _ _ _ => false
  | .synTdCfgWrite _ _ _ => false
  | .tdDetection _ _ _ _ _ => false
  | .tdMissedDetection _ => false
  | .operatingTimeTick => true
  | .lodgeCommit => true
  | .groupTargetRequest _ _ _ => false
  | .groupRearm _ _ _ => false
  | .groupStepDone _ _ => false
  | .txWaitExpiry _ => false
  | .rxLockWaitExpiry _ => false
  | .loFreqWrite _ _ _ => false
  | .retuneTimeout _ => false
  | .synthLock _ _ _ => false
  | .synthUnlock _ => false
  | .rffeRegisterWrite _ _ _ => false
  | .rffeExtRegisterWrite _ _ _ => false
  | .rffeExtRegisterWriteLong _ _ _ => false
  | .rffeRegisterRead _ _ _ => false
  | .rffeSequenceStart _ _ => false
  | .rffeSequenceDone _ _ _ => false
  | .tgpioCfgWrite _ _ _ => false
  | .tgpioFollowEdge _ => false
  | .orxSwitchDone => false
  | .calStepDone _ _ => false
  | .calRequest _ _ => false
  | .onreqCalStart _ => false
  | .bgCalStepStart _ _ => false
  | .bgCalStepDone => false
  | .usercalSegmentDone _ => false
  | .sliceEnable _ _ _ => false
  | .sliceDisable _ _ _ => false
  | .sliceForcedMute _ _ _ => false
  | .sliceCfgWrite _ _ _ _ => false
  | .sliceGainWrite _ _ _ => false
  | .coefWrite _ _ _ _ _ => false
  | .presenceWindow _ _ _ => false
  | .muteHangExpiry _ => false
  | .sliceMuteRampDone _ => false
  | .sliceDrainDone _ => false
  | .sliceCheck _ => false
  | .captureArm _ _ => false
  | .captureRelease _ _ => false
  | .captureTrigger => false
  | .captureDone _ => false
  | .latencyWrite _ _ _ => false
  | .settleCountElapsed _ _ => false
  | .glazeSwapRequest _ _ _ => false
  | .glazeSetSwapRequest _ _ _ => false
  | .glazeFadeEnd _ _ => false
  | .cnlBlockEnd _ _ _ _ => false
  | .cnlCfgWrite _ _ _ _ => false
  | .cnlCtlWrite _ _ _ => false
  | .cnlClear _ _ _ => false
  | .cnlFreeze _ _ _ => false
  | .cnlCheck _ => false
  | .probeStart _ _ => false
  | .probeAbort _ _ => false
  | .probeAutoRun => false
  | .probeRunEnd _ _ _ _ _ => false
  | .loopComputeDeadline _ => false
  | .loopHoldTimeout _ => false
  | .loopModeWrite _ _ _ => false
  | .loopRearmOvr _ _ => false
  | .loopLutWrite _ _ _ _ => false
  | .loopSpWrite _ _ _ => false
  | .stencilAttach _ _ _ => false
  | .stencilDetach _ _ _ => false
  | .stencilRestart _ _ _ => false
  | .stencilAnchor _ => false
  | .stencilRelearnTimeout _ => false
  | .epochInstantiate _ _ => false
  | .carveActionDue _ => false
  | .epochConfirm _ _ _ => false
  | .epochWindowOpen _ _ => false
  | .epochWindowClose _ _ => false
  | .carveFlush _ _ => false
  | .carveDisable _ _ => false
  | .templateEnable _ _ _ => false
  | .templateDisable _ _ _ => false
  | .directActionGo _ _ _ => false
  | .crvCheck _ => false
  | .patrolCfgWrite _ _ _ => false
  | .oscTrimRelease _ => false
  | .dlossTimeout => false
  | .sweepSegmentStart => false
  | .sweepSegmentEnd _ _ _ => false
  | .netStopPinLow => false
  | .netStopPinRelease => false
  | .patrolLocalStop _ _ => false
  | .patrolSliceRelease _ _ => false
  | .patrolRelStop _ _ _ => false
  | .patrolRelDl _ _ _ => false
  | .patrolRelUl _ _ _ => false
  | .stopStepsDone => false
  | .stopReleaseDone => false
  | .faultRaise _ _ _ => false
  | .faultClear _ _ => false
  | .runoutExpiry _ => false
  | .claimExtensionExpiry _ => false
  | .shadowClose _ => false
  | .faultClaim _ _ => false
  | .faultAck _ _ => false
  | .faultAckAll _ _ => false
  | .faultAckAuth _ _ _ => false
  | .heartbeatWrite _ _ => false
  | .aliveToggleInstant => false
  | .heartbeatTimeout => false
  | .faultInjectEvent _ _ => false
  | .faultInjectRaise _ _ => false
  | .faultInjectClear _ _ => false
  | .scheduledFlush => false
  | .recorderFlushCmd _ _ => false
  | .recordWriteDone _ => false
  | .timeMark _ _ => false
  | .varnishClear _ _ _ => false
  | .paletteClear _ _ _ => false
  | .clearEraseDone => false
  | .bdacEnable _ _ _ => false
  | .bdacDisable _ _ _ => false
  | .bdacPowered _ => false
  | .bdacSlewStep _ => false
  | .bdacParkReached _ => false
  | .bdacOffingDone _ => false
  | .bdacCodeWrite _ _ _ => false
  | .bdacStrobe _ _ _ => false
  | .bdacStrobeAll _ _ => false
  | .bdacTimerArm _ _ _ => false
  | .bdacTimerLoad _ => false
  | .bdacSpanChange _ _ _ => false
  | .bdacSpanSwitchDone _ => false
  | .bdacSineStart _ _ _ => false
  | .bdacSineStop _ _ _ => false
  | .bdacSineZeroCross _ => false
  | .bdacIlim _ => false
  | .hkSlotEnd _ _ => false
  | .hkLapEnd _ => false
  | .thmCfgWrite _ _ => false
  | .sensorGateEnd _ _ _ _ => false
  | .domainPowerUpDone _ => false
  | .domainDrainDone _ => false
  | .domainOffingDone _ => false
  | .domainPowerUpTimeout _ => false
  | .dozeEntry _ => false
  | .sleepRequest _ _ => false
  | .sleepEntered => true
  | .wakePinEdge => true
  | .rfEnergyWindow _ _ => true
  | .wakeTimerExpiry => true
  | .towActivityWake => true
  | .xtalStop => true
  | .xtalResume => true
  | .powerFailTrip _ => true
  | .lodgePowerUp => true
  | .pwrGoodRise => true
  | .resetAssert => true
  | .coldStart _ => true
  | .warmRestart _ => true
  | .supCtlWarm _ _ _ => false
  | .retainedCommitCmd _ _ => false
  | .retainedDiscard _ _ _ => false
  | .retainedCommitTimer => false
  | .retainedSegmentDone _ => false
  | .spareMove _ _ => false
  | .spareReturn _ _ => false
  | .spareReplacementStart => false
  | .spareCopyDone => false
  | .handoverGo _ _ _ _ => false
  | .handoverFreeze => false
  | .handoverSwitch => false
  | .handoverHbTimeout => false
  | .lockstepMismatch _ => false
  | .pairReloadDone _ => false
  | .authOpen _ _ => false
  | .authAbort _ _ => false
  | .authBufferTimeout => false
  | .authWrites => false
  | .authFixative => false
  | .authUsercal => false
  | .authFirmware => false
  | .authLockoutEnd => false
  | .fixativeTakeEffect => false
  | .spiWriteTransaction _ _ _ => false
  | .spiReadTransaction _ _ => false
  | .towPortUp _ => false
  | .towPortDown _ => false
  | .towTrainingBurst _ => false
  | .towIdleBurst _ => false
  | .towQueueDispatch _ _ => false
  | .towWrite _ _ _ => false
  | .towTimedWriteApply => false
  | .towRead _ _ _ => false
  | .towResp _ _ _ => false
  | .towBulk _ _ _ => false
  | .towHeartbeat _ _ _ => false
  | .towEvent _ _ _ => false
  | .towEnum _ _ _ => false
  | .towEpoch _ _ _ => false
  | .towPromote _ _ _ => false
  | .towBench _ _ _ => false
  | .towNetstop _ _ _ => false
  | .towGatherReq _ _ _ => false
  | .gatherSample _ => false
  | .gatherTrainStart _ => false
  | .towGather _ _ _ => false
  | .towSync _ _ _ => false
  | .towSyncSend _ => false
  | .towSyncTimeout => false
  | .towDelaySend _ => false
  | .towDelayRequest _ _ _ => false
  | .towDelayResponse _ _ _ => false
  | .towHeartbeatSend _ => false
  | .towHelloSend _ => false
  | .towDeadDeclare _ _ => false
  | .towEpochBroadcast _ => false
  | .towEnumCmd _ _ => false
  | .towPromoteCmd _ _ => false
  | .towMbxSend _ _ => false
  | .towMbxPop _ _ => false
  | .towTimeSet _ _ _ => false
  | .pairLineChange _ => false
  | .pairTokenAcquire => false
  | .pairGateOpen => false
  | .pairTokenRelease _ _ => false
  | .pairTokenLineRelease => false
  | .towTokenFault => false
  | .towPortTraining _ => false
  | .towLineStatic _ => false
  | .bdacUpdateTick _ => false
  | .pairRelBlockExpiry => false
  | .heldWakeRelease => true

end Sys2Proof

namespace Sys2Proof.Machine

/-! ### Answers -/

/-- A step goes on. -/
def Runs (s : State) : Prop := ∃ t, step s = .next t

/-- The core's supplies are on, no reset holds it and the power-fail comparator has not tripped. -/
def Running (s : State) : Prop := coreRuns s.dev = true

/-- The state after an effect on a device whose core runs, once the end of the step has been worked off. -/
def State.after (s : State) (f : Env → Dev → Dev) : State := { s with dev := settle s.env (f s.env s.dev) }

/-- The state after an effect on the device alone. -/
def State.then_ (s : State) (d : Dev) : State := { s with dev := settle s.env d }

/-! ### Writes -/

/-- A word reaches register `n`: the core runs, the register is decoded for its origin, the start-up phase, the handover and
SUP_WR_EN let the origin write (R382, R394, R398). -/
def Reaches (s : State) (by_ : By) (n : RegName) (i j : Nat) : Prop :=
  Running s ∧ writeTarget s.env s.dev by_ (n.addr i j) = some ⟨n, i, j⟩ ∧ phaseOpen s.dev by_ = true ∧
    pairBusy s.dev (some n) by_ = false ∧ gated s.dev n by_ = false

/-- R500 lets the whole word through: some field takes effect and none is refused. -/
def Unrefused (s : State) (by_ : By) (n : RegName) (i j : Nat) (w : Word) : Prop :=
  let z := judgeWord s.env ⟨n, i, j⟩ { by_ := by_, i := i, j := j, w := w } s.dev
  z.takes = true ∧ z.diff = false ∧ z.fail = false ∧ z.w = w ∧ z.d = s.dev

/-- A word reaches its register and R500 lets all of it through. -/
def Accepts (s : State) (by_ : By) (n : RegName) (i j : Nat) (w : Word) : Prop :=
  Reaches s by_ n i j ∧ Unrefused s by_ n i j w

/-- The state after an accepted write of a whole word with the register's own effect. -/
def State.written (s : State) (by_ : By) (n : RegName) (i j : Nat) (w : Word) (act : Dev → Dev) : State :=
  s.then_ (Sys2Proof.Machine.written s.env by_ n i j w act s.dev)

/-! ### Invariants -/

/-- The Fixative slot that is in use. -/
def Env.inUse (e : Env) : Option FixSlot := if e.slotSel then e.slot1 else e.slot0

/-- What a slot holds is a command whose CRC-32 and signature hold and whose record is correct. -/
def FixSlot.sound (x : FixSlot) : Prop := x.valid = true ∧ x.authentic = true ∧ x.fix.good = true

/-- The Fixative area (R256, R407, R408): the record in force is that of the slot in use, every slot is sound, a record
that waits for its boundary may follow the one in force, and an older record has a lower version and the same FACTORY key
hash. -/
def Env.fixWf (e : Env) : Prop :=
  e.fix = e.inUse.map (·.fix) ∧ (∀ x, e.slot0 = some x → x.sound) ∧ (∀ x, e.slot1 = some x → x.sound) ∧
  (∀ b, e.fixPend = some b → ∃ x, otherSlot e = some x ∧ x.fix.follows e.fix = true) ∧
  (e.fixPend = none → ∀ x, otherSlot e = some x → ∃ f, e.fix = some f ∧ x.fix.version < f.version ∧ x.fix.keyF = f.keyF)

/-- One Fixative may come after another in the life of a part: the version does not fall and the FACTORY key hash stays. -/
def Fix.succeeds (g f : Fix) : Prop := f.version ≤ g.version ∧ g.keyF = f.keyF

end Sys2Proof.Machine
end

