-- ==== Sys2Proof/Certificates/Slice0/Obligations.lean ====
section
/-! DEFINITION. The statements about the model. A statement that rests on a choice of the model says so and names the row of
notes/assumptions. -/
open Sys2Proof Sys2Proof.Machine

/-- For every command c and state s, step of s with c in front of its queue is exec of c on s with the rest of the queue;
with an empty queue the block idles (model choice, log entry 2). -/
def Obligations.StepRunsFront : Prop :=
  ∀ (c : Instr) (rest : List Instr) (s : State),
    step { s with pending := c :: rest } = exec c { s with pending := rest } ∧
    step { s with pending := [] } = .next { s with pending := [] }

/-- For every command and every state, exec answers a next state whose queue of waiting commands is the one before: no
command stops the machine and no command reorders the queue. -/
def Obligations.EveryCommandAnswers : Prop :=
  ∀ (c : Instr) (s : State), ∃ t, exec c s = .next t ∧ t.pending = s.pending

/-- A command other than OPERATING_TIME_TICK, COLD_START, WARM_RESTART, AUTH_FIXATIVE and FIXATIVE_TAKE_EFFECT leaves
operating time, the power-cycle count, the identity, the Fixative in force and the Fixative slots as they are; and no
command but FIXATIVE_TAKE_EFFECT, COLD_START and WARM_RESTART changes the Fixative in force. -/
def Obligations.OnlyFiveTouchTheEnvironment : Prop :=
  ∀ (c : Instr) (s t : State), exec c s = .next t → (∀ x, c ≠ .coldStart x) → (∀ x, c ≠ .warmRestart x) → c ≠ .fixativeTakeEffect →
    t.env.fix = s.env.fix ∧ (c ≠ .operatingTimeTick → c ≠ .authFixative → t.env = s.env)

/-- From every state whose operating time is below 2^48, a step answers a state whose operating time is below 2^48. -/
def Obligations.OperatingTimeBound : Prop :=
  ∀ (s t : State), s.env.opt < 2 ^ 48 → step s = .next t → t.env.opt < 2 ^ 48

/-- For a command other than COLD_START: operating time after it is not below the one before, at most one count above, and
unchanged unless the command is OPERATING_TIME_TICK. The premise (a 48-bit count) is the invariant OperatingTimeBound.
While the crystal runs or the main supplies are on, the tick adds one count below the 48-bit limit and two tokens of the
Palette bucket, up to 256, with which a waiting record of a running core may be written. -/
def Obligations.OperatingTimeNeverFalls : Prop :=
  (∀ (c : Instr) (s t : State), s.env.opt < 2 ^ 48 → exec c s = .next t → (∀ x, c ≠ .coldStart x) →
      s.env.opt ≤ t.env.opt ∧ t.env.opt ≤ s.env.opt + 1 ∧ (c ≠ .operatingTimeTick → t.env.opt = s.env.opt)) ∧
    ∀ (s : State), (s.dev.pwr.xtalOk || s.dev.pwr.mainEn) = true → s.env.opt < 2 ^ 48 - 1 →
      exec .operatingTimeTick s = .next { s with
        env := { s.env with opt := s.env.opt + 1 }
        dev := settle { s.env with opt := s.env.opt + 1 }
          (let d := { s.dev with rcd := { s.dev.rcd with tokens := satN (s.dev.rcd.tokens + 2) 256 } }
           if coreRuns s.dev then kick d else d) }

/-- Whenever the Fixative area is well-formed (the record in force is that of the slot in use, every record is correct under
R407, a record that waits may follow the one in force, an older record has a lower version and the same FACTORY key
hash), it is so after every step, whatever the command. -/
def Obligations.FixativeAreaKept : Prop :=
  ∀ (s t : State), s.env.fixWf → step s = .next t → t.env.fixWf

/-- From every state whose Fixative area is well-formed (the invariant FixativeAreaKept), if a Fixative is in force, then
after any step a Fixative is in force whose version is at least as high and whose FACTORY key hash is the same. -/
def Obligations.FixativeNeverGoesBack : Prop :=
  ∀ (s t : State) (f : Fix), s.env.fixWf → step s = .next t → s.env.fix = some f → ∃ g, t.env.fix = some g ∧ g.succeeds f

/-- In a state whose core does not run (no main supplies, reset held, or supplies failed), a command that does not act on
the Lodge, the JTAG port, the supplies or a start leaves the whole state as it is. -/
def Obligations.NothingWithoutTheCore : Prop :=
  ∀ (c : Instr) (s : State), c.lodgeSide = false → coreRuns s.dev = false → exec c s = .next s

/-- For every register of the register summary and every instance and word it has, the address of R487 is the address of
exactly that instance. -/
def Obligations.AddressesNameOneRegister : Prop :=
  ∀ (n : RegName) (i j : Nat), i < n.place.n → j < n.place.n2 → findReg (n.addr i j) = some ⟨n, i, j⟩

/-- After a store of w to a register instance, that instance reads w and every other register instance reads as before. -/
def Obligations.StoreTouchesOneWord : Prop :=
  ∀ (d : Dev) (n m : RegName) (i j k l : Nat) (w : Word), i < n.place.n → j < n.place.n2 → k < m.place.n → l < m.place.n2 →
    (d.setReg n i j w).reg n i j = w ∧
    ((⟨n, i, j⟩ : Reg) ≠ ⟨m, k, l⟩ → (d.setReg n i j w).reg m k l = d.reg m k l)

/-- In State.reset every instance of every register holds the model's reset word of it (resetWord). The words that the
summary gives as numbers are stated for GLB_ID, SYN_FT_CFG, SYN_GRP_CTL, SYN_RFFE_CFG, RXC_CFG, LDG_WAKE_CFG,
SYN_TGPIO_CFG, CAL_RET_CTL, SLC_LAT (0x0000012C in both directions), and the loop floors in LOOP_LIM: 0x0000F448 for
loops 0 to 191, 0x0000F060 for 192 to 199 and 0 for 200 to 255. For the registers whose entry is Fused, Restored, Kept,
Fixative, Sampled, Random or Start the summary gives no number; that their word is 0 is the model choice of log entry 6. -/
def Obligations.ResetRegisters : Prop :=
  (∀ (n : RegName) (i j : Nat), State.reset.dev.reg n i j = n.resetWord i j) ∧
    State.reset.dev.reg .GLB_ID = 0x4192A000#32 ∧ State.reset.dev.reg .SYN_FT_CFG = 0x0A4008D1#32 ∧
    State.reset.dev.reg .SYN_GRP_CTL 1 = 0x00FF0000#32 ∧ State.reset.dev.reg .SYN_RFFE_CFG 3 = 0x02000000#32 ∧
    State.reset.dev.reg .RXC_CFG 7 = 0xC00A000C#32 ∧ State.reset.dev.reg .LDG_WAKE_CFG = 0xA0000004#32 ∧
    State.reset.dev.reg .SYN_TGPIO_CFG 31 = 0x04000000#32 ∧ State.reset.dev.reg .CAL_RET_CTL = 0x00000004#32 ∧
    State.reset.dev.reg .SLC_LAT 0 = 0x0000012C#32 ∧ State.reset.dev.reg .SLC_LAT 1 = 0x0000012C#32 ∧
    (∀ i, i < 192 → State.reset.dev.reg .LOOP_LIM i = 0x0000F448#32) ∧
    (∀ i, 192 ≤ i → i < 200 → State.reset.dev.reg .LOOP_LIM i = 0x0000F060#32) ∧
    (∀ i, 200 ≤ i → i < 256 → State.reset.dev.reg .LOOP_LIM i = 0x00000000#32)

/-- State.reset has an empty command queue, both groups in SLEEP, every slice IDLE, no epoch, no STOP, no live fault, no
latch entry, an empty recorder, no command under verification, boot phase ROM, and a well-formed Fixative area without a
record. That engines without a reset value start at rest is the model choice of log entry 5; that no Fixative is in
force, that its slots are empty and that the recorder is empty, in its staging and in both areas, is that of log entry
6. -/
def Obligations.ResetAtRest : Prop :=
  State.reset.pending = [] ∧ (∀ g, (State.reset.dev.group g).state = .sleep) ∧ (∀ n, (State.reset.dev.slice n).st = .idle) ∧
    State.reset.dev.crv.epochs = [] ∧ State.reset.dev.ptl.phase = .none_ ∧ State.reset.dev.flt.live = [] ∧ State.reset.dev.flt.latch = [] ∧
    State.reset.dev.rcd.stg = [] ∧ State.reset.dev.rcd.varnish = [] ∧ State.reset.dev.rcd.palette = [] ∧ State.reset.dev.auth.submit = none ∧ State.reset.dev.boot.phase = .rom ∧ regsWf State.reset.dev.regs = true ∧
    State.reset.env.fixWf ∧ State.reset.env.fix = none ∧ State.reset.env.slot0 = none ∧ State.reset.env.slot1 = none

/-- A word that reaches its register, of which R500 refuses no field and which the register's own rules take, is stored
(where the register is kept in the register file), has the register's effect, enters the journal under R315 and closes a
batch of its own. -/
def Obligations.AcceptedWrite : Prop :=
  ∀ (s : State) (src : Src) (a w : Word) (n : RegName) (i j : Nat), a.toNat = n.addr i j → a.toNat % 4 = 0 → n.fields.isEmpty = false →
    Accepts s src.plain n i j w →
    ruleOf s.env n { by_ := src.plain, i := i, j := j, w := w } s.dev = .take →
    exec (.registerWrite src a w) s =
      .next (s.written src.plain n i j w (actOf s.env n { by_ := src.plain, i := i, j := j, w := w } (s.dev.reg n i j)))

/-- A write to a word address that no register occupies is discarded and raises ADDR_UNMAPPED with instance 0xFF and the
source code that R18 and R486 give its address (unmappedSrc); one whose address is not a multiple of 4 is discarded
(model choice, log entry 30). A plain write that reaches a decoded register is discarded: before the start-up phase lets
its origin write (R382), for debug also where REG_ACCESS is closed or an access is in progress (R14), with nothing else
changed; while a handover holds its origin (R394), with nothing else changed; where SUP_WR_EN closes its origin (R398),
with DIS_CNT one higher, at most 255. A write to an unoccupied address that a handover holds is discarded as well, with
no fault. The order of these checks is log entry 35, so a write that a handover holds leaves DIS_CNT as it is; what
becomes of a held write is log entries 131 and 206. A REGISTER_WRITE of origin Tow is one word at the register, which a
handover discards; the frames that R394 has the Tow link hold are the commands TOW_WRITE, TOW_READ and TOW_BULK. -/
def Obligations.DiscardedWrites : Prop :=
  ∀ (s : State) (src : Src) (a w : Word), Running s →
    (a.toNat % 4 = 0 → writeTarget s.env s.dev src.plain a.toNat = none → pairBusy s.dev none src.plain = true →
      exec (.registerWrite src a w) s = .next (s.then_ (closeBatch s.env src.plain s.dev))) ∧
    (a.toNat % 4 = 0 → writeTarget s.env s.dev src.plain a.toNat = none → pairBusy s.dev none src.plain = false →
      exec (.registerWrite src a w) s =
        .next (s.then_ (closeBatch s.env src.plain (report s.env s.dev (Ev.addrUnmapped (unmappedSrc s.env a.toNat)) 0xFF 0)))) ∧
    (a.toNat % 4 ≠ 0 → exec (.registerWrite src a w) s = .next (s.then_ (closeBatch s.env src.plain s.dev))) ∧
    ∀ (r : Reg), a.toNat % 4 = 0 → writeTarget s.env s.dev src.plain a.toNat = some r →
    (phaseOpen s.dev src.plain = false →
      exec (.registerWrite src a w) s = .next (s.then_ (closeBatch s.env src.plain s.dev))) ∧
    (phaseOpen s.dev src.plain = true → pairBusy s.dev (some r.name) src.plain = true →
      exec (.registerWrite src a w) s = .next (s.then_ (closeBatch s.env src.plain s.dev))) ∧
    (phaseOpen s.dev src.plain = true → pairBusy s.dev (some r.name) src.plain = false → gated s.dev r.name src.plain = true →
      exec (.registerWrite src a w) s =
        .next (s.then_ (closeBatch s.env src.plain (s.dev.put SUP_WR_EN.DIS_CNT 0 (satN (s.dev.get SUP_WR_EN.DIS_CNT + 1) 0xFF)))))

/-- A plain write of SUP_CTL, SUP_HO_CTL or PTL_REL with an action bit at 1 reaches the register and does nothing but count
in SUP_AUTH_STAT.FAIL_CNT. -/
def Obligations.PlainWriteOfAuthorisedAction : Prop :=
  ∀ (s : State) (src : Src) (w : Word),
    (Reaches s src.plain .SUP_CTL 0 0 → SUP_CTL.WARM.bit w = true →
      exec (.registerWrite src (BitVec.ofNat 32 (RegName.SUP_CTL.addr 0 0)) w) s = .next (s.then_ (closeBatch s.env src.plain (countFail true s.dev)))) ∧
    (Reaches s src.plain .SUP_HO_CTL 0 0 → SUP_HO_CTL.GO.bit w = true →
      exec (.registerWrite src (BitVec.ofNat 32 (RegName.SUP_HO_CTL.addr 0 0)) w) s =
        .next (s.then_ (closeBatch s.env src.plain (countFail true s.dev)))) ∧
    (Reaches s src.plain .PTL_REL 0 0 → (PTL_REL.REL_STOP.bit w || PTL_REL.REL_DL.bit w || PTL_REL.REL_UL.bit w) = true →
      exec (.registerWrite src (BitVec.ofNat 32 (RegName.PTL_REL.addr 0 0)) w) s =
        .next (s.then_ (closeBatch s.env src.plain (countFail true s.dev))))

/-- Accepted words of GLB_LOCK (LOCK = 1 is stored), SYN_FT_CFG and SYN_FT_OFS inside R47, and SYN_TD_CFG inside R48 are
stored and journalled, with no other effect in their step than that frame time reselects at the next frame boundary
after a SYN_FT_CFG word; a word outside R47 is discarded and sets CFG_REJ. -/
def Obligations.LockAndTimeWrites : Prop :=
  ∀ (s : State) (src : Src) (w : Word),
    (Accepts s src.plain .GLB_LOCK 0 0 w → GLB_LOCK.LOCK.bit w = true →
      exec (.glbLockSet src w) s = .next (s.written src.plain .GLB_LOCK 0 0 w (id))) ∧
    (Accepts s src.plain .SYN_FT_CFG 0 0 w → ftCfgOk w = true →
      exec (.synFtCfgWrite src 0 w) s = .next (s.written src.plain .SYN_FT_CFG 0 0 w (fun d => d.modSrc fun x => { x with cfgNew := true }))) ∧
    (∀ (k : Fin 5), k.val ≠ 0 → Accepts s src.plain .SYN_FT_OFS (k.val - 1) 0 w → SYN_FT_OFS.OFS.of w < frameCycles →
      exec (.synFtCfgWrite src k w) s = .next (s.written src.plain .SYN_FT_OFS (k.val - 1) 0 w (id))) ∧
    (∀ (n : Fin 8), Accepts s src.plain .SYN_TD_CFG n.val 0 w → tdCfgOk s.dev w = true →
      exec (.synTdCfgWrite src n w) s = .next (s.written src.plain .SYN_TD_CFG n.val 0 w (id))) ∧
    (Accepts s src.plain .SYN_FT_CFG 0 0 w → ftCfgOk w = false →
      exec (.synFtCfgWrite src 0 w) s = .next (s.then_ (closeBatch s.env src.plain (s.dev.setBit SYN_FT_STAT.CFG_REJ 0)))) ∧
    (∀ (k : Fin 5), k.val ≠ 0 → Accepts s src.plain .SYN_FT_OFS (k.val - 1) 0 w → frameCycles ≤ SYN_FT_OFS.OFS.of w →
      exec (.synFtCfgWrite src k w) s = .next (s.then_ (closeBatch s.env src.plain (s.dev.setBit SYN_FT_STAT.CFG_REJ 0))))

/-- A SYN_GRP_CTL word with a legal TARGET and unchanged masks (or a group at STANDBY or below) requests its TARGET and,
with REARM = 1, first clears HELD and releases what the group's escalation held; a SYN_LO_FREQ word in range gives the
synthesiser its new frequency under R70; CAL_CTL requests the calibrations it names. -/
def Obligations.GroupAndSynthWrites : Prop :=
  ∀ (s : State) (src : Src) (w : Word),
    (∀ (g : Fin 2), Accepts s src.plain .SYN_GRP_CTL g.val 0 w → (GSt.ofCode (SYN_GRP_CTL.TARGET.of w)).isSome = true → maskBarred { by_ := src.plain, i := g.val, j := 0, w := w } s.dev = false →
      exec (.groupTargetRequest src g w) s = .next (s.written src.plain .SYN_GRP_CTL g.val 0 w (groupWrite s.env g.val w))) ∧
    (∀ (g : Fin 2), Accepts s src.plain .SYN_GRP_CTL g.val 0 w → (GSt.ofCode (SYN_GRP_CTL.TARGET.of w)).isSome = true → maskBarred { by_ := src.plain, i := g.val, j := 0, w := w } s.dev = false →
      exec (.groupRearm src g w) s = .next (s.written src.plain .SYN_GRP_CTL g.val 0 w (groupWrite s.env g.val w))) ∧
    (∀ (n : Fin 4), Accepts s src.plain .SYN_LO_FREQ n.val 0 w → freqOk w.toNat = true →
      exec (.loFreqWrite src n w) s = .next (s.written src.plain .SYN_LO_FREQ n.val 0 w (newFreq n.val w.toNat))) ∧
    (Accepts s src.plain .CAL_CTL 0 0 w →
      exec (.calRequest src w) s = .next (s.written src.plain .CAL_CTL 0 0 w (fun d => let d1 := if CAL_CTL.REQ_D.bit w then calRequest s.env 0 d else d; if CAL_CTL.REQ_S.bit w then calRequest s.env 1 d1 else d1)))

/-- A SYN_RFFE_CMD word inside R83, whatever of the four types it has, enters the FIFO of its master behind the commands
that wait there, with its type, USID, address and data words. -/
def Obligations.RffeCommandWrites : Prop :=
  ∀ (s : State) (src : Src) (w : Word),
    (∀ (m : Fin 4), Accepts s src.plain .SYN_RFFE_CMD m.val 0 w → SYN_RFFE_CMD.TYPE.of w = 0 → rffeBad 0 (SYN_RFFE_CMD.BC.of w) (SYN_RFFE_CMD.USID.of w) (SYN_RFFE_CMD.ADDR.of w) = false → (s.dev.rffeM m.val).fifo.length < 64 →
      exec (.rffeRegisterWrite src m w) s = .next (s.written src.plain .SYN_RFFE_CMD m.val 0 w (fun d => d.setRffe m.val { d.rffeM m.val with fifo := (d.rffeM m.val).fifo ++ [{ typ := 0, usid := SYN_RFFE_CMD.USID.of w, addr := SYN_RFFE_CMD.ADDR.of w, data := rffeData d m.val 1 }] }))) ∧
    (∀ (m : Fin 4), Accepts s src.plain .SYN_RFFE_CMD m.val 0 w → SYN_RFFE_CMD.TYPE.of w = 1 → rffeBad 1 (SYN_RFFE_CMD.BC.of w) (SYN_RFFE_CMD.USID.of w) (SYN_RFFE_CMD.ADDR.of w) = false → (s.dev.rffeM m.val).fifo.length < 64 →
      exec (.rffeExtRegisterWrite src m w) s = .next (s.written src.plain .SYN_RFFE_CMD m.val 0 w (fun d => d.setRffe m.val { d.rffeM m.val with fifo := (d.rffeM m.val).fifo ++ [{ typ := 1, usid := SYN_RFFE_CMD.USID.of w, addr := SYN_RFFE_CMD.ADDR.of w, data := rffeData d m.val (SYN_RFFE_CMD.BC.of w + 1) }] }))) ∧
    (∀ (m : Fin 4), Accepts s src.plain .SYN_RFFE_CMD m.val 0 w → SYN_RFFE_CMD.TYPE.of w = 2 → rffeBad 2 (SYN_RFFE_CMD.BC.of w) (SYN_RFFE_CMD.USID.of w) (SYN_RFFE_CMD.ADDR.of w) = false → (s.dev.rffeM m.val).fifo.length < 64 →
      exec (.rffeExtRegisterWriteLong src m w) s = .next (s.written src.plain .SYN_RFFE_CMD m.val 0 w (fun d => d.setRffe m.val { d.rffeM m.val with fifo := (d.rffeM m.val).fifo ++ [{ typ := 2, usid := SYN_RFFE_CMD.USID.of w, addr := SYN_RFFE_CMD.ADDR.of w, data := rffeData d m.val (SYN_RFFE_CMD.BC.of w + 1) }] }))) ∧
    (∀ (m : Fin 4), Accepts s src.plain .SYN_RFFE_CMD m.val 0 w → SYN_RFFE_CMD.TYPE.of w = 3 → rffeBad 3 (SYN_RFFE_CMD.BC.of w) (SYN_RFFE_CMD.USID.of w) (SYN_RFFE_CMD.ADDR.of w) = false → (s.dev.rffeM m.val).fifo.length < 64 →
      exec (.rffeRegisterRead src m w) s = .next (s.written src.plain .SYN_RFFE_CMD m.val 0 w (fun d => d.setRffe m.val { d.rffeM m.val with fifo := (d.rffeM m.val).fifo ++ [{ typ := 3, usid := SYN_RFFE_CMD.USID.of w, addr := SYN_RFFE_CMD.ADDR.of w, data := [] }] }))) ∧
    (∀ (n : Fin 32), Accepts s src.plain .SYN_TGPIO_CFG n.val 0 w → tgpioBad w = false →
      exec (.tgpioCfgWrite src n w) s = .next (s.written src.plain .SYN_TGPIO_CFG n.val 0 w (tgpioWrite n.val (s.dev.reg .SYN_TGPIO_CFG n.val 0) w)))

/-- SLC_CTL.EN = 1 on an IDLE slice that passes R139 enables it; EN = 0 disables it by its state, and the members of its set
that settle show SET_WAIT where the set is complete no longer; FMUTE = 1 on a slice that is enabled and not IDLE or
DRAINING closes its mute; configuration words of an IDLE slice inside their ranges are stored; a gain in range becomes
the manual value of the slice's loop; a coefficient word of a bank that is open is stored. -/
def Obligations.SliceWrites : Prop :=
  ∀ (s : State) (src : Src) (w : Word),
    (∀ (n : Fin 192), Accepts s src.plain .SLC_CTL n.val 0 w → SLC_CTL.EN.bit w = true → (s.dev.slice n.val).st = .idle → (enableChecks s.env n.val s.dev).2 = true →
      exec (.sliceEnable src n w) s = .next (s.written src.plain .SLC_CTL n.val 0 w (fun d => dozeLeave n.val (if SLC_CTL.FMUTE.bit w then muteForce n.val (enableSlice s.env src.plain n.val d) else enableSlice s.env src.plain n.val d)))) ∧
    (∀ (n : Fin 192), Accepts s src.plain .SLC_CTL n.val 0 w → SLC_CTL.EN.bit w = false →
      exec (.sliceDisable src n w) s = .next (s.written src.plain .SLC_CTL n.val 0 w (fun d => dozeLeave n.val (if SLC_CTL.FMUTE.bit w then muteForce n.val (setMark (msetOf d n.val) (disableSlice s.env n.val d)) else setMark (msetOf d n.val) (disableSlice s.env n.val d))))) ∧
    (∀ (n : Fin 192), Accepts s src.plain .SLC_CTL n.val 0 w → SLC_CTL.EN.bit w = true → SLC_CTL.FMUTE.bit w = true → (s.dev.slice n.val).st ≠ .idle → (s.dev.slice n.val).st ≠ .draining →
      exec (.sliceForcedMute src n w) s = .next (s.written src.plain .SLC_CTL n.val 0 w (fun d => dozeLeave n.val (muteForce n.val d)))) ∧
    (∀ (n : Fin 192), Accepts s src.plain .SLC_CFG0 n.val 0 w → (s.dev.slice n.val).st = .idle → SLC_CFG0.WIDTH.of w ≠ 3 → SLC_CFG0.MSET.of w ≤ 191 → routeOk (SLC_CFG0.DIR.bit w) (SLC_CFG0.SRC.of w) (SLC_CFG0.SINK.of w) = true →
      exec (.sliceCfgWrite src n .cfg0 w) s = .next (s.written src.plain .SLC_CFG0 n.val 0 w (id))) ∧
    (∀ (n : Fin 192), Accepts s src.plain .SLC_CFG1 n.val 0 w → (s.dev.slice n.val).st = .idle → SLC_CFG1.FLEN.of w % 2 = 1 →
      exec (.sliceCfgWrite src n .cfg1 w) s = .next (s.written src.plain .SLC_CFG1 n.val 0 w (id))) ∧
    (∀ (n : Fin 192), Accepts s src.plain .SLC_NCO_RX n.val 0 w → (s.dev.slice n.val).st = .idle →
      exec (.sliceCfgWrite src n .ncoRx w) s = .next (s.written src.plain .SLC_NCO_RX n.val 0 w (id))) ∧
    (∀ (n : Fin 192), Accepts s src.plain .SLC_NCO_TX n.val 0 w → (s.dev.slice n.val).st = .idle →
      exec (.sliceCfgWrite src n .ncoTx w) s = .next (s.written src.plain .SLC_NCO_TX n.val 0 w (id))) ∧
    (∀ (n : Fin 192), Accepts s src.plain .SLC_GAIN n.val 0 w → -3000 ≤ SLC_GAIN.GAIN.int w → SLC_GAIN.GAIN.int w ≤ 6000 →
      exec (.sliceGainWrite src n w) s = .next (s.written src.plain .SLC_GAIN n.val 0 w (fun d => d.setLoop n.val { d.loop n.val with man := some (SLC_GAIN.GAIN.int w), manGo := (d.loop n.val).manGo || (d.loop n.val).mode = .open_ }))) ∧
    (∀ (n : Fin 192) (k : Fin 64), Accepts s src.plain .SLC_COEF_A n.val k.val w → bankOpen s.dev n.val false = true →
      exec (.coefWrite src n false k w) s = .next (s.written src.plain .SLC_COEF_A n.val k.val w (id))) ∧
    (∀ (n : Fin 192) (k : Fin 64), Accepts s src.plain .SLC_COEF_B n.val k.val w → bankOpen s.dev n.val true = true →
      exec (.coefWrite src n true k w) s = .next (s.written src.plain .SLC_COEF_B n.val k.val w (id)))

/-- POOL_CAP_CFG takes or releases its blocks; an SLC_LAT word inside R148 that changes LAT is charged and taken at the next
boundary; SLC_GLZ_CTL.SWAP asks for a swap on the slice or, with SET, on every enabled slice of its set, each other
member with its own triple in the journal; SLC_SPARE_CTL.GO queues a move or a return. -/
def Obligations.PoolAndGlazeWrites : Prop :=
  ∀ (s : State) (src : Src) (w : Word),
    (Accepts s src.plain .POOL_CAP_CFG 0 0 w → POOL_CAP_CFG.ARM.bit w = true → ruleCapture s.env { by_ := src.plain, i := 0, j := 0, w := w } s.dev = .take →
      exec (.captureArm src w) s = .next (s.written src.plain .POOL_CAP_CFG 0 0 w (fun d => { d with pool := { d.pool with cap := { blocks := POOL_CAP_CFG.BLOCKS.of w, armed := true } } }))) ∧
    (Accepts s src.plain .POOL_CAP_CFG 0 0 w → POOL_CAP_CFG.ARM.bit w = false → POOL_CAP_CFG.REL.bit w = true → POOL_CAP_CFG.POINT.of w ≠ 3 → POOL_CAP_CFG.TRIG.of w ≠ 3 →
      exec (.captureRelease src w) s = .next (s.written src.plain .POOL_CAP_CFG 0 0 w (fun d => { d with pool := { d.pool with cap := {} } }))) ∧
    (∀ (ul : Bool), Accepts s src.plain .SLC_LAT (if ul then 1 else 0) 0 w → ruleLat s.env { by_ := src.plain, i := if ul then 1 else 0, j := 0, w := w } s.dev = .take →
      exec (.latencyWrite src ul w) s = .next (s.written src.plain .SLC_LAT (if ul then 1 else 0) 0 w (actLat { by_ := src.plain, i := if ul then 1 else 0, j := 0, w := w } (s.dev.reg .SLC_LAT (if ul then 1 else 0) 0)))) ∧
    (∀ (n : Fin 192), Accepts s src.plain .SLC_GLZ_CTL n.val 0 w → SLC_GLZ_CTL.SWAP.bit w = true → SLC_GLZ_CTL.SET.bit w = false → 64 ≤ SLC_GLZ_CTL.LEN.of w → SLC_GLZ_CTL.LEN.of w ≤ 4096 →
      exec (.glazeSwapRequest src n w) s = .next (s.written src.plain .SLC_GLZ_CTL n.val 0 w (glazeRequest s.env src.plain (SLC_GLZ_CTL.LEN.of w) n.val))) ∧
    (∀ (n : Fin 192), Accepts s src.plain .SLC_GLZ_CTL n.val 0 w → SLC_GLZ_CTL.SWAP.bit w = true → SLC_GLZ_CTL.SET.bit w = true → 64 ≤ SLC_GLZ_CTL.LEN.of w → SLC_GLZ_CTL.LEN.of w ≤ 4096 →
      exec (.glazeSetSwapRequest src n w) s = .next (s.written src.plain .SLC_GLZ_CTL n.val 0 w (fun d => forL (setMembers d (msetOf d n.val)) (fun k d => glazeRequest s.env src.plain (SLC_GLZ_CTL.LEN.of w) k (Dev.put (if k = n.val then d else journalAdd { addr := RegName.SLC_GLZ_CTL.addr k 0, old := (d.reg .SLC_GLZ_CTL k).toNat, new := w.toNat } d) SLC_GLZ_CTL.LEN k (SLC_GLZ_CTL.LEN.of w))) d))) ∧
    (Accepts s src.plain .SLC_SPARE_CTL 0 0 w → SLC_SPARE_CTL.GO.bit w = true → SLC_SPARE_CTL.RET.bit w = false → ruleOf s.env .SLC_SPARE_CTL { by_ := src.plain, i := 0, j := 0, w := w } s.dev = .take →
      exec (.spareMove src w) s = .next (s.written src.plain .SLC_SPARE_CTL 0 0 w (spareRequest (SLC_SPARE_CTL.SLICE.of w) false))) ∧
    (Accepts s src.plain .SLC_SPARE_CTL 0 0 w → SLC_SPARE_CTL.GO.bit w = true → SLC_SPARE_CTL.RET.bit w = true → ruleOf s.env .SLC_SPARE_CTL { by_ := src.plain, i := 0, j := 0, w := w } s.dev = .take →
      exec (.spareReturn src w) s = .next (s.written src.plain .SLC_SPARE_CTL 0 0 w (spareRequest (SLC_SPARE_CTL.SLICE.of w) true)))

/-- CNL_CFG and CNL_BULK of a slice that is IDLE are stored; on a running slice they are taken over at the next boundary and
charged; CNL_CTL with CLR = 1 clears the canceller, and AUTO_FRZ with it, and freezes or releases it where FREEZE
changes; START asks for a probe run and ABORT ends one. A CNL_CTL word whose MARGIN lies below the Fixative minimum is
discarded whole and sets CNL_ERR.MARGIN. -/
def Obligations.CancellerWrites : Prop :=
  ∀ (s : State) (src : Src) (w : Word),
    (∀ (n : Fin 192), Accepts s src.plain .CNL_CFG n.val 0 w → ruleCnlCfg s.env { by_ := src.plain, i := n.val, j := 0, w := w } s.dev = .take →
      exec (.cnlCfgWrite src n false w) s = .next (s.written src.plain .CNL_CFG n.val 0 w (actCnlCfg .CNL_CFG { by_ := src.plain, i := n.val, j := 0, w := w }))) ∧
    (∀ (n : Fin 192), Accepts s src.plain .CNL_BULK n.val 0 w →
      exec (.cnlCfgWrite src n true w) s = .next (s.written src.plain .CNL_BULK n.val 0 w (actCnlCfg .CNL_BULK { by_ := src.plain, i := n.val, j := 0, w := w }))) ∧
    (∀ (n : Fin 192), Accepts s src.plain .CNL_CTL n.val 0 w → CNL_CTL.CLR.bit w = false → CNL_CTL.FREEZE.of w = CNL_CTL.FREEZE.of (s.dev.reg .CNL_CTL n.val 0) → CNL_CTL.HOLD_T.of w ≠ 0 → fixMargin s.env ≤ 10 * (CNL_CTL.MARGIN.of w : Int) →
      exec (.cnlCtlWrite src n w) s = .next (s.written src.plain .CNL_CTL n.val 0 w (id))) ∧
    (∀ (n : Fin 192), Accepts s src.plain .CNL_CTL n.val 0 w → CNL_CTL.CLR.bit w = true → CNL_CTL.FREEZE.of w = CNL_CTL.FREEZE.of (s.dev.reg .CNL_CTL n.val 0) → (s.dev.canc n.val).st ≠ .off → CNL_CTL.HOLD_T.of w ≠ 0 → fixMargin s.env ≤ 10 * (CNL_CTL.MARGIN.of w : Int) →
      exec (.cnlClear src n w) s = .next (s.written src.plain .CNL_CTL n.val 0 w (cnlClr n.val))) ∧
    (∀ (n : Fin 192), Accepts s src.plain .CNL_CTL n.val 0 w → CNL_CTL.CLR.bit w = false → CNL_CTL.FREEZE.of w ≠ CNL_CTL.FREEZE.of (s.dev.reg .CNL_CTL n.val 0) → CNL_CTL.HOLD_T.of w ≠ 0 → fixMargin s.env ≤ 10 * (CNL_CTL.MARGIN.of w : Int) →
      exec (.cnlFreeze src n w) s = .next (s.written src.plain .CNL_CTL n.val 0 w (cnlFreeze n.val (CNL_CTL.FREEZE.bit w)))) ∧
    (Accepts s src.plain .CNL_PRB_CTL 0 0 w → CNL_PRB_CTL.START.bit w = true → CNL_PRB_CTL.ABORT.bit w = false → CNL_PRB_CTL.INTERVAL.of w ≠ 0 →
      exec (.probeStart src w) s = .next (s.written src.plain .CNL_PRB_CTL 0 0 w (probeRequest))) ∧
    (Accepts s src.plain .CNL_PRB_CTL 0 0 w → CNL_PRB_CTL.START.bit w = false → CNL_PRB_CTL.ABORT.bit w = true → CNL_PRB_CTL.INTERVAL.of w ≠ 0 →
      exec (.probeAbort src w) s = .next (s.written src.plain .CNL_PRB_CTL 0 0 w (probeAbort))) ∧
    (∀ (n : Fin 192), Accepts s src.plain .CNL_CTL n.val 0 w → CNL_CTL.HOLD_T.of w ≠ 0 → 10 * (CNL_CTL.MARGIN.of w : Int) < fixMargin s.env →
      exec (.cnlCtlWrite src n w) s = .next (s.then_ (closeBatch s.env src.plain (s.dev.setBit CNL_ERR.MARGIN n.val))))

/-- A legal LOOP_CTL mode is wanted from the next boundary and takes the place of a return to the mode before HOLD;
REARM_OVR re-arms every loop held with CAUSE = OVR that may enter AUTO (the restriction is the model's reading, log
entry 68); an accepted LOOP_LUT word marks its table for one TABLE record; LOOP_SP is stored; STN_CFG attaches a Stencil
(it enters WAIT with its blocks) or releases it; RESTART clears its table and re-anchors. -/
def Obligations.LoopAndStencilWrites : Prop :=
  ∀ (s : State) (src : Src) (w : Word),
    (∀ (i : Fin 256), Accepts s src.plain .LOOP_CTL i.val 0 w → loopModeBad s.dev i.val w = false →
      exec (.loopModeWrite src i w) s = .next (s.written src.plain .LOOP_CTL i.val 0 w (fun d => d.setLoop i.val { d.loop i.val with want := some (modeOf w), back := false }))) ∧
    (Accepts s src.plain .LOOP_GCTL 0 0 w → LOOP_GCTL.REARM_OVR.bit w = true → s.dev.eng.ovrRun = 0 →
      exec (.loopRearmOvr src w) s = .next (s.written src.plain .LOOP_GCTL 0 0 w (rearmOvr))) ∧
    (∀ (t : Fin 32) (k : Fin 64), Accepts s src.plain .LOOP_LUT t.val k.val w →
      exec (.loopLutWrite src t k w) s = .next (s.written src.plain .LOOP_LUT t.val k.val w (fun d => { d with eng := { d.eng with dirty := sadd d.eng.dirty t.val, lutWords := d.eng.lutWords + 1 } }))) ∧
    (∀ (i : Fin 256), Accepts s src.plain .LOOP_SP i.val 0 w →
      exec (.loopSpWrite src i w) s = .next (s.written src.plain .LOOP_SP i.val 0 w (id))) ∧
    (∀ (n : Fin 32), Accepts s src.plain .STN_CFG n.val 0 w → STN_CFG.EN.bit w = true → s.dev.flag STN_CFG.EN n.val = false → (stencilAttach s.env n.val (STN_CFG.SLICE.of w) (STN_CFG.NP.of w) s.dev).2 = true →
      exec (.stencilAttach src n w) s = .next (s.written src.plain .STN_CFG n.val 0 w (fun d => (stencilAttach s.env n.val (STN_CFG.SLICE.of w) (STN_CFG.NP.of w) d).1))) ∧
    (∀ (n : Fin 32), Accepts s src.plain .STN_CFG n.val 0 w → STN_CFG.EN.bit w = false → s.dev.flag STN_CFG.EN n.val = true → ({ by_ := src.plain, i := n.val, j := 0, w := w } : Wr).changes s.dev STN_CFG.SLICE = false → ({ by_ := src.plain, i := n.val, j := 0, w := w } : Wr).changes s.dev STN_CFG.NP = false →
      exec (.stencilDetach src n w) s = .next (s.written src.plain .STN_CFG n.val 0 w (stencilOff s.env n.val))) ∧
    (∀ (n : Fin 32), Accepts s src.plain .STN_CTL n.val 0 w → STN_CTL.RESTART.bit w = true → stnCtlOk w = true →
      exec (.stencilRestart src n w) s = .next (s.written src.plain .STN_CTL n.val 0 w (stencilWait s.env n.val)))

/-- CRV_CTL with FLUSH = 1 or EN = 0 and a HORIZON in range unwinds every epoch; enabling a template that passes R247
journals it as one TABLE record, and clearing EN ends its contradicted run; CRV_DIR_GO queues the direct action in an
epoch of its own. -/
def Obligations.CarveWrites : Prop :=
  ∀ (s : State) (src : Src) (w : Word),
    (Accepts s src.plain .CRV_CTL 0 0 w → CRV_CTL.FLUSH.bit w = true → 4 ≤ CRV_CTL.HORIZON.of w → CRV_CTL.HORIZON.of w ≤ 640 →
      exec (.carveFlush src w) s = .next (s.written src.plain .CRV_CTL 0 0 w (unwindWhere (fun _ => true)))) ∧
    (Accepts s src.plain .CRV_CTL 0 0 w → CRV_CTL.EN.bit w = false → 4 ≤ CRV_CTL.HORIZON.of w → CRV_CTL.HORIZON.of w ≤ 640 →
      exec (.carveDisable src w) s = .next (s.written src.plain .CRV_CTL 0 0 w (unwindWhere (fun _ => true)))) ∧
    (∀ (m : Fin 64), Accepts s src.plain .CRV_TPL_CFG m.val 0 w → CRV_TPL_CFG.EN.bit w = true → ruleTemplate { by_ := src.plain, i := m.val, j := 0, w := w } s.dev = .take →
      exec (.templateEnable src m w) s = .next (s.written src.plain .CRV_TPL_CFG m.val 0 w (fun d => journalTable s.env src.plain (RegName.CRV_ACT_A.addr (CRV_TPL_CFG.FIRST.of w) 0) (RegName.CRV_ACT_C.addr (CRV_TPL_CFG.FIRST.of w + CRV_TPL_CFG.NACT.of w) 0 + 3) (crcWords (templateWords d m.val)) false d))) ∧
    (∀ (m : Fin 64), Accepts s src.plain .CRV_TPL_CFG m.val 0 w → CRV_TPL_CFG.EN.bit w = false →
      exec (.templateDisable src m w) s = .next (s.written src.plain .CRV_TPL_CFG m.val 0 w (setTplRun s.env m.val 0))) ∧
    (∀ (ofs : Nat), Accepts { s with dev := s.dev.atOfs ofs } src.plain .CRV_DIR_GO 0 0 w → CRV_DIR_GO.GO.bit w = true → ruleDirect s.env { by_ := src.plain, i := 0, j := 0, w := w } (s.dev.atOfs ofs) = .take →
      exec (.directActionGo src w ofs) s = .next (State.written { s with dev := s.dev.atOfs ofs } src.plain .CRV_DIR_GO 0 0 w (fun d => (openEpoch s.env (directEpoch d) d).1)))

/-- A Patrol configuration word in range and no looser than the Fixative is stored, and a looser or out-of-range one is
discarded; PTL_CTL.STOP starts a STOP with cause LOCAL from any origin; SREL releases a latched slice mute; an
authorised PTL_REL word meets the release of STOP causes or of direction mutes. -/
def Obligations.PatrolWrites : Prop :=
  ∀ (s : State) (src : Src) (w : Word),
    (∀ (r : PtlCfg), Accepts s src.plain (ptlRegOf r) 0 0 w → ptlCfgOk s.env (ptlRegOf r) w = true →
      exec (.patrolCfgWrite src r w) s = .next (s.written src.plain (ptlRegOf r) 0 0 w (id))) ∧
    (∀ (r : PtlCfg), Accepts s src.plain (ptlRegOf r) 0 0 w → ptlCfgOk s.env (ptlRegOf r) w = false →
      exec (.patrolCfgWrite src r w) s = .next (s.then_ (closeBatch s.env src.plain s.dev))) ∧
    (Accepts s src.plain .PTL_CTL 0 0 w → PTL_CTL.STOP.bit w = true → PTL_CTL.SREL.bit w = false →
      exec (.patrolLocalStop src w) s = .next (s.written src.plain .PTL_CTL 0 0 w (stopFor s.env .local_))) ∧
    (Accepts s src.plain .PTL_CTL 0 0 w → PTL_CTL.STOP.bit w = false → PTL_CTL.SREL.bit w = true → PTL_CTL.SLICE.of w ≤ 191 →
      exec (.patrolSliceRelease src w) s = .next (s.written src.plain .PTL_CTL 0 0 w (patrolSrel (PTL_CTL.SLICE.of w)))) ∧
    (∀ (role : Role), Accepts s (src.auth role) .PTL_REL 0 0 w → PTL_REL.REL_STOP.bit w = true → PTL_REL.REL_DL.bit w = false → PTL_REL.REL_UL.bit w = false →
      exec (.patrolRelStop src role w) s = .next (s.written (src.auth role) .PTL_REL 0 0 w (fun d => stopMet (relStopMeets d src.origin) d))) ∧
    (∀ (role : Role), Accepts s (src.auth role) .PTL_REL 0 0 w → PTL_REL.REL_STOP.bit w = false → PTL_REL.REL_DL.bit w = true → PTL_REL.REL_UL.bit w = false →
      exec (.patrolRelDl src role w) s = .next (s.written (src.auth role) .PTL_REL 0 0 w (patrolRelDir false))) ∧
    (∀ (role : Role), Accepts s (src.auth role) .PTL_REL 0 0 w → PTL_REL.REL_STOP.bit w = false → PTL_REL.REL_DL.bit w = false → PTL_REL.REL_UL.bit w = true →
      exec (.patrolRelUl src role w) s = .next (s.written (src.auth role) .PTL_REL 0 0 w (patrolRelDir true)))

/-- A claim that R286 accepts marks its entry claimed; an acknowledgement that R283 accepts frees its entry (a SAFETY entry
only under authority); ALL frees every entry neither live nor SAFETY; an acknowledgement names the entries whose fault
occurs again in its own core cycle, and of those it frees none; a heartbeat of the firmware arms supervision and ends a
lost heartbeat; an injection in factory test mode reports, raises or clears its fault. -/
def Obligations.FaultWrites : Prop :=
  ∀ (s : State) (src : Src) (w : Word),
    (Accepts s src.plain .FLT_CLAIM 0 0 w → FLT_CLAIM.CLAIM.bit w = true → (claimTry (FLT_CLAIM.IDX.of w) s.dev).2 = true →
      exec (.faultClaim src w) s = .next (s.written src.plain .FLT_CLAIM 0 0 w (fun d => (claimTry (FLT_CLAIM.IDX.of w) d).1))) ∧
    (∀ (z : State), ∀ same : List (Fin 128), z = s.withSame (same.map (·.val)) → Accepts z src.plain .FLT_ACK 0 0 w → FLT_ACK.ACK.bit w = true → FLT_ACK.ALL.bit w = false → (ackTry false (FLT_ACK.IDX.of w) z.dev).2 = true →
      exec (.faultAck src ⟨w, same⟩) s = .next ((z.written src.plain .FLT_ACK 0 0 w (fun d => (ackTry false (FLT_ACK.IDX.of w) d).1)).withSame [])) ∧
    (∀ (z : State), ∀ same : List (Fin 128), z = s.withSame (same.map (·.val)) → Accepts z src.plain .FLT_ACK 0 0 w → FLT_ACK.ACK.bit w = false → FLT_ACK.ALL.bit w = true →
      exec (.faultAckAll src ⟨w, same⟩) s = .next ((z.written src.plain .FLT_ACK 0 0 w (ackAll)).withSame [])) ∧
    (∀ (role : Role) (z : State), ∀ same : List (Fin 128), z = s.withSame (same.map (·.val)) → Accepts z (src.auth role) .FLT_ACKA 0 0 w → FLT_ACKA.ACK.bit w = true → (ackTry true (FLT_ACKA.IDX.of w) z.dev).2 = true →
      exec (.faultAckAuth src role ⟨w, same⟩) s = .next ((z.written (src.auth role) .FLT_ACKA 0 0 w (fun d => (ackTry true (FLT_ACKA.IDX.of w) d).1)).withSame [])) ∧
    (Accepts s src.plain .FLT_HB 0 0 w → src.origin = .firmware →
      exec (.heartbeatWrite src w) s = .next (s.written src.plain .FLT_HB 0 0 w (heartbeat))) ∧
    (Accepts s src.plain .TST_FINJ 0 0 w → TST_FINJ.GO.bit w = true → TST_FINJ.MODE.of w = 0 → Ev.isIdentity (TST_FINJ.CODE.of w) = true →
      exec (.faultInjectEvent src w) s = .next (s.written src.plain .TST_FINJ 0 0 w (fun d => occur s.env d (TST_FINJ.CODE.of w) (TST_FINJ.INST.of w) { by_ := { origin := .factory }, inj := true }))) ∧
    (Accepts s src.plain .TST_FINJ 0 0 w → TST_FINJ.GO.bit w = true → TST_FINJ.MODE.of w = 1 → Ev.isIdentity (TST_FINJ.CODE.of w) = true →
      exec (.faultInjectRaise src w) s = .next (s.written src.plain .TST_FINJ 0 0 w (inject s.env w))) ∧
    (Accepts s src.plain .TST_FINJ 0 0 w → TST_FINJ.GO.bit w = true → TST_FINJ.MODE.of w = 2 → Ev.isIdentity (TST_FINJ.CODE.of w) = true →
      exec (.faultInjectClear src w) s = .next (s.written src.plain .TST_FINJ 0 0 w (fun d => dropLive d (TST_FINJ.CODE.of w) (TST_FINJ.INST.of w))))

/-- REC_CTL.FLUSH starts a flush; REC_MARK_GO records a TIME_MARK; an authorised REC_CLR with no clear in progress asks for
the clear of the area it names, the Varnish area by FACTORY alone. -/
def Obligations.RecorderWrites : Prop :=
  ∀ (s : State) (src : Src) (w : Word),
    (Accepts s src.plain .REC_CTL 0 0 w → REC_CTL.FLUSH.bit w = true →
      exec (.recorderFlushCmd src w) s = .next (s.written src.plain .REC_CTL 0 0 w (startFlush false))) ∧
    (Accepts s src.plain .REC_MARK_GO 0 0 w → REC_MARK_GO.GO.bit w = true →
      exec (.timeMark src w) s = .next (s.written src.plain .REC_MARK_GO 0 0 w (timeMark s.env src.plain))) ∧
    (Accepts s (src.auth .factory) .REC_CLR 0 0 w → REC_CLR.CLR_V.bit w = true → REC_CLR.CLR_P.bit w = false → s.dev.rcd.clrBusy = [] →
      exec (.varnishClear src .factory w) s = .next (s.written (src.auth .factory) .REC_CLR 0 0 w (clearRequest (src.auth .factory) .varnish))) ∧
    (∀ (role : Role), Accepts s (src.auth role) .REC_CLR 0 0 w → REC_CLR.CLR_V.bit w = false → REC_CLR.CLR_P.bit w = true → s.dev.rcd.clrBusy = [] →
      exec (.paletteClear src role w) s = .next (s.written (src.auth role) .REC_CLR 0 0 w (clearRequest (src.auth role) .palette)))

/-- BDAC_CFG enables or disables its channel by the channel's state; BDAC_CODE gives an immediate code or a pending one;
BDAC_LOAD strobes the channels it names, so that those of them with UPD = 0b01 load at the next update tick beside those
already marked; ARM arms the load timer; GO starts a span change; BDAC_SINE starts the sine of a channel that neither
parks, is PARKED, changes span nor is under a park cause (model choice there, log entry 208) at phase 0, one that runs
already too, or stops it. -/
def Obligations.BdacWrites : Prop :=
  ∀ (s : State) (src : Src) (w : Word),
    (∀ (c : Fin 48), Accepts s src.plain .BDAC_CFG c.val 0 w → BDAC_CFG.EN.bit w = true → ruleSystem .BDAC_CFG { by_ := src.plain, i := c.val, j := 0, w := w } s.dev = .take →
      exec (.bdacEnable src c w) s = .next (s.written src.plain .BDAC_CFG c.val 0 w (actBdacCfg c.val (s.dev.reg .BDAC_CFG c.val 0) w))) ∧
    (∀ (c : Fin 48), Accepts s src.plain .BDAC_CFG c.val 0 w → BDAC_CFG.EN.bit w = false → ruleSystem .BDAC_CFG { by_ := src.plain, i := c.val, j := 0, w := w } s.dev = .take →
      exec (.bdacDisable src c w) s = .next (s.written src.plain .BDAC_CFG c.val 0 w (actBdacCfg c.val (s.dev.reg .BDAC_CFG c.val 0) w))) ∧
    (∀ (c : Fin 48), Accepts s src.plain .BDAC_CODE c.val 0 w → loopDriven s.dev c.val = false →
      exec (.bdacCodeWrite src c w) s = .next (s.written src.plain .BDAC_CODE c.val 0 w (fun d => if d.get BDAC_CFG.UPD c.val = 0 then d.setChan c.val { d.chan c.val with imm := some (BDAC_CODE.CODE.of w) } else d.setChan c.val { d.chan c.val with pcode := BDAC_CODE.CODE.of w, pend := true }))) ∧
    (Accepts s src.plain .BDAC_LOAD0 0 0 w →
      exec (.bdacStrobe src false w) s = .next (s.written src.plain .BDAC_LOAD0 0 0 w (strobe (fun c => decide (c < 32) && bitOf w.toNat c)))) ∧
    (Accepts s src.plain .BDAC_LOAD1 0 0 w → BDAC_LOAD1.ALL.bit w = false →
      exec (.bdacStrobe src true w) s = .next (s.written src.plain .BDAC_LOAD1 0 0 w (strobe (fun c => decide (32 ≤ c) && bitOf w.toNat (c - 32))))) ∧
    (Accepts s src.plain .BDAC_LOAD1 0 0 w → BDAC_LOAD1.ALL.bit w = true →
      exec (.bdacStrobeAll src w) s = .next (s.written src.plain .BDAC_LOAD1 0 0 w (strobe (fun _ => true)))) ∧
    (∀ (ofs : Nat), Accepts { s with dev := s.dev.atOfs ofs } src.plain .BDAC_TT_CTL 0 0 w → BDAC_TT_CTL.ARM.bit w = true → towNow (s.dev.atOfs ofs) ≤ timerTime s.dev →
      exec (.bdacTimerArm src w ofs) s = .next (State.written { s with dev := s.dev.atOfs ofs } src.plain .BDAC_TT_CTL 0 0 w (fun d => { d with bdac := { d.bdac with ttDone := false } }))) ∧
    (∀ (c : Fin 48), Accepts s src.plain .BDAC_SPAN c.val 0 w → BDAC_SPAN.GO.bit w = true → ruleSystem .BDAC_SPAN { by_ := src.plain, i := c.val, j := 0, w := w } s.dev = .take →
      exec (.bdacSpanChange src c w) s = .next (s.written src.plain .BDAC_SPAN c.val 0 w (fun d => (spanChange c.val (BDAC_SPAN.SPAN.of w) (BDAC_SPAN.PARK_NEW.of w) (BDAC_SPAN.CODE_NEW.of w) d).1))) ∧
    (∀ (c : Fin 48), Accepts s src.plain .BDAC_SINE c.val 0 w → BDAC_SINE.RUN.bit w = true → probeOn s.dev c.val = false → 1 ≤ BDAC_SINE.FREQ.of w → BDAC_SINE.FREQ.of w ≤ 100000 → s.dev.flag BDAC_CFG.MODE c.val = true → (s.dev.chan c.val).pcause = [] → (s.dev.chan c.val).st ≠ .parking → (s.dev.chan c.val).st ≠ .parked → (s.dev.chan c.val).st ≠ .span →
      exec (.bdacSineStart src c w) s = .next (s.written src.plain .BDAC_SINE c.val 0 w (fun d => d.setChan c.val { d.chan c.val with sineOn := true, sineStop := false, acc := 0, moved := true, probe := none }))) ∧
    (∀ (c : Fin 48), Accepts s src.plain .BDAC_SINE c.val 0 w → BDAC_SINE.RUN.bit w = false → probeOn s.dev c.val = false → 1 ≤ BDAC_SINE.FREQ.of w → BDAC_SINE.FREQ.of w ≤ 100000 → (s.dev.chan c.val).sineOn = true →
      exec (.bdacSineStop src c w) s = .next (s.written src.plain .BDAC_SINE c.val 0 w (fun d => d.setChan c.val { d.chan c.val with sineStop := true }))) ∧
    (∀ (which : Nat → Bool) (c : Nat), c ∈ (strobe which s.dev).bdac.load ↔ c ∈ s.dev.bdac.load ∨ (c < 48 ∧ which c = true ∧ s.dev.get BDAC_CFG.UPD c = 1))

/-- THM_CFG inside R348 is stored; SLEEP asks for the sleep sequence; an authorised WARM requests a warm restart; COMMIT
starts a configuration commit; an authorised DISCARD marks retained configuration to be passed over; an authorised GO
schedules a handover to the READY pair, behind an authorised command in hand (R395); OPEN reserves LEN blocks, ABORT
releases them. -/
def Obligations.SystemWrites : Prop :=
  ∀ (s : State) (src : Src) (w : Word),
    (Accepts s src.plain .THM_CFG 0 0 w → thmCfgOk w = true →
      exec (.thmCfgWrite src w) s = .next (s.written src.plain .THM_CFG 0 0 w (id))) ∧
    (Accepts s src.plain .PWR_CTL 0 0 w → PWR_CTL.SLEEP.bit w = true → s.dev.rcd.clrBusy = [] → bitOf s.dev.boot.straps 4 = false → noWake s.dev = false →
      exec (.sleepRequest src w) s = .next (s.written src.plain .PWR_CTL 0 0 w (sleepRequest))) ∧
    (∀ (role : Role), Accepts s (src.auth role) .SUP_CTL 0 0 w → SUP_CTL.WARM.bit w = true →
      exec (.supCtlWarm src role w) s = .next (s.written (src.auth role) .SUP_CTL 0 0 w (fun d => { d with boot := { d.boot with warmReq := true } }))) ∧
    (Accepts s src.plain .CAL_RET_CTL 0 0 w → CAL_RET_CTL.COMMIT.bit w = true → CAL_RET_CTL.DISCARD.bit w = false → 4 ≤ CAL_RET_CTL.COMMIT_INT.of w →
      exec (.retainedCommitCmd src w) s = .next (s.written src.plain .CAL_RET_CTL 0 0 w (commitStart))) ∧
    (∀ (role : Role), Accepts s (src.auth role) .CAL_RET_CTL 0 0 w → CAL_RET_CTL.DISCARD.bit w = true → CAL_RET_CTL.COMMIT.bit w = false → 4 ≤ CAL_RET_CTL.COMMIT_INT.of w →
      exec (.retainedDiscard src role w) s = .next (s.written (src.auth role) .CAL_RET_CTL 0 0 w (fun d => d.modRet fun r => { r with disc := true }))) ∧
    (∀ (role : Role) (ofs : Nat), Accepts { s with dev := s.dev.atOfs ofs } (src.auth role) .SUP_HO_CTL 0 0 w → SUP_HO_CTL.GO.bit w = true → (pairIn s.dev .ready).isSome = true → s.dev.sup.pend = false →
      exec (.handoverGo src role w ofs) s = .next (State.written { s with dev := s.dev.atOfs ofs } (src.auth role) .SUP_HO_CTL 0 0 w (fun d => d.modSup fun x => { x with pend := true, held := s.dev.auth.submit.isSome }))) ∧
    (Accepts s src.plain .SUP_AUTH_CTL 0 0 w → SUP_AUTH_CTL.OPEN.bit w = true → SUP_AUTH_CTL.SUBMIT.bit w = false → SUP_AUTH_CTL.ABORT.bit w = false → 1 ≤ SUP_AUTH_CTL.LEN.of w → SUP_AUTH_CTL.LEN.of w ≤ 160 → s.dev.authBlocks = 0 → s.dev.auth.submit = none →
      exec (.authOpen src w) s = .next (s.written src.plain .SUP_AUTH_CTL 0 0 w (authOpen s.env (SUP_AUTH_CTL.LEN.of w)))) ∧
    (Accepts s src.plain .SUP_AUTH_CTL 0 0 w → SUP_AUTH_CTL.OPEN.bit w = false → SUP_AUTH_CTL.SUBMIT.bit w = false → SUP_AUTH_CTL.ABORT.bit w = true → s.dev.auth.submit = none →
      exec (.authAbort src w) s = .next (s.written src.plain .SUP_AUTH_CTL 0 0 w (authRelease)))

/-- ENUM enumerates, GO promotes, SEND sends the mailbox frame, POP drops the frame shown, TOW_TIME_SET_GO sets Tow time
from its two words as a step, and REL releases the pair token. -/
def Obligations.TowWrites : Prop :=
  ∀ (s : State) (src : Src) (w : Word),
    (Accepts s src.plain .TOW_HEAD_CTL 0 0 w → TOW_HEAD_CTL.ENUM.bit w = true →
      exec (.towEnumCmd src w) s = .next (s.written src.plain .TOW_HEAD_CTL 0 0 w (enumerate s.env none))) ∧
    (Accepts s src.plain .TOW_HEAD_PROM 0 0 w → TOW_HEAD_PROM.GO.bit w = true →
      exec (.towPromoteCmd src w) s = .next (s.written src.plain .TOW_HEAD_PROM 0 0 w (promote s.env (TOW_HEAD_PROM.SPARE.of w) (TOW_HEAD_PROM.TARGET.of w)))) ∧
    (Accepts s src.plain .TOW_HEAD_MBX 0 0 w → TOW_HEAD_MBX.SEND.bit w = true → TOW_HEAD_MBX.POP.bit w = false →
      exec (.towMbxSend src w) s = .next (s.written src.plain .TOW_HEAD_MBX 0 0 w (mailboxSend s.env))) ∧
    (Accepts s src.plain .TOW_HEAD_MBX 0 0 w → TOW_HEAD_MBX.SEND.bit w = false → TOW_HEAD_MBX.POP.bit w = true →
      exec (.towMbxPop src w) s = .next (s.written src.plain .TOW_HEAD_MBX 0 0 w (mailboxPop))) ∧
    (∀ (ofs : Nat), Accepts { s with dev := s.dev.atOfs ofs } src.plain .TOW_TIME_SET_GO 0 0 w → TOW_TIME_SET_GO.GO.bit w = true →
      exec (.towTimeSet src w ofs) s = .next (State.written { s with dev := s.dev.atOfs ofs } src.plain .TOW_TIME_SET_GO 0 0 w (towTimeSet s.env))) ∧
    (Accepts s src.plain .TOW_PAIR_CTL 0 0 w → TOW_PAIR_CTL.REL.bit w = true →
      exec (.pairTokenRelease src w) s = .next (s.written src.plain .TOW_PAIR_CTL 0 0 w (tokenRel)))

/-- In reset with TEST_MODE low, EXTEST drives its cells and SAMPLE/PRELOAD captures the pins, and otherwise they act as
BYPASS; IDCODE and BYPASS act always, BYPASS for every code that names no available instruction. That EXTEST and
SAMPLE/PRELOAD act as BYPASS in reset with TEST_MODE high, and that TEST_MODE is its level then, is the model's reading
of R13 (log entries 140 and 163). With the core running and debug access open, Update-DR starts an access, one begun
while another is in progress is discarded and leaves that one and DONE as they are, Capture-DR loads DONE, RESULT and
the data, and a completed read or write sets DONE with its RESULT. The identification word is an opaque constant (log
entry 20). -/
def Obligations.JtagPort : Prop :=
  ∀ (s : State), 
    (∀ cells, s.dev.pwr.inReset = true →
      exec (.extest { cells := cells, testMode := false }) s = .next { s with dev := { s.dev with jtag := { s.dev.jtag with ir := .extest, cells := cells, drive := some cells } } }) ∧
    (∀ pins cells, s.dev.pwr.inReset = true → scanLevel pins (.strap 4) = false →
      exec (.samplePreload pins cells) s = .next { s with dev := { s.dev with jtag := { s.dev.jtag with ir := .sample, scan := pins, cells := cells, drive := none } } }) ∧
    (exec (.idcode) s = .next (s.then_ ({ s.dev with jtag := { s.dev.jtag with ir := .idcode, idWord := some Config.idcode, drive := none } }))) ∧
    (∀ code tdi, bypassCode s.dev tdi.testMode code.val = true → exec (.bypass code tdi) s = .next (s.then_ ({ s.dev with jtag := { s.dev.jtag with ir := .bypass, bypassBit := tdi.tdi, drive := none } }))) ∧
    (∀ x, scanOpen s.dev x.testMode = false → exec (.extest x) s = .next (s.then_ ({ s.dev with jtag := { s.dev.jtag with ir := .bypass, bypassBit := false, drive := none } }))) ∧
    (∀ pins cells, scanOpen s.dev (scanLevel pins (.strap 4)) = false → exec (.samplePreload pins cells) s = .next (s.then_ ({ s.dev with jtag := { s.dev.jtag with ir := .bypass, bypassBit := false, drive := none } }))) ∧
    (∀ a w, accessOpen s.dev = true → s.dev.jtag.acc = none → exec (.regAccessWrite a w) s = .next (s.then_ ({ s.dev with jtag := { s.dev.jtag with ir := .regAccess, drive := none, acc := some (true, a.toNat, w), done := false } }))) ∧
    (∀ a, accessOpen s.dev = true → s.dev.jtag.acc = none → exec (.regAccessRead a) s = .next (s.then_ ({ s.dev with jtag := { s.dev.jtag with ir := .regAccess, drive := none, acc := some (false, a.toNat, 0#32), done := false } }))) ∧
    (∀ a w, accessOpen s.dev = true → s.dev.jtag.acc.isSome = true → exec (.regAccessWrite a w) s = .next (s.then_ ({ s.dev with jtag := { s.dev.jtag with ir := .regAccess, drive := none } }))) ∧
    (∀ a, accessOpen s.dev = true → s.dev.jtag.acc.isSome = true → exec (.regAccessRead a) s = .next (s.then_ ({ s.dev with jtag := { s.dev.jtag with ir := .regAccess, drive := none } }))) ∧
    (accessOpen s.dev = true → exec (.regAccessCapture) s = .next (s.then_ ({ s.dev with jtag := { s.dev.jtag with dr := (s.dev.jtag.done && s.dev.jtag.acc.isNone, s.dev.jtag.result, s.dev.jtag.data) } }))) ∧
    (∀ a w, Running s → s.dev.jtag.acc = some (true, a, w) → exec (.regAccessDone) s = .next (s.then_ (let x := writeWord s.env { origin := .debug } a w (s.dev.modJtag fun j => { j with acc := none })
        (closeBatch s.env { origin := .debug } x.d).modJtag fun j => { j with acc := none, done := true, result := x.res, data := 0#32 }))) ∧
    (∀ a, Running s → s.dev.jtag.acc = some (false, a, 0#32) → a % 4 = 0 → exec (.regAccessDone) s = .next (s.then_ ((readReg s.env a s.dev).1.modJtag fun j => { j with acc := none, done := true, result := 0, data := (readReg s.env a s.dev).2 }))) ∧
    (∀ a, Running s → s.dev.jtag.acc = some (false, a, 0#32) → a % 4 ≠ 0 → exec (.regAccessDone) s = .next (s.then_ (s.dev.modJtag fun j => { j with acc := none, done := true, result := 3, data := 0#32 })))

/-- A read of an occupied register changes no state, but: LDG_OPT_LO latches LDG_OPT_HI, TOW_TIME_LO latches TOW_TIME_HI,
SYN_RFFE_RD[m] clears its VALID, and POOL_CAP_WIN counts as bulk traffic of the period. A read of an unoccupied address
returns 0 and reports ADDR_UNMAPPED. A snapshot or gather read (peek) is a function of the state alone and returns what
the read returns. -/
def Obligations.ReadsChangeNothingElse : Prop :=
  ∀ (e : Env) (d : Dev) (a : Nat), a % 4 = 0 →
    (occupant e d a = none → readReg e a d = (report e d (Ev.addrUnmapped (unmappedSrc e a)) 0xFF 0, 0#32) ∧ peek e d a = 0#32) ∧
    (∀ r, occupant e d a = some r → (readReg e a d).2 = peek e d a ∧
      (r.name = .LDG_OPT_LO → (readReg e a d).1 = { d with hiOpt := e.opt / 2 ^ 32 }) ∧
      (r.name = .TOW_TIME_LO → (readReg e a d).1 = { d with hiTow := towNow d / 2 ^ 32 % 2 ^ 32 }) ∧
      (r.name = .SYN_RFFE_RD → (readReg e a d).1 = d.setRffe r.i { d.rffeM r.i with rdValid := false }) ∧
      (r.name = .POOL_CAP_WIN → (readReg e a d).1 = { d with eng := { d.eng with bulk := true } }) ∧
      (r.name ≠ .LDG_OPT_LO → r.name ≠ .TOW_TIME_LO → r.name ≠ .SYN_RFFE_RD → r.name ≠ .POOL_CAP_WIN → (readReg e a d).1 = d))

/-- UNMAPPED_READ, LDG_OPT_LO_READ and TOW_TIME_LO_READ answer the word of the read and leave the state the read leaves. A
write transaction to a word address applies its words at rising addresses as one batch and answers the status word of
the transaction before; its RESULT and count of discarded words follow, RESULT 0x03 where the last word was cut. A read
transaction of a running device with no handover answers the status word, a zero wait word and N + 1 words, with RESULT
0, or the words complete before the cut, with RESULT 0x03; RD judges which of the two a transaction is; before the
firmware runs it answers zeros with RESULT 5 and during a handover with RESULT 4 (model choice, log entry 110). -/
def Obligations.ReadsAndSpi : Prop :=
  ∀ (s : State), Running s → 
    (∀ src a, a.toNat % 4 = 0 → occupant s.env s.dev a.toNat = none → exec (.unmappedRead src a) s = .next (s.then_ ({ report s.env s.dev (Ev.addrUnmapped (unmappedSrc s.env a.toNat)) 0xFF 0 with answer := [0#32] }))) ∧
    (∀ src, occupant s.env s.dev (RegName.LDG_OPT_LO.addr 0 0) = some ⟨.LDG_OPT_LO, 0, 0⟩ → exec (.ldgOptLoRead src) s = .next (s.then_ ({ s.dev with hiOpt := s.env.opt / 2 ^ 32, answer := [view s.env s.dev .LDG_OPT_LO 0 0] }))) ∧
    (∀ src ofs, occupant s.env (s.dev.atOfs ofs) (RegName.TOW_TIME_LO.addr 0 0) = some ⟨.TOW_TIME_LO, 0, 0⟩ → exec (.towTimeLoRead src ofs) s = .next (s.then_ ({ s.dev.atOfs ofs with hiTow := towNow (s.dev.atOfs ofs) / 2 ^ 32 % 2 ^ 32, answer := [view s.env (s.dev.atOfs ofs) .TOW_TIME_LO 0 0] }))) ∧
    (∀ cmd words cut, spiRd cmd = false → spiAddr cmd % 4 = 0 → exec (.spiWriteTransaction cmd words cut) s = .next (s.then_ (let z := writeAll s.env { origin := .spi } ((List.range (words.take (spiWords cmd)).length).zip (words.take (spiWords cmd)) |>.map fun p => (spiAddr cmd + 4 * p.1, p.2)) { d := s.dev }
        { closeBatch s.env { origin := .spi } z.d with spi := { result := if cut then 3 else z.res, count := satN (z.count + b2n cut) 0xFF }, answer := [spiStatus s.dev] }))) ∧
    (∀ cmd cut, spiRd cmd = true → spiAddr cmd % 4 = 0 → handoverHolds s.dev = false → firmwareUp s.dev = true → exec (.spiReadTransaction cmd cut) s = .next (s.then_ (let p := readAll s.env ((List.range (min (spiWords cmd) (cut.getD 128))).map fun k => spiAddr cmd + 4 * k) s.dev
        { p.1 with spi := { result := if cut.isSome then 3 else 0, count := 0 }, answer := [spiStatus s.dev, 0#32] ++ p.2 }))) ∧
    (∀ cmd, spiRd cmd = true → spiAddr cmd % 4 = 0 → handoverHolds s.dev = false → firmwareUp s.dev = false → exec (.spiReadTransaction cmd none) s = .next (s.then_ ({ s.dev with spi := { result := 5, count := 0 }, answer := [spiStatus s.dev, 0#32] ++ List.replicate (spiWords cmd) 0#32 }))) ∧
    (∀ cmd, spiRd cmd = true → spiAddr cmd % 4 = 0 → handoverHolds s.dev = true → exec (.spiReadTransaction cmd none) s = .next (s.then_ ({ s.dev with spi := { result := 4, count := 0 }, answer := [spiStatus s.dev, 0#32] ++ List.replicate (spiWords cmd) 0#32 })))

/-- FRAME_OUT ends its pulse low; an edge on FRAME_SYNC or PPS is judged against the edge it is measured from and, where its
source is valid, is the new reference; a timeout makes the source invalid and its count starts afresh; a dwell that has
ended makes the higher-ranked valid source active; a step that is due takes effect; CONTROL_PERIOD_BOUNDARY does the
work of a boundary, which BoundaryParts states part by part. A locked detector that works takes a detection of its cell
as a reference event where it is the selected one, and its run of misses ends; the fourth miss in a row ends its lock; a
miss before that is counted. -/
def Obligations.TimeSources : Prop :=
  ∀ (s : State), Running s → 
    (exec (.frameOutPulseEnd) s = .next (s.then_ ({ s.dev with src := { s.dev.src with out := false } }))) ∧
    (∀ ofs, s.dev.src.open_ = true → exec (.frameSyncEdge ofs) s = .next (s.then_ (let d := s.dev.atOfs ofs
        let x := edgeSeen fsConforms (coreNow d) d.src.fs
        let d1 := { d with src := { d.src with fs := x.1 } }
        if x.2 then setRef 2 (coreNow d) d1 else d1))) ∧
    (∀ ofs, s.dev.src.open_ = true → exec (.ppsEdge ofs) s = .next (s.then_ (let d := s.dev.atOfs ofs
        let x := edgeSeen ppsConforms (coreNow d) d.src.pps
        let d1 := { d with src := { d.src with pps := x.1 } }
        if x.2 then setRef 3 (coreNow d) d1 else d1))) ∧
    (exec (.sourceTimeout false) s = .next (s.then_ ({ s.dev with src := { s.dev.src with fs := {} } }))) ∧
    (exec (.sourceTimeout true) s = .next (s.then_ ({ s.dev with src := { s.dev.src with pps := {} } }))) ∧
    (∀ (code : Fin 5) t, s.dev.src.since.lookup code.val = some t → ftRevert s.dev ≠ 0 → s.dev.src.active ≠ 0 → rankOf s.dev code.val < rankOf s.dev s.dev.src.active → srcValid s.dev code.val = true → t + ftRevert s.dev * 800 ≤ s.dev.clk.periods → exec (.revertDwellExpiry code) s = .next (s.then_ ({ s.dev with src := { s.dev.src with active := code.val, step := none } }))) ∧
    (∀ x, (stepDue s.dev).isSome = true → exec (.frameTimeStep x) s = .next (s.then_ (frameStep s.env x s.dev))) ∧
    (∀ x, exec (.controlPeriodBoundary x) s = .next (s.then_ (boundary s.env x s.dev))) ∧
    (∀ (n : Fin 8) (nid : Fin 3) qual st ofs, tdWorks s.dev n.val = true → (s.dev.det n.val).lock = true → (s.dev.det n.val).nid = nid.val → s.dev.get SYN_TD_CFG.NID2 n.val = 3 → ((s.dev.det n.val).warm || st) = true → tdSpaced (s.dev.det n.val).last (coreNow (s.dev.atOfs ofs)) = true → exec (.tdDetection n nid qual st ofs) s = .next (s.then_ (let d := s.dev.atOfs ofs
        let d1 := d.setDet n.val { d.det n.val with missRun := 0, qual := qual % 65536, last := coreNow d }
        if n.val = ftTdSel d then tdReference (coreNow d) d1 else d1))) ∧
    (∀ (n : Fin 8), tdExpects s.dev n.val = true → (s.dev.det n.val).missRun < 3 → exec (.tdMissedDetection n) s = .next (s.then_ (s.dev.setDet n.val { s.dev.det n.val with missRun := (s.dev.det n.val).missRun + 1, missCnt := satN ((s.dev.det n.val).missCnt + 1) 0xFF }))) ∧
    (∀ (n : Fin 8), tdExpects s.dev n.val = true → (s.dev.det n.val).missRun = 3 → exec (.tdMissedDetection n) s = .next (s.then_ (s.dev.setDet n.val { s.dev.det n.val with lock := false, missRun := 0, missCnt := satN ((s.dev.det n.val).missCnt + 1) 0xFF, seen := [] })))

/-- An edge that conforms lengthens the run by one up to three and makes the source valid with the third; a non-conforming
edge leaves a valid source as it is and no reference event comes of it; while the source is not valid it restarts the
count from itself. An edge conforms when it falls a whole number of frames, 1 to 100, after the one it is measured from,
within 64 cycles. -/
def Obligations.FrameSyncValidity : Prop :=
  ∀ (x : Edge) (t now : Nat), x.last = some t → x.run ≤ 3 →
    (fsConforms (now - t) = true → (edgeSeen fsConforms now x).1.run = min (x.run + 1) 3 ∧ (edgeSeen fsConforms now x).1.last = some now ∧
      ((edgeSeen fsConforms now x).1.valid = true ↔ x.valid = true ∨ 2 ≤ x.run) ∧
      ((edgeSeen fsConforms now x).2 = true ↔ (edgeSeen fsConforms now x).1.valid = true)) ∧
    (fsConforms (now - t) = false → x.valid = true → edgeSeen fsConforms now x = (x, false)) ∧
    (fsConforms (now - t) = false → x.valid = false → edgeSeen fsConforms now x = ({ x with last := some now, run := 0 }, false)) ∧
    (∀ n : Nat, 1 ≤ n → n ≤ 100 → ∀ k : Nat, k ≤ 64 → fsConforms (n * 9830400 + k) = true ∧ fsConforms (n * 9830400 - k) = true) ∧
    (∀ k : Nat, 64 < k → k < 4915200 → fsConforms (9830400 + k) = false ∧ fsConforms (9830400 - k) = false)

/-- A drain that is not reversing goes on to OFFING; OFFING ends in the state the step leads to; a power-up step other than
STANDBY to SYNTH ends in its state; a transmit lock wait that runs out with the RX synthesiser locked raises
TX_LOCK_TIMEOUT and drops the transmit part of the request; an RX lock wait that runs out gives the request up. -/
def Obligations.GroupSteps : Prop :=
  ∀ (s : State), Running s → 
    (∀ (g : Fin 2) ofs, (s.dev.group g.val).phase = .draining → (s.dev.group g.val).reversing = false → exec (.groupStepDone g ofs) s = .next (s.then_ (let d := s.dev.atOfs ofs
        let d1 := groupDomains g.val (d.setGroup g.val { d.group g.val with phase := .offing })
        advance g.val (if (d.group g.val).step = .standby then synthsOff g.val d1 else d1)))) ∧
    (∀ (g : Fin 2) ofs, (s.dev.group g.val).phase = .offing → exec (.groupStepDone g ofs) s = .next (s.then_ (let d := s.dev.atOfs ofs
        advance g.val (arrive g.val (d.group g.val).step (d.setGroup g.val { d.group g.val with queued := false }))))) ∧
    (∀ (g : Fin 2) ofs, (s.dev.group g.val).phase = .moving → (s.dev.group g.val).step ≠ .synth → exec (.groupStepDone g ofs) s = .next (s.then_ (let d := s.dev.atOfs ofs
        advance g.val (arrive g.val (d.group g.val).step d)))) ∧
    (∀ (g : Fin 2), (s.dev.group g.val).txWait = true → exec (.txWaitExpiry g) s = .next (s.then_ (txWaitEnd s.env g.val s.dev))) ∧
    (∀ (g : Fin 2), (s.dev.group g.val).nominal = true → (s.dev.group g.val).state = .standby → (s.dev.synth (rxSyn g.val)).lock = false → exec (.rxLockWaitExpiry g) s = .next (s.then_ (giveUp s.env g.val s.dev)))

/-- A synthesiser that is on and not locked declares lock, after a retune with its chains COARSE and the range check
repeated on the slices it serves; one that loses lock in a group below SYNTH only drops lock, in SYNTH or above it also
closes its gates or suppresses its slices; a retune without lock at its nominal time counts as a loss of lock. -/
def Obligations.SynthesiserLock : Prop :=
  ∀ (s : State), Running s → 
    (∀ (n : Fin 4) band ofs, (s.dev.synth n.val).on = true → (s.dev.synth n.val).lock = false → exec (.synthLock n band ofs) s = .next (s.then_ (let d := s.dev.atOfs ofs
        if (d.synth n.val).retune then forN 192 (fun k y => if servedBy y n.val k then rangeCheck s.env k y else y) (retuneCoarse n.val (locked n.val band d)) else locked n.val band d))) ∧
    (∀ (n : Fin 4), (s.dev.synth n.val).lock = true → (s.dev.group (n.val / 2)).state.code < 2 → exec (.synthUnlock n) s = .next (s.then_ (followEdges (s.dev.setSynth n.val { s.dev.synth n.val with lock := false })))) ∧
    (∀ (n : Fin 4), (s.dev.synth n.val).lock = true → 2 ≤ (s.dev.group (n.val / 2)).state.code → exec (.synthUnlock n) s = .next (s.then_ (loseLock s.env n.val s.dev))) ∧
    (∀ (n : Fin 4), (s.dev.synth n.val).retune = true → (s.dev.synth n.val).lock = false → exec (.retuneTimeout n) s = .next (s.then_ (loseLock s.env n.val s.dev)))

/-- When a Register Read ends on a bus, SYN_RFFE_RD[m] holds its byte with VALID set and the bus is free, so that the read
is not repeated; where the parity check fails, PERR is set and RFFE_PARITY, a MINOR fault, is reported as well. A read
of SYN_RFFE_RD[m] clears VALID and leaves the data. -/
def Obligations.RffeReads : Prop :=
  ∀ (s : State), Running s → 
    (∀ (m : Fin 4) byte c, (s.dev.rffeM m.val).bus = some c → c.typ = 3 → exec (.rffeSequenceDone m byte true) s = .next (s.then_ (s.dev.setRffe m.val { s.dev.rffeM m.val with bus := none, rdValid := true, rdData := byte % 256 }))) ∧
    (∀ (m : Fin 4) byte c, (s.dev.rffeM m.val).bus = some c → c.typ = 3 → exec (.rffeSequenceDone m byte false) s = .next (s.then_ (report s.env ((s.dev.setRffe m.val { s.dev.rffeM m.val with bus := none, rdValid := true, rdData := byte % 256 }).setBit SYN_RFFE_STAT.PERR m.val) Ev.RFFE_PARITY m.val 0))) ∧
    (∀ src (m : Fin 4), occupant s.env s.dev (RegName.SYN_RFFE_RD.addr m.val 0) = some ⟨.SYN_RFFE_RD, m.val, 0⟩ → exec (.synRffeRdRead src m) s = .next (s.then_ ({ s.dev.setRffe m.val { s.dev.rffeM m.val with rdValid := false } with answer := [view s.env s.dev .SYN_RFFE_RD m.val 0] }))) ∧
    (∀ inst, Ev.cls Ev.RFFE_PARITY inst = .minor)

/-- The command in front of the FIFO goes on the bus where the bus may start it; a write that ends frees the bus; a timed
write of Carve goes on the bus and its action is executed; a FOLLOW pin that is not held takes the oldest edge on its
way. -/
def Obligations.RffeBusAndPins : Prop :=
  ∀ (s : State), Running s → 
    (∀ (m : Fin 4) ofs c, rffePick (s.dev.atOfs ofs) m.val = .fifo c → exec (.rffeSequenceStart m ofs) s = .next (s.then_ (let d := s.dev.atOfs ofs
        d.setRffe m.val { d.rffeM m.val with fifo := (d.rffeM m.val).fifo.tail, bus := some c, lastSeq := some c }))) ∧
    (∀ (m : Fin 4) ofs x late, rffePick (s.dev.atOfs ofs) m.val = .timed x late → exec (.rffeSequenceStart m ofs) s = .next (s.then_ (let d := s.dev.atOfs ofs
        rffeExecuted x.act (rffeLate s.env m.val late (d.setRffe m.val { d.rffeM m.val with timed := (d.rffeM m.val).timed.tail, bus := some x.cmd, lastSeq := some x.cmd }))))) ∧
    (∀ (m : Fin 4) byte ok c, (s.dev.rffeM m.val).bus = some c → c.typ ≠ 3 → exec (.rffeSequenceDone m byte ok) s = .next (s.then_ (s.dev.setRffe m.val { s.dev.rffeM m.val with bus := none }))) ∧
    (∀ (n : Fin 32) b rest, (s.dev.pin n.val).edges = b :: rest → (s.dev.pin n.val).hold = [] → exec (.tgpioFollowEdge n) s = .next (s.then_ (s.dev.setPin n.val { s.dev.pin n.val with drive := some b, edges := rest })))

/-- A settled tap switch ends; a passed ORX self-calibration goes on, a failed one repeats once; a step in progress ends; a
waiting on-request calibration starts when the ORX is free; a background step starts where R106 lets it and, completed,
applies at the next boundary; segments of the user calibration area are written one after another, and the last one
finishes it. -/
def Obligations.CalibrationSteps : Prop :=
  ∀ (s : State), Running s → 
    (exec (.orxSwitchDone) s = .next (s.then_ ({ s.dev with orx := { s.dev.orx with switching := false } }))) ∧
    (∀ ok, s.dev.cal.now = some .orxSelf → exec (.calStepDone .orxSelf ok) s = .next (s.then_ (calOrxDone s.env (bitOf ok 0) s.dev))) ∧
    (∀ (c : Fin 8) ok, s.dev.cal.now = some (.tx c.val) → exec (.calStepDone (.tx c) ok) s = .next (s.then_ (calTxDone s.env c.val false (bitOf ok c.val) s.dev))) ∧
    (∀ (c : Fin 8) ok, s.dev.cal.now = some (.txFlat c.val) → exec (.calStepDone (.txFlat c) ok) s = .next (s.then_ (calTxDone s.env c.val true (bitOf ok c.val) s.dev))) ∧
    (∀ (g : Fin 2) ok, (gcal s.dev g.val).run = true → (gcal s.dev g.val).rxFlat = false → exec (.calStepDone (.rx g) ok) s = .next (s.then_ (calRxDone s.env g.val (bitOf ok) s.dev))) ∧
    (∀ (g : Fin 2) ok, (gcal s.dev g.val).run = true → (gcal s.dev g.val).rxFlat = true → exec (.calStepDone (.rxFlat g) ok) s = .next (s.then_ (calRxDone s.env g.val (bitOf ok) s.dev))) ∧
    (∀ (g : Fin 2), (gcal s.dev g.val).pend = true → orxBusyWith s.dev g.val = false → 2 ≤ (s.dev.group g.val).state.code → (s.dev.group g.val).held = false → exec (.onreqCalStart g) s = .next (s.then_ (onReqStart s.env g.val s.dev))) ∧
    (∀ (c : Fin 8), bgMay s.dev .rxGap c.val = true → exec (.bgCalStepStart .rxGap c) s = .next (s.then_ ({ s.dev with cal := { s.dev.cal with bg := some (.rxGap, c.val), lastBg := (0, c.val) } }))) ∧
    (∀ b, s.dev.cal.bg = some b → exec (.bgCalStepDone) s = .next (s.then_ (orxGive .bg { s.dev with cal := { s.dev.cal with bg := none, bgCnt := (s.dev.cal.bgCnt + 1) % 65536, bgDone := s.dev.cal.bgDone ++ [b] } }))) ∧
    (∀ j, s.dev.ucalJob = some j → 1 < j.left → nvBarred s.dev = false → s.dev.pwr.failed = false → exec (.usercalSegmentDone true) s = .next (s.then_ ({ s.dev with ucalJob := some { j with left := j.left - 1, retried := false } }))) ∧
    (∀ j, s.dev.ucalJob = some j → j.left ≤ 1 → nvBarred s.dev = false → s.dev.pwr.failed = false → exec (.usercalSegmentDone true) s = .next (s.then_ (ucalFinish s.env j s.dev)))

/-- A presence window of a running slice sets PRES, and a silent one lets the hang time run; the hang time starts the
closing ramp of an open mute at its present level and a ramp ends in its state; a drain ends in IDLE, or in SHED for a
slice that is shed and still enabled; a settle count that elapses with its set complete and its range allowed makes the
slice ACTIVE with its mute opening on presence; a fade ends with the other bank live and the pending request starts. A
slice whose mute is closed, that is suppressed or that Patrol mutes adds zero to its TX chain, and a TX chain behind a
closed direction, calibration, lock, pair or thermal gate puts out zero. -/
def Obligations.SliceEvents : Prop :=
  ∀ (s : State), Running s → 
    (∀ (n : Fin 192) y, (s.dev.slice n.val).mute = .closed ∨ (s.dev.slice n.val).suppressed = true ∨ (s.dev.psl n.val).mutes ≠ [] →
      sliceOut s.dev n.val y = (0, 0)) ∧
    (∀ (c : Fin 8) ys, s.dev.thm.sd = true ∨ dirOpen s.dev (txUl c.val) = false ∨ calGate s.dev c.val = false ∨ lockGate s.dev (c.val / 4) = false ∨ pairGate s.dev = false →
      chainOut s.dev c.val ys = (0, 0)) ∧
    (∀ (n : Fin 192) pw ofs, (s.dev.slice n.val).st = .active → presenceSignal (s.dev.atOfs ofs) n.val pw = false → exec (.presenceWindow n pw ofs) s = .next (s.then_ (let d := s.dev.atOfs ofs
        d.setSlice n.val { d.slice n.val with pres := false, seen := (d.slice n.val).seen || false, noSig := (d.slice n.val).noSig + 1, presAt := coreNow d, doze := (d.slice n.val).doze && !false }))) ∧
    (∀ (n : Fin 192) pw ofs, (s.dev.slice n.val).st = .active → presenceSignal (s.dev.atOfs ofs) n.val pw = true → exec (.presenceWindow n pw ofs) s = .next (s.then_ (let d := s.dev.atOfs ofs
        muteSignal n.val (d.setSlice n.val { d.slice n.val with pres := true, seen := (d.slice n.val).seen || true, noSig := 0, presAt := coreNow d, doze := (d.slice n.val).doze && !true })))) ∧
    (∀ (n : Fin 192), (s.dev.slice n.val).pres = false → (s.dev.slice n.val).mute = .open_ → exec (.muteHangExpiry n) s = .next (s.then_ (s.dev.setSlice n.val { s.dev.slice n.val with mute := .closing, ramps := [{ at_ := coreNow s.dev, from_ := muteLevel s.dev n.val (coreNow s.dev), up := false }, { at_ := 0, from_ := 32, up := true }] }))) ∧
    (∀ (n : Fin 192), (s.dev.slice n.val).mute = .opening → exec (.sliceMuteRampDone n) s = .next (s.then_ (s.dev.setSlice n.val { s.dev.slice n.val with mute := .open_, ramps := [] }))) ∧
    (∀ (n : Fin 192), (s.dev.slice n.val).mute = .closing → exec (.sliceMuteRampDone n) s = .next (s.then_ (s.dev.setSlice n.val { s.dev.slice n.val with mute := .closed, ramps := [] }))) ∧
    (∀ (n : Fin 192), (s.dev.slice n.val).st = .draining → (s.dev.slice n.val).forShed = false → exec (.sliceDrainDone n) s = .next (s.then_ (toIdle s.env n.val s.dev))) ∧
    (∀ (n : Fin 192), (s.dev.slice n.val).st = .draining → (s.dev.slice n.val).forShed = true → enabled s.dev n.val = true → exec (.sliceDrainDone n) s = .next (s.then_ (toShed n.val s.dev))) ∧
    (∀ (n : Fin 192) ofs, (s.dev.slice n.val).st = .settling → (s.dev.slice n.val).await = .counting → setOk (s.dev.atOfs ofs) (msetOf (s.dev.atOfs ofs) n.val) = true → rangeOk s.env (s.dev.atOfs ofs) (isUl (s.dev.atOfs ofs) n.val) (s.dev.slice n.val).eff = true → exec (.settleCountElapsed n ofs) s = .next (s.then_ (let d := s.dev.atOfs ofs
        loopRestored n.val (d.setSlice n.val { d.slice n.val with st := .active, suppressed := false, setWait := false, setCnt := 0, await := .boundary, flushOnly := false, ramps := [{ at_ := coreNow d, from_ := 0, up := true }], mute := if (d.slice n.val).pres ∧ !d.flag SLC_CTL.FMUTE n.val then .opening else .closed })))) ∧
    (∀ (n : Fin 192) len ofs, (s.dev.slice n.val).gz.fade = some len → (s.dev.slice n.val).gz.pend = none → exec (.glazeFadeEnd n ofs) s = .next (s.then_ (let d := s.dev.atOfs ofs
        d.setSlice n.val { d.slice n.val with gz := { (d.slice n.val).gz with live := !(d.slice n.val).gz.live, fade := none, pend := none } }))) ∧
    (∀ (n : Fin 192) len next ofs, (s.dev.slice n.val).gz.fade = some len → (s.dev.slice n.val).gz.pend = some next → exec (.glazeFadeEnd n ofs) s = .next (s.then_ (let d := s.dev.atOfs ofs
        fadeStart s.env n.val next (d.setSlice n.val { d.slice n.val with gz := { (d.slice n.val).gz with live := !(d.slice n.val).gz.live, fade := none, pend := none } }))))

/-- A check of a physical slice raises the fault of the logical slice it carries; an armed capture starts at its trigger,
and a running one keeps its first 1,024 samples per block, with ARM reading 0 from then on; a canceller block, of what
its chains deliver, shows its remainder to the onset detectors and then adapts the canceller. -/
def Obligations.ChecksAndCaptures : Prop :=
  ∀ (s : State), Running s → 
    (∀ (p : Fin 200) n, carriedBy s.dev p.val = some n → exec (.sliceCheck p) s = .next (s.then_ (raiseLive s.env s.dev Ev.SLICE_CHECK n 0))) ∧
    (∀ (p : Fin 200) n, carriedBy s.dev p.val = some n → exec (.cnlCheck p) s = .next (s.then_ (raiseLive s.env s.dev Ev.CNL_CHECK n 0))) ∧
    (s.dev.pool.cap.armed = true → exec (.captureTrigger) s = .next (s.then_ ({ s.dev with pool := { s.dev.pool with cap := { s.dev.pool.cap with armed := false, running := true, samples := [] } } }))) ∧
    (∀ l, s.dev.pool.cap.running = true → exec (.captureDone l) s = .next (s.then_ (Dev.put { s.dev with pool := { s.dev.pool with cap := { s.dev.pool.cap with running := false, done := true, samples := (l.take (1024 * s.dev.pool.cap.blocks)).map (· % 4294967296) } } } POOL_CAP_CFG.ARM 0 0))) ∧
    (∀ (n : Fin 192) inp refs ofs, (s.dev.canc n.val).st ≠ .off → exec (.cnlBlockEnd n inp refs ofs) s = .next (s.then_ (let d := s.dev.atOfs ofs
        let i := blockIn d n.val inp
        let r := blockRefs d n.val refs
        oscBlock s.env n.val (blockErr n.val i r d) (cnlBlockEnd n.val i r d))))

/-- The automatic rotation puts a digital run on the next ACTIVE slice, which starts at the next frame boundary; a run that
ends after DUR + 1 frames with fewer than a quarter of its bins good is INVALID, and a digital one with enough of them
gives I_PHYS_P and I_EFF_P as the output power of the slice at the pin less the echo power A / a before and after the
canceller, each clamped to its register, while one in bias DAC mode gives I_PHYS_P from what the ORX reads and the echo
after the canceller, with the depth at the coupler, and I_EFF_P 0; a deadline with an unfinished core, more than 16 LUT
words, bulk traffic and some loop not OPEN makes the period an overrun, and one with every core finished computes the
period; a hold that reaches HOLD_TO glides to LO and raises LOOP_HOLD_TO; an even frame boundary anchors a waiting
Stencil; 64 periods in RELEARN return it to LEARNING with STN_NO_PATTERN. -/
def Obligations.ProbeLoopsStencils : Prop :=
  ∀ (s : State), Running s → 
    (∀ k, s.dev.flag CNL_PRB_CFG.AUTO = true → s.dev.prb.run = none → s.dev.get CNL_PRB_CTL.INTERVAL ≤ s.dev.prb.wait → (List.range 192).find? (fun k => (s.dev.slice ((s.dev.prb.next + k) % 192)).st = .active) = some k → exec (.probeAutoRun) s = .next (s.then_ (s.dev.modPrb fun p => { p with run := some { s := (p.next + k) % 192, dac := false, auto := true }, wait := 0, next := ((p.next + k) % 192 + 1) % 192 }))) ∧
    (∀ p px dp ei eo r, s.dev.prb.run = some r → r.started = true → s.dev.get CNL_PRB_CFG.DUR < r.frames → 4 * r.good < r.bins → exec (.probeRunEnd p px dp ei eo) s = .next (s.then_ (probeInvalid s.env r s.dev))) ∧
    (∀ p px dp ei eo r po, s.dev.prb.run = some r → r.started = true → r.dac = false → s.dev.get CNL_PRB_CFG.DUR < r.frames → r.bins ≤ 4 * r.good → probeOut s.dev r p = some po → exec (.probeRunEnd p px dp ei eo) s = .next (s.then_ ((probeOver r s.dev).modPrb fun x => { x with ok := true, iphys := clampI (po - dbm (ei / probeDepth s.dev)) 0 65535, ieff := clampI (po - dbm (eo / probeDepth s.dev)) 0 65535, cmp := some r.s }))) ∧
    (∀ p px dp ei eo r po, s.dev.prb.run = some r → r.started = true → r.dac = true → s.dev.get CNL_PRB_CFG.DUR < r.frames → r.bins ≤ 4 * r.good → probeOut s.dev r px = some po → exec (.probeRunEnd p px dp ei eo) s = .next (s.then_ ((probeOver r s.dev).modPrb fun x => { x with ok := true, iphys := clampI (po - dbm (eo / dp)) 0 65535, ieff := 0, cmp := some r.s }))) ∧
    (s.dev.eng.due = true → 16 < s.dev.eng.lutWords → s.dev.eng.bulk = true → loopsRun s.dev = true → exec (.loopComputeDeadline true) s = .next (s.then_ (overrun s.env s.dev))) ∧
    (s.dev.eng.due = true → exec (.loopComputeDeadline false) s = .next (s.then_ (computeAll s.env s.dev))) ∧
    (∀ (i : Fin 256) hi lo, (s.dev.loop i.val).mode = .hold → (s.dev.loop i.val).timeout = false → s.dev.get LOOP_SUP.HOLD_TO i.val ≤ (s.dev.loop i.val).held → (s.dev.loop i.val).lims = some (hi, lo) → (s.dev.loop i.val).persists = true → exec (.loopHoldTimeout i) s = .next (s.then_ (raiseLive s.env (s.dev.setLoop i.val { s.dev.loop i.val with timeout := true, glide := glideOutput (s.dev.loop i.val).out lo true, glideWas := none }) Ev.LOOP_HOLD_TO i.val 0))) ∧
    (∀ (n : Fin 32), (s.dev.stencil n.val).st = .wait → s.dev.clk.cyc = 0 → s.dev.clk.ofs = 0 → s.dev.clk.frame % 2 = 0 → exec (.stencilAnchor n) s = .next (s.then_ (s.dev.setStencil n.val { s.dev.stencil n.val with st := .learning, withdrawn := false, frame := s.dev.clk.frame, pcnt := 0, obs := [] }))) ∧
    (∀ (n : Fin 32), (s.dev.stencil n.val).st = .relearn → 64 ≤ (s.dev.stencil n.val).rlCnt → exec (.stencilRelearnTimeout n) s = .next (s.then_ (raiseLive s.env (s.dev.setStencil n.val { s.dev.stencil n.val with st := .learning, withdrawn := false }) Ev.STN_NO_PATTERN n.val 0)))

/-- With a Fixative in force, HI of a composite loop is the lesser of UCEIL and 0.00 dB and LO the greater of FLOOR and
-40.00 dB; HI of a general loop is the lesser of UCEIL and 4,095 and LO the greater of FLOOR and 0; LO is lowered to HI
where it would exceed it. Without a valid Fixative a composite loop has HI equal to LO and a slice loop has both at
-30.00 dB (R202). In every loop LO does not exceed HI. -/
def Obligations.LoopLimits : Prop :=
  ∀ (e : Env) (d : Dev) (i : Nat),
    (192 ≤ i → i < 200 → e.fix.isSome = true →
      limits e d i = (min (d.int LOOP_LIM.UCEIL i) 0, min (max (d.int LOOP_LIM.FLOOR i) (-4000)) (min (d.int LOOP_LIM.UCEIL i) 0))) ∧
    (192 ≤ i → i < 200 → e.fix = none → (limits e d i).1 = (limits e d i).2) ∧
    (200 ≤ i → limits e d i = (min (d.int LOOP_LIM.UCEIL i) 4095, min (max (d.int LOOP_LIM.FLOOR i) 0) (min (d.int LOOP_LIM.UCEIL i) 4095))) ∧
    (i < 192 → e.fix = none → limits e d i = (-3000, -3000)) ∧
    (limits e d i).2 ≤ (limits e d i).1

/-- A template takes the next edge it has not taken and opens an epoch; due actions run in order; a presence report of a
confirming slice confirms an open epoch; a window opens, or is contradicted where no slice can confirm it; a window of
an unconfirmed epoch that closes contradicts it, where no report that confirms it stands at that very cycle, which
confirms it first; a confirmed one may retire; where an outside event of R251 falls in the same core cycle, that event
alone counts and neither a report nor a close acts; a failing check raises CRV_CHECK and unwinds every epoch. -/
def Obligations.CarveEvents : Prop :=
  ∀ (s : State), Running s → 
    (∀ (m : Fin 64) ofs t, nextEdge (s.dev.atOfs ofs) m.val = some t → openBarred (s.dev.atOfs ofs) (templateEpoch (s.dev.atOfs ofs) m.val t) = false → exec (.epochInstantiate m ofs) s = .next (s.then_ (instantiate s.env m.val (s.dev.atOfs ofs)))) ∧
    (∀ ofs, (dueActs (s.dev.atOfs ofs)).length ≠ 0 → exec (.carveActionDue ofs) s = .next (s.then_ (runAllDue (s.dev.atOfs ofs)))) ∧
    (∀ (n : Fin 256) (k : Fin 192) ofs x, epochNum (s.dev.atOfs ofs) n.val = some x → reportConfirms (s.dev.atOfs ofs) x k.val = true → 0 ≤ ftAhead (ftNow (s.dev.atOfs ofs)) x.wClose → exec (.epochConfirm n k ⟨ofs, false⟩) s = .next (s.then_ (confirm s.env x.ord (s.dev.atOfs ofs)))) ∧
    (∀ (n : Fin 256) (k : Fin 192) ofs, exec (.epochConfirm n k ⟨ofs, true⟩) s = .next (s.then_ (s.dev.atOfs ofs))) ∧
    (∀ (n : Fin 256) ofs, exec (.epochWindowClose n ⟨ofs, true⟩) s = .next (s.then_ (s.dev.atOfs ofs))) ∧
    (∀ (n : Fin 256) ofs x, epochNum (s.dev.atOfs ofs) n.val = some x → x.windowOpen = false → x.windowShut = false → ftAhead (ftNow (s.dev.atOfs ofs)) x.wOpen ≤ 0 → exec (.epochWindowOpen n ofs) s = .next (s.then_ (contradictLost s.env (setEpoch x.ord (fun y => { y with windowOpen := true }) (s.dev.atOfs ofs))))) ∧
    (∀ (n : Fin 256) ofs x, epochNum (s.dev.atOfs ofs) n.val = some x → x.windowShut = false → x.confirmed = false → ftAhead (ftNow (s.dev.atOfs ofs)) x.wClose ≤ 0 → (confirmers (s.dev.atOfs ofs) x).any (reportConfirms (s.dev.atOfs ofs) x) = false ∨ ftAhead (ftNow (s.dev.atOfs ofs)) x.wClose ≠ 0 → exec (.epochWindowClose n ⟨ofs, false⟩) s = .next (s.then_ (contradict s.env x.ord (s.dev.atOfs ofs)))) ∧
    (∀ (n : Fin 256) ofs x y, epochNum (s.dev.atOfs ofs) n.val = some x → (confirmers (s.dev.atOfs ofs) x).any (reportConfirms (s.dev.atOfs ofs) x) = true → ftAhead (ftNow (s.dev.atOfs ofs)) x.wClose = 0 → epochNum (confirm s.env x.ord (s.dev.atOfs ofs)) n.val = some y → y.windowShut = false → y.confirmed = true → ftAhead (ftNow (confirm s.env x.ord (s.dev.atOfs ofs))) y.wClose ≤ 0 → exec (.epochWindowClose n ⟨ofs, false⟩) s = .next (s.then_ (let d := confirm s.env x.ord (s.dev.atOfs ofs)
        retireIf y.ord (setEpoch y.ord (fun z => { z with windowOpen := false, windowShut := true }) d)))) ∧
    (∀ (n : Fin 256) ofs x, epochNum (s.dev.atOfs ofs) n.val = some x → x.windowShut = false → x.confirmed = true → ftAhead (ftNow (s.dev.atOfs ofs)) x.wClose ≤ 0 → exec (.epochWindowClose n ⟨ofs, false⟩) s = .next (s.then_ (retireIf x.ord (setEpoch x.ord (fun y => { y with windowOpen := false, windowShut := true }) (s.dev.atOfs ofs))))) ∧
    (exec (.crvCheck true) s = .next (s.then_ (unwindWhere (fun _ => true) (raiseLive s.env s.dev Ev.CRV_CHECK 0xFF 0)))) ∧
    (exec (.crvCheck false) s = .next (s.then_ (clearLive s.dev Ev.CRV_CHECK 0xFF)))

/-- An oscillation trim without onset for OSC_REL frames is dropped; donor absence of DLOSS_T mutes UL; a sweep segment
starts on the next eligible tap, one that was spoilt ends without a judgement, and any other ends with the next tap due
and, under a Fixative, is judged: the second one in a row of a tap with emission above OOR_MAX outside the allowed
ranges mutes the direction, and the total power at the output plane is judged in every case; NET_STOP_N low starts a
STOP with cause PIN, and high for 100 ms it meets that cause only with NS_AUTOREL; a STOP whose steps are done is
STOPPED, and one whose release slews have ended is over. -/
def Obligations.PatrolEvents : Prop :=
  ∀ (s : State), Running s → 
    (∀ (n : Fin 192), trimmedBy s.dev n.val .osc = true → (s.dev.psl n.val).onset = none → s.dev.get PTL_TIME.OSC_REL ≤ (s.dev.psl n.val).oscFrames → exec (.oscTrimRelease n) s = .next (s.then_ (dropTrim n.val .osc s.dev))) ∧
    (s.dev.get PTL_TIME.DLOSS_T ≠ 0 → 80 * s.dev.get PTL_TIME.DLOSS_T ≤ s.dev.ptl.absent → exec (.dlossTimeout) s = .next (s.then_ (muteDir s.env true .dloss s.dev))) ∧
    (∀ k, s.dev.ptl.seg = none → s.dev.get PTL_SWEEP.SWP_INT ≤ s.dev.ptl.swpAge → s.dev.orx.owner ≠ .cal → (List.range 8).find? (fun k => tapEligible s.dev ((s.dev.ptl.nextTap + k) % 8)) = some k → (orxTake .sweep ((s.dev.ptl.nextTap + k) % 8) s.dev).2 = true → exec (.sweepSegmentStart) s = .next (s.then_ ((orxTake .sweep ((s.dev.ptl.nextTap + k) % 8) s.dev).1.modPtl fun p => { p with seg := some ((s.dev.ptl.nextTap + k) % 8), segBad := false, nextTap := (s.dev.ptl.nextTap + k) % 8, swpAge := 0 }))) ∧
    (∀ bins total ofs c, s.dev.ptl.seg = some c → s.dev.ptl.segBad = true → exec (.sweepSegmentEnd bins total ofs) s = .next (s.then_ (orxGive .sweep ((sweepRest (s.dev.atOfs ofs)).modPtl fun p => { p with seg := none, segBad := false })))) ∧
    (∀ bins total ofs c f, s.dev.ptl.seg = some c → s.dev.ptl.segBad = false → s.env.fix = some f → exec (.sweepSegmentEnd bins total ofs) s = .next (s.then_ (sweepJudge s.env f c bins total (sweepOver c (s.dev.atOfs ofs))))) ∧
    (∀ bins total ofs c, s.dev.ptl.seg = some c → s.dev.ptl.segBad = false → s.env.fix = none → exec (.sweepSegmentEnd bins total ofs) s = .next (s.then_ (sweepOver c (s.dev.atOfs ofs)))) ∧
    (∀ (f : Fix) c bins total (d : Dev), sweepHot f d c bins = true → 1 ≤ (d.pch c).emis →
      sweepJudge s.env f c bins total d = segPower s.env f c (sweepOut d c total (sweepLo d c)) (muteDir s.env (txUl c) .emis (d.setPch c { d.pch c with emis := 2 }))) ∧
    (∀ (f : Fix) c bins total (d : Dev), sweepHot f d c bins = true → (d.pch c).emis = 0 →
      sweepJudge s.env f c bins total d = segPower s.env f c (sweepOut d c total (sweepLo d c)) (d.setPch c { d.pch c with emis := 1 })) ∧
    (∀ (f : Fix) c bins total (d : Dev), sweepHot f d c bins = false →
      sweepJudge s.env f c bins total d = segPower s.env f c (sweepOut d c total (sweepLo d c)) (d.setPch c { d.pch c with emis := 0 })) ∧
    (exec (.netStopPinLow) s = .next (s.then_ (stopFor s.env .pin (s.dev.modPtl fun p => { p with pinLow := true })))) ∧
    (s.dev.flag PTL_CFG.NS_AUTOREL = true → exec (.netStopPinRelease) s = .next (s.then_ (stopMet (fun c => c = .pin) (s.dev.modPtl fun p => { p with pinLow := false })))) ∧
    (s.dev.flag PTL_CFG.NS_AUTOREL = false → exec (.netStopPinRelease) s = .next (s.then_ (s.dev.modPtl fun p => { p with pinLow := false }))) ∧
    (s.dev.ptl.phase = .stopping → stopDone s.dev = true → s.dev.ptl.relPend = false → exec (.stopStepsDone) s = .next (s.then_ (s.dev.modPtl fun p => { p with phase := .stopped }))) ∧
    (s.dev.ptl.phase = .releasing → ((List.range 48).all fun c => !((s.dev.chan c).st = .drive && slewing s.dev c)) = true → exec (.stopReleaseDone) s = .next (s.then_ (clearLive (s.dev.modPtl fun p => { p with phase := .none_ }) Ev.PTL_STOP 0xFF)))

/-- When EMIS or CPWR mutes a direction that it did not mute yet, and two such mutes of that direction stand in the last
480,000 control periods (60 s), Patrol's STOP causes contain ESC afterwards, whatever the STOP's phase was, and a STOP
is in progress. -/
def Obligations.ThirdMuteStops : Prop :=
  ∀ (e : Env) (ul : Bool) (c : DCause) (d : Dev), c = .emis ∨ c = .cpwr → c ∉ dirCauses d ul →
    2 ≤ ((if ul then d.ptl.recentUl else d.ptl.recentDl).filter fun t => decide (d.clk.periods ≤ t + 480000)).length →
    SCause.esc ∈ (muteDir e ul c d).ptl.causes ∧ (muteDir e ul c d).ptl.phase ≠ .none_

/-- An event-only identity is reported and any other becomes live; a cleared fault is no longer live, but one that injection
holds (the model's reading, log entry 246). The runouts and extensions that end in one cycle are worked off together.
When one runout ends: a fault that is no longer live, or was raised inside a shadow that is still open, ends it without
a reaction; any other live one starts its extension where it is claimed and escalates, whatever its class, where it is
not. When an extension ends: a fault that is still live escalates, any other ends without a reaction. Nothing happens to
an entry on which neither runs. A DEVICE escalation supersedes another one of that cycle, and a GROUP escalation one of
a slice of its group, whose entry is marked CONSEQ. Of the escalations that are due a DEVICE one requests the warm
restart, a GROUP one carries out R76 on its group, a SLICE one asks for the spare replacement or fails the slice. The
shadow of a completed reaction closes. ALIVE toggles when a beat came and nothing holds it, and is low otherwise: where
something holds it, and where no beat came since the last instant (log entry 93). An armed heartbeat that stays away
raises FLT_HB_LOST. -/
def Obligations.FaultEvents : Prop :=
  ∀ (s : State), Running s → 
    (∀ (code : Fin 65536) (inst : Fin 256) (aux : Fin 65536), Ev.isIdentity code.val = true → Ev.eventOnly code.val = true → exec (.faultRaise code inst aux) s = .next (s.then_ (report s.env s.dev code.val inst.val aux.val))) ∧
    (∀ (code : Fin 65536) (inst : Fin 256) (aux : Fin 65536), Ev.isIdentity code.val = true → Ev.eventOnly code.val = false → exec (.faultRaise code inst aux) s = .next (s.then_ (raiseLive s.env s.dev code.val inst.val aux.val))) ∧
    (∀ (code : Fin 65536) (inst : Fin 256), (code.val, inst.val) ∉ s.dev.flt.injected → exec (.faultClear code inst) s = .next (s.then_ (dropLive s.dev code.val inst.val))) ∧
    (∀ (code : Fin 65536) (inst : Fin 256), (code.val, inst.val) ∈ s.dev.flt.injected → exec (.faultClear code inst) s = .next (s.then_ (s.dev))) ∧
    (∀ l, (runningIn_ s.dev (l.map (·.val))).length ≠ 0 → exec (.runoutExpiry l) s = .next (s.then_ (runoutEnd (l.map (·.val)) s.env s.dev))) ∧
    (∀ l, (runningIn_ s.dev (l.map (·.val))).length ≠ 0 → exec (.claimExtensionExpiry l) s = .next (s.then_ (runoutEnd (l.map (·.val)) s.env s.dev))) ∧
    (∀ k sh, s.dev.flt.shadows[k]? = some sh → sh.done = true → exec (.shadowClose k) s = .next (s.then_ (closeShadow s.env k s.dev))) ∧
    (aliveHeld s.dev = false → s.dev.flt.beat = true → exec (.aliveToggleInstant) s = .next (s.then_ (s.dev.modFlt fun f => { f with alive := !f.alive, aliveRun := true, beat := false }))) ∧
    (aliveHeld s.dev = true → exec (.aliveToggleInstant) s = .next (s.then_ (s.dev.modFlt fun f => { f with alive := false, aliveRun := false, beat := false }))) ∧
    (aliveHeld s.dev = false → s.dev.flt.beat = false → exec (.aliveToggleInstant) s = .next (s.then_ (s.dev.modFlt fun f => { f with alive := false, aliveRun := false, beat := false }))) ∧
    (s.dev.flt.hbArmed = true → exec (.heartbeatTimeout) s = .next (s.then_ (raiseLive s.env (s.dev.modFlt fun f => { f with hbOk := false }) Ev.FLT_HB_LOST 0xFF 0))) ∧
    (∀ k x, s.dev.flt.latch.lookup k = some x → x.run = .runout → supervised s.dev x = false →
      runoutEnd [k] s.env s.dev = s.dev.setLatch k { x with run := .none }) ∧
    (∀ k x, s.dev.flt.latch.lookup k = some x → x.run = .runout → supervised s.dev x = true → x.claimed = true →
      runoutEnd [k] s.env s.dev = s.dev.setLatch k { x with run := .extension }) ∧
    (∀ k x, s.dev.flt.latch.lookup k = some x → x.run = .runout → supervised s.dev x = true → x.claimed = false →
      runoutEnd [k] s.env s.dev = escalate s.env s.dev x.code x.inst x.cls k x.inj) ∧
    (∀ k x, s.dev.flt.latch.lookup k = some x → x.run = .extension → supervised s.dev x = true →
      runoutEnd [k] s.env s.dev = escalate s.env s.dev x.code x.inst x.cls k x.inj) ∧
    (∀ k x, s.dev.flt.latch.lookup k = some x → x.run = .extension → supervised s.dev x = false →
      runoutEnd [k] s.env s.dev = s.dev.setLatch k { x with run := .none }) ∧
    (∀ k x, s.dev.flt.latch.lookup k = some x → x.run = .none → runoutEnd [k] s.env s.dev = s.dev) ∧
    (∀ k, s.dev.flt.latch.lookup k = none → runoutEnd [k] s.env s.dev = s.dev) ∧
    (∀ k m x y, s.dev.flt.latch.lookup k = some x → s.dev.flt.latch.lookup m = some y → x.run ≠ .none → y.run ≠ .none →
      escalates s.dev x = true → escalates s.dev y = true → x.cls = .device → y.cls ≠ .device →
      runoutEnd [k, m] s.env s.dev = (escalate s.env s.dev x.code x.inst .device k x.inj).setLatch m { y with run := .none, claimed := false }) ∧
    (∀ k m x y g n, s.dev.flt.latch.lookup k = some x → s.dev.flt.latch.lookup m = some y → x.run ≠ .none → y.run ≠ .none →
      escalates s.dev x = true → escalates s.dev y = true → x.cls = .group → y.cls = .slice →
      groupOfFault s.dev x.code x.inst = some g → sliceOfFault s.dev y.code y.inst = some n → sliceOfGroup s.dev g n = true →
      runoutEnd [k, m] s.env s.dev = (escalate s.env s.dev x.code x.inst .group k x.inj).setLatch m { y with run := .none, claimed := false, conseq := true }) ∧
    (∀ d, d.flt.due.any (fun x => x.1 = .device) = true →
      react s.env d = { d with flt := { d.flt with due := [] }, boot := { d.boot with warmReq := true } }) ∧
    (∀ d code inst n g, d.flt.due = [(.group, code, inst, n)] → groupOfFault d code inst = some g →
      react s.env d = groupReaction g n (d.modFlt fun f => { f with due := [] })) ∧
    (∀ d code inst n k, d.flt.due = [(.slice, code, inst, n)] → sliceOfFault d code inst = some k →
      react s.env d = spareEscalate s.env k n (d.modFlt fun f => { f with due := [] }))

/-- A boundary closes the records of its period and then does its work, in the order of the first two clauses. A slice that
measures and whose source chain delivered closes its measurements with the figures of the period; one that is IDLE,
QUEUED, POWERING, SHED or FAILED closes a record with no power and VALID = 0; SEQ advances either way, VALID holds only
for a measuring slice that was not suppressed in the period, and a power of zero reads -200.00 dBm. An RX chain that
received and brings a measurement closes it, one that did not receive none; a TX chain none of whose samples reached its
DACs closes a record without an active sample. An AUTO loop with a fresh record integrates its correction between its
limits and stages the rounded integrator; the integrator stays between LO and HI, a record with VALID = 0 leaves it but
for that, and a correction outward of a saturated one freezes it; an error beyond 31.5 table steps takes the end entry.
At the boundary the staged output, clamped by the limits in force, becomes the output, in every mode. A Glide step
without VMAX arrives at once, and none crosses its target. A canceller that closes a period without reference pauses in
HOLD, but in the period in which it left OFF (the model's reading, log entry 242); I_EFF is published from I_phys, the
depth and the probe's shortfall, and is 150.00 dB while no reference is in range. A Fixative copy that does not match is
a STOP with cause SELF; donor presence resets the count of absent boundaries and absence advances it; a composite power
more than 3.0 dB above PMAX mutes its direction with cause CPWR. -/
def Obligations.BoundaryParts : Prop :=
  ∀ (e : Env) (x : Period) (d : Dev),
    (∀ s : State, Running s → exec (.controlPeriodBoundary x) s = .next (s.then_ (boundary s.env x s.dev))) ∧
    (boundary e x d = let d1 := clockOn (periodLen d) false (computeAll e (probeClose periodCycles d))
      let d2 := towTimedApply e (forgetEdges (freshLoads (freshGates (forN 8 (closeRx e x) (forN 8 (closeTx x) (forN 192 (closeSlice x) d1))))))
      let d3 := patrolBoundary e x.fixOk (detectorServes d2) (d2.clk.cyc == 0) (dutyOf x d1) (cnlBoundary e d2)
      frameBoundary (towPendAlone e (ftBoundary e (towSlew (changesBoundary e (takePredictions (engineBoundary e (stencilsBoundary e d3)))))))) ∧
    (∀ n m, (d.slice n).st = .settling ∨ (d.slice n).st = .active ∨ (d.slice n).st = .draining →
      (d.rxChain (effOf d n).src).fed = true → x.slices.find? (fun m => m.s.val == n) = some m →
      closeSlice x n d = sliceClose n m.pw m.pk m.raw m.bins d) ∧
    (∀ n, (d.slice n).st = .idle ∨ (d.slice n).st = .queued ∨ (d.slice n).st = .powering ∨ (d.slice n).st = .shed ∨ (d.slice n).st = .failed →
      closeSlice x n d = sliceClose n 0 0 0 [] d) ∧
    (∀ n pw pk raw bins, n < 192 →
      let m := ((sliceClose n pw pk raw bins d).slice n).meas
      m.seq = ((d.slice n).meas.seq + 1) % 256 ∧
      ((d.slice n).st = .settling ∨ (d.slice n).st = .active ∨ (d.slice n).st = .draining →
        m.rms = some (min (dbm pw) 32767) ∧ m.peak = some (min (dbm pk) 32767) ∧ m.valid = !(d.slice n).supHit) ∧
      ((d.slice n).st = .idle ∨ (d.slice n).st = .queued ∨ (d.slice n).st = .powering ∨ (d.slice n).st = .shed ∨ (d.slice n).st = .failed →
        m.rms = none ∧ m.peak = none ∧ m.valid = false)) ∧
    (dbm 0 = -20000 ∧ ∀ q, -20000 ≤ dbm q) ∧
    (∀ c m, (d.rxChain c).heard = true → x.rx.find? (fun m => m.c.val == c) = some m →
      closeRx e x c d = rxReading e c m.pw m.raw m.clipped m.total d) ∧
    (∀ c, (d.rxChain c).heard = false → closeRx e x c d = d.modRx c fun z => { z with pwr := none, raw := 0, seq := (z.seq + 1) % 256 }) ∧
    (∀ c q r y a, d.eng.comp.lookup c = some (q, r, y, a) → (d.txChain c).heard = false →
      closeTx x c d = { d.modTx c fun z => { z with peak := -20000 } with eng := { d.eng with comp := tput d.eng.comp c ((q + 1) % 256, 0, y, false) } }) ∧
    (∀ i r hi lo, i < 256 → (d.loop i).computes = true → (d.loop i).mode = .auto → (d.loop i).rec_ = some r → (d.loop i).lastSeq ≠ some r.seq →
      (feed (d.loop i)).frzRun < 64 → (d.loop i).lims = some (hi, lo) →
      let e16 := (d.loop i).glide.pos - r.y * one16
      let u := integrate (d.loop i).u (correction d i e16) hi lo r.valid
      ((computeLoop e i d).loop i).u = u.1 ∧ ((computeLoop e i d).loop i).frz = u.2 ∧
        ((computeLoop e i d).loop i).staged = some (roundDivAway u.1 256)) ∧
    (∀ u corr hi lo v, lo ≤ hi → 256 * lo ≤ (integrate u corr hi lo v).1 ∧ (integrate u corr hi lo v).1 ≤ 256 * hi) ∧
    (∀ u corr hi lo, lo ≤ hi → (256 * lo ≤ u → u ≤ 256 * hi → integrate u corr hi lo false = (u, false)) ∧
      (256 * hi ≤ u → 0 < corr → integrate u corr hi lo true = (256 * hi, true)) ∧
      (u ≤ 256 * lo → corr < 0 → integrate u corr hi lo true = (256 * lo, true)) ∧
      (256 * lo < u → u < 256 * hi → integrate u corr hi lo true = (clampI (u + corr) (256 * lo) (256 * hi), false))) ∧
    (∀ i e16, 0 < d.get LOOP_CFG.ESTEP i → d.flag LOOP_CFG.NEG i = false →
      (2064384 * (d.get LOOP_CFG.ESTEP i : Int) ≤ e16 → correction d i e16 = lutAt d (d.get LOOP_CFG.LUT_SEL i) 63 * 2 ^ d.get LOOP_CFG.KSH i) ∧
      (e16 ≤ -2064384 * (d.get LOOP_CFG.ESTEP i : Int) → correction d i e16 = lutAt d (d.get LOOP_CFG.LUT_SEL i) 0 * 2 ^ d.get LOOP_CFG.KSH i)) ∧
    (∀ i v, i < 256 → (d.loop i).staged = some v →
      ((applyOut i d).loop i).out = (d.loop i).clamp v ∧ ((applyOut i d).loop i).staged = none) ∧
    (∀ i v hi lo, i < 256 → (d.loop i).staged = some v → (d.loop i).lims = some (hi, lo) → lo ≤ hi →
      lo ≤ ((applyOut i d).loop i).out ∧ ((applyOut i d).loop i).out ≤ hi) ∧
    (∀ am jm dt g, glideStep 0 am jm dt g = { g with pos := g.tgt * one16, vel := 0, acc := 0 }) ∧
    (∀ vm am jm dt g, (g.pos ≤ g.tgt * one16 → (glideStep vm am jm dt g).pos ≤ g.tgt * one16) ∧
      (g.tgt * one16 ≤ g.pos → g.tgt * one16 ≤ (glideStep vm am jm dt g).pos)) ∧
    (∀ n, n < 192 → (d.canc n).st = .acquire ∨ (d.canc n).st = .track → (d.canc n).acc.blocks = 0 → (d.canc n).young = false →
      ((cnlFigures e n d).canc n).st = .hold ∧ ((cnlFigures e n d).canc n).fromTrack = decide ((d.canc n).st = .track)) ∧
    (∀ n, n < 192 → (d.canc n).acc.blocks = 0 → (d.canc n).young = true → ((cnlFigures e n d).canc n).st = (d.canc n).st) ∧
    (∀ n, n < 192 → (d.canc n).st ≠ .off → (refsUsed d n).isEmpty = false → (d.canc n).measured = true →
      ((cnlPublish e n d).canc n).ieff =
        (d.canc n).iphys + (if (d.canc n).st = .acquire then min (d.canc n).dPub 0 else (d.canc n).dPub) - (d.canc n).short) ∧
    (∀ n, n < 192 → (d.canc n).st ≠ .off → (refsUsed d n).isEmpty = true → ((cnlPublish e n d).canc n).ieff = 15000) ∧
    (e.fix.isSome = true → SCause.self ∈ (selfTest e false d).ptl.causes ∧ (selfTest e false d).ptl.copyBad = true) ∧
    (∀ b, d.get PTL_TIME.DLOSS_T ≠ 0 → (b || d.slices.any fun p => !isUl d p.1 && p.2.meas.pres) = true →
      (dlossBoundary b d).ptl.absent = 0) ∧
    ((d.slices.any fun p => !isUl d p.1 && p.2.meas.pres) = false → d.get PTL_TIME.DLOSS_T ≠ 0 → d.get PTL_TIME.DLOSS_REL ≠ 0 →
      (dlossBoundary false d).ptl.absent = satN (d.ptl.absent + 1) 20400 ∧ (dlossBoundary false d).ptl.present = 0) ∧
    (∀ c q r y pmax, d.eng.comp.lookup c = some (q, r, y, true) → fixPower e c = some pmax → dirOpen d (txUl c) = true → 300 < y - pmax →
      DCause.cpwr ∈ dirCauses (cpwrBoundary e c d) (txUl c))

/-- A scheduled flush starts with rewriting; a verified record write makes its slot valid and the flush goes on; a first
failure is retried in the same slot, a second moves the record to the next slot and reports REC_WRITE_FAIL; the erase of
a clear that started first ends. -/
def Obligations.RecorderEvents : Prop :=
  ∀ (s : State), Running s → 
    (exec (.scheduledFlush) s = .next (s.then_ (startFlush true s.dev))) ∧
    (∀ w, s.dev.rcd.wr = some w → exec (.recordWriteDone true) s = .next (s.then_ (kick (writeOk w s.dev)))) ∧
    (∀ w, s.dev.rcd.wr = some w → w.retried = false → exec (.recordWriteDone false) s = .next (s.then_ (s.dev.modRcd fun x => { x with wr := some { w with retried := true } }))) ∧
    (∀ w, s.dev.rcd.wr = some w → w.retried = true → exec (.recordWriteDone false) s = .next (s.then_ (report s.env (writeMove w s.dev) Ev.REC_WRITE_FAIL 0xFF (areaAux w.area w.slot)))) ∧
    (∀ l, s.dev.rcd.clrBusy = .varnish :: l → exec (.clearEraseDone) s = .next (s.then_ (s.dev.modRcd fun x => { x with clrBusy := l, varnish := x.varnish.filter fun p => decide (p.1 < x.vUsed) }))) ∧
    (∀ l, s.dev.rcd.clrBusy = .palette :: l → exec (.clearEraseDone) s = .next (s.then_ (s.dev.modRcd fun x => { x with clrBusy := l, palette := x.palette.filter fun p => decide (p.1 < x.pHead) })))

/-- A channel that has powered up drives PARK, stays parked where a park cause stands, and is released with EN = 0; a slew
step moves OUT towards its goal; a channel at PARK parks, or is released with EN = 0; OFFING ends in OFF; a span switch
ends in the new range; a stopping sine ends at its zero crossing, where OUT of a driving channel returns to T; a driven
output that limits its current is reported; the load timer loads every timer channel with a pending code when its Tow
time has come; the update tick loads codes and advances sines. -/
def Obligations.BdacEvents : Prop :=
  ∀ (s : State), Running s → 
    (∀ (c : Fin 48), (s.dev.chan c.val).starting = true → (s.dev.dom 71).phase = .on → s.dev.flag BDAC_CFG.EN c.val = true → chansLeave s.dev = false → (s.dev.chan c.val).pcause = [] → exec (.bdacPowered c) s = .next (s.then_ (s.dev.setChan c.val { s.dev.chan c.val with starting := false, driven := true, out := parkCode s.dev c.val, moved := true, st := .drive, back := (s.dev.chan c.val).back && decide ((s.dev.chan c.val).t ≠ parkCode s.dev c.val) }))) ∧
    (∀ (c : Fin 48), (s.dev.chan c.val).starting = true → (s.dev.dom 71).phase = .on → s.dev.flag BDAC_CFG.EN c.val = true → chansLeave s.dev = false → (s.dev.chan c.val).pcause ≠ [] → exec (.bdacPowered c) s = .next (s.then_ (s.dev.setChan c.val { s.dev.chan c.val with starting := false, driven := true, out := parkCode s.dev c.val, moved := true, st := .parked, back := true }))) ∧
    (∀ (c : Fin 48), (s.dev.chan c.val).starting = true → (s.dev.dom 71).phase = .on → s.dev.flag BDAC_CFG.EN c.val = false → exec (.bdacPowered c) s = .next (s.then_ (bdacRelease c.val (s.dev.setChan c.val { s.dev.chan c.val with starting := false, driven := true, out := parkCode s.dev c.val, moved := true })))) ∧
    (∀ (c : Fin 48), (s.dev.chan c.val).st = .drive → (s.dev.chan c.val).sineOn = false → exec (.bdacSlewStep [c]) s = .next (s.then_ (bdacStep c.val s.dev))) ∧
    (∀ (c : Fin 48), (s.dev.chan c.val).st = .parking → (s.dev.chan c.val).out = parkCode s.dev c.val → (s.dev.chan c.val).chg = none → s.dev.flag BDAC_CFG.EN c.val = true → s.dev.pwr.sleep ≠ .entering → (s.dev.chan c.val).pcause ≠ [] → exec (.bdacParkReached c) s = .next (s.then_ (s.dev.setChan c.val { s.dev.chan c.val with st := .parked }))) ∧
    (∀ (c : Fin 48), (s.dev.chan c.val).st = .parking → (s.dev.chan c.val).out = parkCode s.dev c.val → (s.dev.chan c.val).chg = none → s.dev.flag BDAC_CFG.EN c.val = false → exec (.bdacParkReached c) s = .next (s.then_ (bdacRelease c.val s.dev))) ∧
    (∀ (c : Fin 48), (s.dev.chan c.val).st = .offing → (s.dev.chan c.val).queued = false → exec (.bdacOffingDone c) s = .next (s.then_ (bankDomain (s.dev.setChan c.val { s.dev.chan c.val with st := .off, queued := false })))) ∧
    (∀ (c : Fin 48) z, (s.dev.chan c.val).st = .span → (s.dev.chan c.val).chg = some z → exec (.bdacSpanSwitchDone c) s = .next (s.then_ (spanDone c.val s.dev))) ∧
    (∀ (c : Fin 48), (s.dev.chan c.val).sineOn = true → (s.dev.chan c.val).sineStop = true → exec (.bdacSineZeroCross c) s = .next (s.then_ ((s.dev.setChan c.val { s.dev.chan c.val with sineOn := false, sineStop := false, acc := 0, out := if (s.dev.chan c.val).st = .drive then (s.dev.chan c.val).t else (s.dev.chan c.val).out, probe := none }).put BDAC_SINE.RUN c.val 0))) ∧
    (∀ (c : Fin 48), (s.dev.chan c.val).driven = true → exec (.bdacIlim c) s = .next (s.then_ (report s.env s.dev Ev.BDAC_ILIM c.val 0))) ∧
    (∀ ofs, s.dev.flag BDAC_TT_CTL.ARM = true → timerTime s.dev ≤ towNow (s.dev.atOfs ofs) → exec (.bdacTimerLoad ofs) s = .next (s.then_ (timerLoad (s.dev.atOfs ofs)))) ∧
    (∀ ofs, exec (.bdacUpdateTick ofs) s = .next (s.then_ (bdacTick (s.dev.atOfs ofs))))

/-- A housekeeping slot writes its result and moves on; a lap ends; a gate gives its sensor a reading for the shutdown
comparators; a domain that powers up is ON when it is still requested and drains otherwise, a drained one goes OFFING or
back to ON, an OFFING one is OFF, and one that fails to power up is OFF with PWR_DOMAIN_FAIL. -/
def Obligations.HousekeepingAndDomains : Prop :=
  ∀ (s : State), Running s → 
    (∀ (code : Fin 65536) v, s.dev.hk.slot ≤ 127 → exec (.hkSlotEnd code v) s = .next (s.then_ (slotEnd s.env code.val v s.dev))) ∧
    (∀ xo, exec (.hkLapEnd xo) s = .next (s.then_ (lapEnd s.env xo s.dev))) ∧
    (∀ (n : Fin 16) count tf inr, exec (.sensorGateEnd n count tf inr) s = .next (s.then_ (gateEnd s.env n.val count tf inr s.dev))) ∧
    (∀ (n : Fin 72), (s.dev.dom n.val).phase = .powering → (s.dev.dom n.val).req = true → exec (.domainPowerUpDone n) s = .next (s.then_ (tilesFollow (domNext (clearLive (s.dev.setDom n.val { s.dev.dom n.val with phase := .on, upCnt := satN ((s.dev.dom n.val).upCnt + 1) 0xFF }) Ev.PWR_DOMAIN_FAIL n.val))))) ∧
    (∀ (n : Fin 72), (s.dev.dom n.val).phase = .powering → (s.dev.dom n.val).req = false → exec (.domainPowerUpDone n) s = .next (s.then_ (tilesFollow (domNext (clearLive (s.dev.setDom n.val { s.dev.dom n.val with phase := .draining, upCnt := satN ((s.dev.dom n.val).upCnt + 1) 0xFF }) Ev.PWR_DOMAIN_FAIL n.val))))) ∧
    (∀ (n : Fin 72), (s.dev.dom n.val).phase = .draining → (s.dev.dom n.val).req = false → exec (.domainDrainDone n) s = .next (s.then_ (tilesFollow (s.dev.setDom n.val { s.dev.dom n.val with phase := .offing })))) ∧
    (∀ (n : Fin 72), (s.dev.dom n.val).phase = .draining → (s.dev.dom n.val).req = true → exec (.domainDrainDone n) s = .next (s.then_ (tilesFollow (s.dev.setDom n.val { s.dev.dom n.val with phase := .on })))) ∧
    (∀ (n : Fin 72), (s.dev.dom n.val).phase = .offing → (s.dev.dom n.val).queued = false → exec (.domainOffingDone n) s = .next (s.then_ (tilesFollow (s.dev.setDom n.val { s.dev.dom n.val with phase := .off })))) ∧
    (∀ (n : Fin 72), (s.dev.dom n.val).phase = .powering → exec (.domainPowerUpTimeout n) s = .next (s.then_ (tilesFollow (domNext (raiseLive s.env (s.dev.setDom n.val { s.dev.dom n.val with phase := .off, failed := !counted n.val }) Ev.PWR_DOMAIN_FAIL n.val 0))))) ∧
    (∀ (n : Fin 192), mayDoze s.dev n.val = true → exec (.dozeEntry n) s = .next (s.then_ (s.dev.modSlice n.val fun x => { x with doze := true })))

/-- When the sleep sequence has ended its last stage, MAIN_EN falls and the core is gone, held in reset where the board
leaves MAIN_EN unconnected (R454); in SLEEP an enabled WAKE edge, Tow activity or the wake timer drives MAIN_EN high and
records its cause, and an energy window with enough energy counts; the crystal stops and runs again; a cause held during
ENTERING acts after MAIN_EN has fallen. -/
def Obligations.SleepAndWake : Prop :=
  ∀ (s : State), 
    (s.dev.pwr.sleep = .entering → s.dev.pwr.stage = 2 → domainsOff s.dev = true → s.dev.ret.job = none → s.dev.rcd.flushing = false →
      exec .sleepEntered s = .next (s.then_ (coreOff (!s.env.mainEnWired) { s.dev with pwr := { s.dev.pwr with sleep := .asleep, mainEn := false, stage := 0, pwrGood := s.dev.pwr.pwrGood && !s.env.mainEnWired }, flt := { s.dev.flt with alive := false, aliveRun := false } }))) ∧
    (s.dev.pwr.sleep = .asleep → s.dev.pwr.heldWake = none → s.dev.flag LDG_WAKE_CFG.PIN_EN = true →
      exec .wakePinEdge s = .next (s.then_ (wakeNow 1 0 s.dev))) ∧
    (s.dev.pwr.sleep = .asleep → s.dev.pwr.heldWake = none → s.dev.flag LDG_WAKE_CFG.TOW_EN = true →
      exec .towActivityWake s = .next (s.then_ (wakeNow 4 0 s.dev))) ∧
    (s.dev.pwr.sleep = .asleep → s.dev.pwr.heldWake = none → s.dev.get LDG_WAKE_TMR.SEC ≠ 0 → s.dev.pwr.xtalOk = true →
      exec .wakeTimerExpiry s = .next (s.then_ (wakeNow 8 0 s.dev))) ∧
    (∀ (pin : Fin 8) t, exec (.rfEnergyWindow pin t) s = .next (s.then_ (rfWindow pin.val t s.dev))) ∧
    (∀ c p, s.dev.pwr.sleep = .asleep → s.dev.pwr.heldWake = some (c, p) → exec .heldWakeRelease s = .next (s.then_ (wakeNow c p s.dev))) ∧
    (Running s → exec .xtalStop s = .next (s.then_ (setLive s.env Ev.LDG_XTAL 0xFF true (s.dev.modPwr fun p => { p with xtalOk := false })))) ∧
    (Running s → exec .xtalResume s = .next (s.then_ (setLive s.env Ev.LDG_XTAL 0xFF false (s.dev.modPwr fun p => { p with xtalOk := true }))))

/-- The Lodge's supply makes it wait for PWR_GOOD with what it kept gone; PWR_GOOD starts the wait before the reset release;
RESET_N low puts the core in reset and keeps only what R367 keeps; a power-fail trip commits on the hold-up and takes
the core off; a cold start needs supplies and a reset before it and runs R370; a warm restart needs a request; a Lodge
commit writes the copy that is not selected. -/
def Obligations.ResetsAndStarts : Prop :=
  ∀ (s : State), 
    (exec .lodgePowerUp s = .next (s.then_ (lodgePowerUp s.dev))) ∧
    (exec .pwrGoodRise s = .next (s.then_ { s.dev with pwr := { s.dev.pwr with pwrGood := true, relWait := s.dev.pwr.relWait || (s.dev.pwr.mainEn && (s.dev.pwr.inReset || s.dev.boot.phase = .rom)) } })) ∧
    (s.dev.pwr.mainEn = true → exec .resetAssert s = .next (s.then_ (coreOff true s.dev))) ∧
    (∀ c, s.dev.pwr.mainEn = true → s.dev.pwr.failed = false → exec (.powerFailTrip c) s = .next (s.then_ (coreOff true (powerFail s.env (fillSnaps s.env) c s.dev)))) ∧
    (∀ x, s.dev.pwr.mainEn = true → s.dev.pwr.pwrGood = true → (s.dev.pwr.inReset || s.dev.boot.phase = .rom) = true →
      exec (.coldStart x) s = .next { s with env := (coldStart x s.env s.dev).1, dev := settle (coldStart x s.env s.dev).1 (coldStart x s.env s.dev).2 } ∧
      ((coldStart x s.env s.dev).1.pwrcyc = (s.env.pwrcyc + 1) % 4294967296 ∨ s.dev.pwr.lodgeLost = true)) ∧
    (∀ x, s.dev.boot.warmReq = true → Running s →
      exec (.warmRestart x) s = .next { s with env := (warmRestart x s.env s.dev).1, dev := settle (warmRestart x s.env s.dev).1 (warmRestart x s.env s.dev).2 } ∧
      (warmRestart x s.env s.dev).1.pwrcyc = s.env.pwrcyc) ∧
    (nvBarred s.dev = false → exec .lodgeCommit s = .next (s.then_ (lodgeWrite s.env false s.dev)))

/-- A commit starts with a new sequence number and invalidates its target copy; its segments are written one after another,
a failed one is retried once and then fails the commit, and a trigger that fell during it starts the next, and the last
one selects the new copy, clears RET_COMMIT_FAIL and starts the commit of a trigger that fell during it; a waiting
replacement takes a spare; a copied one moves the slice; the freeze, the switch and the hand-back of a handover; a
mismatch and a reload of a pair. -/
def Obligations.CommitsSparesPairs : Prop :=
  ∀ (s : State), Running s → 
    (nvBarred s.dev = false → s.dev.pwr.failed = false → s.dev.ret.job = none → exec (.retainedCommitTimer) s = .next (s.then_ (s.dev.modRet fun r => { r with job := some { cfg := retainedNow s.dev (((cfgChosen s.dev.ret).map (·.seq)).getD 0 + 1), left := commitSegments (retainedNow s.dev (((cfgChosen s.dev.ret).map (·.seq)).getD 0 + 1)), retried := false }, dirty := false, again := false, cfgA := if r.cfgSel then none else r.cfgA, cfgB := if r.cfgSel then r.cfgB else none }))) ∧
    (∀ j, nvBarred s.dev = false → s.dev.pwr.failed = false → s.dev.ret.job = some j → 1 < j.left → exec (.retainedSegmentDone true) s = .next (s.then_ (s.dev.modRet fun r => { r with job := some { j with left := j.left - 1, retried := false } }))) ∧
    (∀ j, nvBarred s.dev = false → s.dev.pwr.failed = false → s.dev.ret.job = some j → j.retried = false → exec (.retainedSegmentDone false) s = .next (s.then_ (s.dev.modRet fun r => { r with job := some { j with retried := true } }))) ∧
    (∀ j, nvBarred s.dev = false → s.dev.pwr.failed = false → s.dev.ret.job = some j → j.retried = true → s.dev.ret.again = false → exec (.retainedSegmentDone false) s = .next (s.then_ (raiseLive s.env (commitDrop s.dev) Ev.RET_COMMIT_FAIL 0xFF 0))) ∧
    (∀ j, nvBarred s.dev = false → s.dev.pwr.failed = false → s.dev.ret.job = some j → j.retried = true → s.dev.ret.again = true → exec (.retainedSegmentDone false) s = .next (s.then_ (commitStart (raiseLive s.env (commitDrop s.dev) Ev.RET_COMMIT_FAIL 0xFF 0)))) ∧
    (∀ j, s.dev.pwr.failed = false → s.dev.ret.job = some j → j.left ≤ 1 → s.dev.ret.again = false → exec (.retainedSegmentDone true) s = .next (s.then_ (clearLive (s.dev.modRet fun r => { r with job := none, cfgSel := !r.cfgSel, cfgA := if r.cfgSel then some j.cfg else r.cfgA, cfgB := if r.cfgSel then r.cfgB else some j.cfg }) Ev.RET_COMMIT_FAIL 0xFF))) ∧
    (∀ j, s.dev.pwr.failed = false → s.dev.ret.job = some j → j.left ≤ 1 → s.dev.ret.again = true → exec (.retainedSegmentDone true) s = .next (s.then_ (commitStart (clearLive (s.dev.modRet fun r => { r with job := none, cfgSel := !r.cfgSel, cfgA := if r.cfgSel then some j.cfg else r.cfgA, cfgB := if r.cfgSel then r.cfgB else some j.cfg }) Ev.RET_COMMIT_FAIL 0xFF)))) ∧
    (s.dev.spr.now = none → s.dev.thm.sd = false → (spareNext s.dev).isSome = true → exec (.spareReplacementStart) s = .next (s.then_ (spareStart s.env s.dev))) ∧
    (∀ p, s.dev.spr.now.isSome = true → s.dev.spr.dest = some p → (s.dev.dom (p / 4)).phase = .on → exec (.spareCopyDone) s = .next (s.then_ (spareDone s.dev))) ∧
    (s.dev.sup.pend = true → s.dev.sup.held = false → exec (.handoverFreeze) s = .next (s.then_ (s.dev.modSup fun x => { x with frozen := true }))) ∧
    (∀ b, s.dev.sup.pend = true → s.dev.sup.frozen = true → pairIn s.dev .ready = some b → exec (.handoverSwitch) s = .next (s.then_ (takeOver b .ready s.dev))) ∧
    (s.dev.sup.waitBeat.isSome = true → exec (.handoverHbTimeout) s = .next (s.then_ (handoverBack s.env s.dev))) ∧
    (∀ b, (pairOf s.dev b).st = .active ∨ (pairOf s.dev b).st = .ready → exec (.lockstepMismatch b) s = .next (s.then_ (lockstep s.env b s.dev))) ∧
    (∀ b, (pairOf s.dev b).st = .loading → exec (.pairReloadDone b) s = .next (s.then_ (pairReloaded b s.dev)))

/-- A submitted WRITES command that passes every check applies its runs in order as one batch, counts the discarded words in
REJ_CNT and ends ACCEPTED; a FIXATIVE, USERCAL or FIRMWARE command that passes writes its slot, its area or the pair
that loads, which is READY with the new image (and takes over at once where no pair is ACTIVE, log entry 131), and ends
ACCEPTED; one of FIXATIVE or USERCAL does not begin its write while SHUTDOWN bars it; a FIRMWARE section that fails its
check leaves the pair READY with the image of the active one, where there is one; with no pair to load, FIRMWARE ends
with RESULT 8. A command of each of the four kinds that fails ends with the RESULT of that check and applies nothing:
apart from the record and the fault of the failure, the state of the authorisation and the held handover, nothing
changes, and of the registers FLT_IRQ_STAT alone may. Where no such command is submitted, nothing changes. A buffer left
alone for 60 s ends with TIMEOUT, the lockout ends, and a Fixative that waits takes effect. -/
def Obligations.AuthorisedCommands : Prop :=
  ∀ (s : State), Running s → 
    (∀ b r c, submitted s.env .writes s.dev = .good b r c → exec (.authWrites) s = .next (s.then_ (authEnd s.env 1 (writeAll s.env b ((runsOf c.body).getD []) { d := s.dev }).gone (closeBatch s.env b (writeAll s.env b ((runsOf c.body).getD []) { d := s.dev }).d)))) ∧
    (∀ res, submitted s.env .writes s.dev = .bad res → exec (.authWrites) s = .next (s.then_ (authFail s.env res s.dev))) ∧
    (∀ b r c, submitted s.env .fixative s.dev = .good b r c → nvBarred s.dev = false →
      exec .authFixative s = .next { s with env := fixWrite b (slotOf r c) s.env, dev := settle (fixWrite b (slotOf r c) s.env) (authEnd s.env 1 0 s.dev) }) ∧
    (∀ res, submitted s.env .fixative s.dev = .bad res → exec (.authFixative) s = .next (s.then_ (authFail s.env res s.dev))) ∧
    (∀ b r c, submitted s.env .fixative s.dev = .good b r c → nvBarred s.dev = true → exec (.authFixative) s = .next (s.then_ (s.dev))) ∧
    (∀ res, submitted s.env .usercal s.dev = .bad res → exec (.authUsercal) s = .next (s.then_ (authFail s.env res s.dev))) ∧
    (∀ b r c, submitted s.env .usercal s.dev = .good b r c → nvBarred s.dev = true → exec (.authUsercal) s = .next (s.then_ (s.dev))) ∧
    (submitted s.env .writes s.dev = .none_ → exec (.authWrites) s = .next (s.then_ (s.dev))) ∧
    (submitted s.env .fixative s.dev = .none_ → exec (.authFixative) s = .next (s.then_ (s.dev))) ∧
    (submitted s.env .usercal s.dev = .none_ → exec (.authUsercal) s = .next (s.then_ (s.dev))) ∧
    (submitted s.env .firmware s.dev = .none_ → exec (.authFirmware) s = .next (s.then_ (s.dev))) ∧
    (∀ res, authFail s.env res s.dev = { s.dev with regs := (authFail s.env res s.dev).regs, rcd := (authFail s.env res s.dev).rcd, flt := (authFail s.env res s.dev).flt, auth := (authFail s.env res s.dev).auth, authBlocks := 0, sup := { s.dev.sup with held := false } }) ∧
    (∀ res (n : RegName) i j, n.addr i j ≠ RegName.FLT_IRQ_STAT.addr 0 0 → (authFail s.env res s.dev).reg n i j = s.dev.reg n i j) ∧
    (∀ res, (authFail s.env res s.dev).auth.result = res ∧ (authFail s.env res s.dev).auth.submit = none ∧ (authFail s.env res s.dev).auth.words = []) ∧
    (∀ b r c, submitted s.env .usercal s.dev = .good b r c → nvBarred s.dev = false → exec (.authUsercal) s = .next (s.then_ (authEnd s.env 1 0 (ucalStart b c.body s.dev)))) ∧
    (∀ b r c p, submitted s.env .firmware s.dev = .good b r c → firmwarePair s.dev = some p → exec (.authFirmware) s = .next (s.then_ (authEnd s.env 1 0 (pairReady p (modPair p (fun q => { q with img := crc32 c.body }) s.dev))))) ∧
    (∀ res, submitted s.env .firmware s.dev = .bad res → res ≠ 8 → exec (.authFirmware) s = .next (s.then_ (authFail s.env res s.dev))) ∧
    (submitted s.env .firmware s.dev = .bad 8 → firmwarePair s.dev = none → exec (.authFirmware) s = .next (s.then_ (authFail s.env 8 s.dev))) ∧
    (∀ p, submitted s.env .firmware s.dev = .bad 8 → firmwarePair s.dev = some p → pairIn s.dev .active = none → exec (.authFirmware) s = .next (s.then_ (pairReady p (authFail s.env 8 s.dev)))) ∧
    (∀ p a, submitted s.env .firmware s.dev = .bad 8 → firmwarePair s.dev = some p → pairIn s.dev .active = some a → exec (.authFirmware) s = .next (s.then_ (pairReady p (modPair p (fun q => { q with img := (pairOf s.dev a).img }) (authFail s.env 8 s.dev))))) ∧
    (0 < s.dev.authBlocks → s.dev.auth.submit = none → exec (.authBufferTimeout) s = .next (s.then_ (authEnd s.env 10 0 s.dev))) ∧
    (s.dev.auth.lock = true → exec (.authLockoutEnd) s = .next (s.then_ (clearLive { s.dev with auth := { s.dev.auth with lock := false } } Ev.SUP_AUTH_LOCK 0xFF))) ∧
    (∀ b, s.env.fixPend = some b →
      exec .fixativeTakeEffect s = .next { s with env := fixTake s.env, dev := settle (fixTake s.env) (fixEffect (fixTake s.env) b s.dev) })

/-- Applying a list of writes to a device is applying the first and then the rest to what it leaves, whatever became of the
first; the count of words not wholly taken grows by one for each of them, and that of discarded ones for a word of which
no field took effect (R500). A WRITES command that passes its checks applies its runs so under the transport's origin
and the command's role, closes one batch and shows the count of discarded words in REJ_CNT, at most 255. -/
def Obligations.BatchGoesOnAfterRefusal : Prop :=
  (∀ (e : Env) (b : By) (p : Nat × Word) (l : List (Nat × Word)) (z : BatchRes),
      writeAll e b [] z = z ∧
      writeAll e b (p :: l) z = writeAll e b l { d := (writeWord e b p.1 p.2 z.d).d, res := worse z.res (writeWord e b p.1 p.2 z.d).res
                                                 count := z.count + (if (writeWord e b p.1 p.2 z.d).res = 0 then 0 else 1)
                                                 gone := z.gone + b2n (writeWord e b p.1 p.2 z.d).gone }) ∧
    (∀ (e : Env) (d : Dev) (b : By) (r : Role) (c : AuthCmd), submitted e .writes d = .good b r c → b.role = some r ∧
      ∃ a, d.auth.submit = some a ∧ b.origin = a.origin ∧
        authWrites e d = authEnd e 1 (writeAll e b ((runsOf c.body).getD []) { d := d }).gone
          (closeBatch e b (writeAll e b ((runsOf c.body).getD []) { d := d }).d)) ∧
    (∀ (e : Env) (d : Dev) (n : Nat), (authEnd e 1 n d).auth.rejCnt = min n 255 ∧ (authEnd e 1 n d).auth.result = 1)

/-- A port that aligns enters TRAINING, goes UP with its frames going out, and DOWN with its fault, which empties the queue
of TOW_DN and keeps that of TOW_UP (the model's reading, log entry 112); a port that is not UP and not quiet sends its
training burst; an UP port without IDLE_FILL and without a frame holds its line static and sends a burst of IDLE sets
out of the silence; the end of a frame sends the queued frame of the lowest class. -/
def Obligations.TowPorts : Prop :=
  ∀ (s : State), Running s → 
    (∀ dn, (towPort s.dev dn).link = .down → s.dev.flag TOW_PORT_CFG.EN (portNo dn) = true → dn = true ∨ isHead s.dev = false → exec (.towPortTraining dn) s = .next (s.then_ (modPort dn (fun p => { p with link := .training }) s.dev))) ∧
    ((towPort s.dev false).link ≠ .up → s.dev.flag TOW_PORT_CFG.EN (portNo false) = true → isHead s.dev = false → exec (.towPortUp false) s = .next (s.then_ (portKick false (clearLive (modPort false (fun p => { p with link := .up, busy := false, mbx := false, line := .idle }) s.dev) Ev.TOW_LINK_DOWN (portNo false))))) ∧
    ((towPort s.dev true).link ≠ .up → s.dev.flag TOW_PORT_CFG.EN (portNo true) = true → exec (.towPortUp true) s = .next (s.then_ (portKick true (enumerate s.env none (report s.env (clearLive (modPort true (fun p => { p with link := .up, busy := false, mbx := false, line := .idle }) s.dev) Ev.TOW_LINK_DOWN (portNo true)) Ev.TOW_LINK_UP 1 (ownAddr s.dev)))))) ∧
    ((towPort s.dev true).link = .up → exec (.towPortDown true) s = .next (s.then_ (raiseLive s.env (modPort true (fun p => { p with downCnt := satN (p.downCnt + 1) 0xFF }) (modPort true (fun p => { p with link := .down, busy := false, mbx := false, line := .static, queue := [] }) s.dev)) Ev.TOW_LINK_DOWN (portNo true) (ownAddr s.dev)))) ∧
    ((towPort s.dev false).link = .up → exec (.towPortDown false) s = .next (s.then_ (towUnlock s.env (raiseLive s.env (modPort false (fun p => { p with downCnt := satN (p.downCnt + 1) 0xFF }) (modPort false (fun p => { p with link := .down, busy := false, mbx := false, line := .static, queue := p.queue }) s.dev)) Ev.TOW_LINK_DOWN (portNo false) (ownAddr s.dev))))) ∧
    (∀ dn, (towPort s.dev dn).link ≠ .up → s.dev.flag TOW_PORT_CFG.EN (portNo dn) = true → s.dev.flag TOW_PORT_CFG.QUIET (portNo dn) = false → dn = true ∨ isHead s.dev = false → exec (.towTrainingBurst dn) s = .next (s.then_ (modPort dn (fun p => { p with line := .training, trainAt := coreNow s.dev }) s.dev))) ∧
    (∀ dn, (towPort s.dev dn).link = .up → (towPort s.dev dn).busy = false → s.dev.flag TOW_PORT_CFG.IDLE_FILL (portNo dn) = false → lineNow s.dev dn = .static → exec (.towIdleBurst dn) s = .next (s.then_ (modPort dn (fun p => { p with line := .burst, trainAt := coreNow s.dev }) s.dev))) ∧
    (∀ dn, (towPort s.dev dn).link ≠ .up ∨ (towPort s.dev dn).busy = true ∨ s.dev.flag TOW_PORT_CFG.IDLE_FILL (portNo dn) = true → exec (.towIdleBurst dn) s = .next (s.then_ (s.dev))) ∧
    (∀ dn, (towPort s.dev dn).link = .up → (towPort s.dev dn).busy = false → s.dev.flag TOW_PORT_CFG.IDLE_FILL (portNo dn) = false → exec (.towLineStatic dn) s = .next (s.then_ (modPort dn (fun p => { p with line := .static }) s.dev))) ∧
    (∀ dn ofs, exec (.towQueueDispatch dn ofs) s = .next (s.then_ (portKick dn (modPort dn (fun p => { p with busy := false, mbx := false }) (s.dev.atOfs ofs)))))

/-- A frame that the receive rules let through for this device acts: a WRITE, READ or BULK of a device that is not the head
and holds no handover is served, and waits in order during one, and one at the head or before the firmware runs only
passes; a HEARTBEAT enters the head's book; ENUM at an addressed device goes on as it is, gives an unaddressed one the
address and epoch of its entry in the book, else ARG and the header's EPOCH with ARG one higher from there on, else,
with ARG at 0x7FE, TOW_NOADDR; at the head the returned one gives the next free address and the epochs are broadcast;
EPOCH, PROMOTE and BENCH change epochs and the bench; NETSTOP starts a STOP with cause TOW; GATHER, SYNC and DELAY
frames act on the gather and on Tow time; an EVENT of TOW_LINK_UP at the head starts an enumeration; RESP frames and
other EVENT frames only pass. -/
def Obligations.TowFramesActedOn : Prop :=
  ∀ (s : State), Running s → 
    (∀ dn f ofs d g, receive s.env dn 1 f (s.dev.atOfs ofs) = (d, .act g) → isHead d = false → firmwareUp d = true → handoverHolds d = false → exec (.towWrite dn f ofs) s = .next (s.then_ (serveTow s.env g d))) ∧
    (∀ dn f ofs d g, receive s.env dn 2 f (s.dev.atOfs ofs) = (d, .act g) → isHead d = false → firmwareUp d = true → handoverHolds d = false → exec (.towRead dn f ofs) s = .next (s.then_ (serveTow s.env g d))) ∧
    (∀ dn f ofs d g, receive s.env dn 4 f (s.dev.atOfs ofs) = (d, .act g) → isHead d = false → firmwareUp d = true → handoverHolds d = false → exec (.towBulk dn f ofs) s = .next (s.then_ (serveTow s.env g d))) ∧
    (∀ dn f ofs d g, receive s.env dn 1 f (s.dev.atOfs ofs) = (d, .act g) → isHead d = false → firmwareUp d = true → handoverHolds d = true → exec (.towWrite dn f ofs) s = .next (s.then_ (d.modTow fun t => { t with held := t.held ++ [g] }))) ∧
    (∀ dn f ofs d g, receive s.env dn 2 f (s.dev.atOfs ofs) = (d, .act g) → isHead d = false → firmwareUp d = true → handoverHolds d = true → exec (.towRead dn f ofs) s = .next (s.then_ (d.modTow fun t => { t with held := t.held ++ [g] }))) ∧
    (∀ dn f ofs d g, receive s.env dn 4 f (s.dev.atOfs ofs) = (d, .act g) → isHead d = false → firmwareUp d = true → handoverHolds d = true → exec (.towBulk dn f ofs) s = .next (s.then_ (d.modTow fun t => { t with held := t.held ++ [g] }))) ∧
    (∀ dn f ofs d g, receive s.env dn 1 f (s.dev.atOfs ofs) = (d, .act g) → isHead d = true ∨ firmwareUp d = false → exec (.towWrite dn f ofs) s = .next (s.then_ (d))) ∧
    (∀ dn f ofs d g, receive s.env dn 2 f (s.dev.atOfs ofs) = (d, .act g) → isHead d = true ∨ firmwareUp d = false → exec (.towRead dn f ofs) s = .next (s.then_ (d))) ∧
    (∀ dn f ofs d g, receive s.env dn 4 f (s.dev.atOfs ofs) = (d, .act g) → isHead d = true ∨ firmwareUp d = false → exec (.towBulk dn f ofs) s = .next (s.then_ (d))) ∧
    (∀ dn f ofs, portOn s.dev dn = true → exec (.towResp dn f ofs) s = .next (s.then_ ((receive s.env dn 3 f (s.dev.atOfs ofs)).1))) ∧
    (∀ dn f ofs d g, receive s.env dn 6 f (s.dev.atOfs ofs) = (d, .act g) → isHead d = true → leAt g.pay 14 2 = Ev.TOW_LINK_UP → exec (.towEvent dn f ofs) s = .next (s.then_ (enumerate s.env none d))) ∧
    (∀ dn f ofs d g, receive s.env dn 6 f (s.dev.atOfs ofs) = (d, .act g) → isHead d = false ∨ leAt g.pay 14 2 ≠ Ev.TOW_LINK_UP → exec (.towEvent dn f ofs) s = .next (s.then_ (d))) ∧
    (∀ dn f ofs, (receive s.env dn 6 f (s.dev.atOfs ofs)).2 = .drop → exec (.towEvent dn f ofs) s = .next (s.then_ ((receive s.env dn 6 f (s.dev.atOfs ofs)).1))) ∧
    (∀ dn f ofs d g, receive s.env dn 5 f (s.dev.atOfs ofs) = (d, .act g) → isHead d = true → exec (.towHeartbeat dn f ofs) s = .next (s.then_ (headHeartbeat s.env g d))) ∧
    (∀ dn f ofs d g, receive s.env dn 5 f (s.dev.atOfs ofs) = (d, .act g) → isHead d = false → exec (.towHeartbeat dn f ofs) s = .next (s.then_ (d))) ∧
    (∀ dn f ofs d g, receive s.env dn 7 f (s.dev.atOfs ofs) = (d, .act g) → isHead d = false → d.tow.addrV = true → exec (.towEnum dn f ofs) s = .next (s.then_ (enumOn s.env g d))) ∧
    (∀ dn f ofs d g k, receive s.env dn 7 f (s.dev.atOfs ofs) = (d, .act g) → isHead d = false → d.tow.addrV = false → (List.range (g.pay.length / 16)).find? (fun k => leAt g.pay (16 * k) 8 == s.env.uid) = some k → exec (.towEnum dn f ofs) s = .next (s.then_ (enumOn s.env g (takeAddr s.env (leAt g.pay (16 * k + 8) 2 % 2048) (leAt g.pay (16 * k + 10) 2) d)))) ∧
    (∀ dn f ofs d g, receive s.env dn 7 f (s.dev.atOfs ofs) = (d, .act g) → isHead d = false → d.tow.addrV = false → (List.range (g.pay.length / 16)).find? (fun k => leAt g.pay (16 * k) 8 == s.env.uid) = none → g.arg < 0x7FE → exec (.towEnum dn f ofs) s = .next (s.then_ (enumOn s.env { g with arg := g.arg + 1 } (takeAddr s.env g.arg g.epoch d)))) ∧
    (∀ dn f ofs d g, receive s.env dn 7 f (s.dev.atOfs ofs) = (d, .act g) → isHead d = false → d.tow.addrV = false → (List.range (g.pay.length / 16)).find? (fun k => leAt g.pay (16 * k) 8 == s.env.uid) = none → 0x7FE ≤ g.arg → exec (.towEnum dn f ofs) s = .next (s.then_ (enumOn s.env g (raiseLive s.env (d.modTow fun t => { t with noAddr := true }) Ev.TOW_NOADDR 0xFF (ownAddr d))))) ∧
    (∀ dn f ofs d g, receive s.env dn 7 f (s.dev.atOfs ofs) = (d, .act g) → isHead d = true → g.last = true → exec (.towEnum dn f ofs) s = .next (s.then_ (epochBroadcast s.env (d.modTow fun t => { t with nextFree := max t.nextFree (g.arg % 2048) })))) ∧
    (∀ dn f ofs d g, receive s.env dn 7 f (s.dev.atOfs ofs) = (d, .act g) → isHead d = true → g.last = false → exec (.towEnum dn f ofs) s = .next (s.then_ (d))) ∧
    (∀ a ep (d : Dev), (takeAddr s.env a ep d).tow.addrV = true ∧ (takeAddr s.env a ep d).tow.addr = a ∧ (takeAddr s.env a ep d).tow.epoch = ep) ∧
    (∀ dn f ofs d g, receive s.env dn 10 f (s.dev.atOfs ofs) = (d, .act g) → isHead d = false → g.dst = d.tow.addr → g.epoch = d.tow.epoch → exec (.towBench dn f ofs) s = .next (s.then_ (enterBench s.env (g.src != 0) d))) ∧
    (∀ dn f ofs d g, receive s.env dn 11 f (s.dev.atOfs ofs) = (d, .act g) → exec (.towNetstop dn f ofs) s = .next (s.then_ (stopFor s.env .tow d))) ∧
    (∀ dn f ofs, (receive s.env dn 8 f (s.dev.atOfs ofs)).2 ≠ .drop → exec (.towEpoch dn f ofs) s = .next (s.then_ (towEpoch s.env dn f (s.dev.atOfs ofs)))) ∧
    (∀ dn f ofs, (receive s.env dn 9 f (s.dev.atOfs ofs)).2 ≠ .drop → exec (.towPromote dn f ofs) s = .next (s.then_ (towPromote s.env dn f (s.dev.atOfs ofs)))) ∧
    (∀ dn f ofs, (receive s.env dn 12 f (s.dev.atOfs ofs)).2 ≠ .drop → exec (.towGatherReq dn f ofs) s = .next (s.then_ (towGatherReq s.env dn f (s.dev.atOfs ofs)))) ∧
    (∀ dn f ofs, (receive s.env dn 13 f (s.dev.atOfs ofs)).2 ≠ .drop → exec (.towGather dn f ofs) s = .next (s.then_ (towGather s.env dn f (s.dev.atOfs ofs)))) ∧
    (∀ dn f ofs, (receive s.env dn 14 f (s.dev.atOfs ofs)).2 ≠ .drop → exec (.towSync dn f ofs) s = .next (s.then_ (towSync s.env dn f (s.dev.atOfs ofs)))) ∧
    (∀ dn f ofs, (receive s.env dn 15 f (s.dev.atOfs ofs)).2 ≠ .drop → exec (.towDelayRequest dn f ofs) s = .next (s.then_ (towDelayReq s.env dn f (s.dev.atOfs ofs)))) ∧
    (∀ dn f ofs, (receive s.env dn 15 f (s.dev.atOfs ofs)).2 ≠ .drop → exec (.towDelayResponse dn f ofs) s = .next (s.then_ (towDelayResp s.env dn f (s.dev.atOfs ofs))))

/-- Timed WRITEs that are due apply at the boundary; gather reads are taken at T_G without side effects, and the tail starts
the train; SYNC, DELAY, HEARTBEAT frames are sent once Tow time has passed an instant of the device, HELLO frames by an
unaddressed device whose firmware runs; a device that gets no SYNC unlocks; the head declares a silent address dead and
broadcasts its epochs. -/
def Obligations.TowOwnTraffic : Prop :=
  ∀ (s : State), Running s → 
    (handoverHolds s.dev = false → exec (.towTimedWriteApply) s = .next (s.then_ (let due := s.dev.tow.timed.filter fun w => decide (w.at_ ≤ s.dev.clk.tow)
        forL due (fun w d => towApply s.env w.frame ((runsOf (w.frame.pay.drop 8)).getD []) false d) (s.dev.modTow fun t => { t with timed := t.timed.filter fun w => decide (s.dev.clk.tow < w.at_) })))) ∧
    (∀ ofs g, s.dev.tow.gather = some g → g.late = false → g.result = none → g.at_ ≤ towNow (s.dev.atOfs ofs) → exec (.gatherSample ofs) s = .next (s.then_ ((s.dev.atOfs ofs).modTow fun t => { t with gather := some { g with result := some ((peek s.env (s.dev.atOfs ofs) g.reg0).toNat, (peek s.env (s.dev.atOfs ofs) g.reg1).toNat) } }))) ∧
    (∀ ofs g, s.dev.tow.gather = some g → g.sent = false → isTail s.dev = true → isHead s.dev = false → 1000 * g.at_ + g.gap * 983040 ≤ 1000 * towNow (s.dev.atOfs ofs) → exec (.gatherTrainStart ofs) s = .next (s.then_ (gatherTrain s.env (s.dev.atOfs ofs)))) ∧
    (∀ ofs, isTail s.dev = false → exec (.towSyncSend ofs) s = .next (s.then_ (sendOwn s.env true { type := 0xE, dst := 0, pay := List.replicate 8 0 } (s.dev.atOfs ofs)))) ∧
    (isHead s.dev = false → exec (.towSyncTimeout) s = .next (s.then_ (towUnlock s.env s.dev))) ∧
    (∀ ofs, s.dev.tow.up.link = .up → isHead s.dev = false → exec (.towDelaySend ofs) s = .next (s.then_ (sendOwn s.env false { type := 0xF, dst := 0, pay := List.replicate 8 0 } (s.dev.atOfs ofs)))) ∧
    (∀ ofs, isHead s.dev = false → s.dev.tow.addrV = true → beatPassed (s.dev.atOfs ofs) = true → exec (.towHeartbeatSend ofs) s = .next (s.then_ (sendHeartbeat s.env (s.dev.atOfs ofs)))) ∧
    (∀ ofs, isHead s.dev = false → s.dev.tow.addrV = false → firmwareUp s.dev = true → exec (.towHelloSend ofs) s = .next (s.then_ (sendHeartbeat s.env (s.dev.atOfs ofs)))) ∧
    (∀ (a : Fin 2048) ofs x, isHead s.dev = true → s.dev.tow.book.find? (fun b => b.addr = a.val) = some x → a.val ∉ s.dev.tow.dead → x.seen + (deadAfter x : Nat) ≤ (towNow (s.dev.atOfs ofs) : Nat) → exec (.towDeadDeclare a ofs) s = .next (s.then_ (deadDeclare s.env a.val (s.dev.atOfs ofs)))) ∧
    (∀ ofs, isHead s.dev = true → exec (.towEpochBroadcast ofs) s = .next (s.then_ (epochBroadcast s.env (s.dev.atOfs ofs))))

/-- PAIR_SENSE gives the line's level; a device that waits and has seen it high for T_W drives the token with its gate
closed; the line low for 10 us opens the gate of the device that drives it; after a release the device stops driving; a
line that reads high while it drives closes the gate and raises the SAFETY fault; 10 s after a release attempts are free
again. -/
def Obligations.PairToken : Prop :=
  ∀ (s : State), Running s → 
    (∀ h, exec (.pairLineChange h) s = .next (s.then_ (modTok (fun t => { t with line := h }) s.dev))) ∧
    (tokenDue s.env s.dev = true → exec (.pairTokenAcquire) s = .next (s.then_ (modTok (fun t => { t with hold := true, gate := false, acqCnt := satN (t.acqCnt + 1) 0xFF }) s.dev))) ∧
    (pairEn s.dev = true → s.dev.tow.tok.line = false → s.dev.tow.tok.hold = true → s.dev.tow.tok.letting = false → benched s.dev = false → exec (.pairGateOpen) s = .next (s.then_ (modTok (fun t => { t with gate := true }) (clearLive s.dev Ev.TOW_TOKEN_FAULT 0xFF)))) ∧
    (s.dev.tow.tok.letting = true → exec (.pairTokenLineRelease) s = .next (s.then_ (modTok (fun t => { t with hold := false, letting := false }) s.dev))) ∧
    (s.dev.tow.tok.hold = true → s.dev.tow.tok.line = true → exec (.towTokenFault) s = .next (s.then_ (raiseLive s.env (modTok (fun t => { t with gate := false }) s.dev) Ev.TOW_TOKEN_FAULT 0xFF (ownAddr s.dev)))) ∧
    (exec (.pairRelBlockExpiry) s = .next (s.then_ (modTok (fun t => { t with blocked := false }) s.dev)))
end

