-- ==== Sys2Proof/Laws/Dispatch.lean ====
section
/-! SUPPORT. exec of each command is that command's meaning. -/
namespace Sys2Proof.Machine

variable (s : State)

theorem exec_extest {cells} : exec (.extest cells) s = execExtest cells s := rfl
theorem exec_samplePreload {pins cells} : exec (.samplePreload pins cells) s = execSamplePreload pins cells s := rfl
theorem exec_idcode : exec .idcode s = execIdcode s := rfl
theorem exec_bypass {code tdi} : exec (.bypass code tdi) s = execBypass code tdi s := rfl
theorem exec_regAccessWrite {a w} : exec (.regAccessWrite a w) s = execRegAccessWrite a w s := rfl
theorem exec_regAccessRead {a} : exec (.regAccessRead a) s = execRegAccessRead a s := rfl
theorem exec_regAccessCapture : exec .regAccessCapture s = execRegAccessCapture s := rfl
theorem exec_regAccessDone : exec .regAccessDone s = execRegAccessDone s := rfl
theorem exec_registerWrite {src a w} : exec (.registerWrite src a w) s = execRegisterWrite src a w s := rfl
theorem exec_unmappedRead {src a} : exec (.unmappedRead src a) s = execUnmappedRead src a s := rfl
theorem exec_glbLockSet {src w} : exec (.glbLockSet src w) s = execGlbLockSet src w s := rfl
theorem exec_ldgOptLoRead {src} : exec (.ldgOptLoRead src) s = execLdgOptLoRead src s := rfl
theorem exec_towTimeLoRead {src ofs} : exec (.towTimeLoRead src ofs) s = execTowTimeLoRead src ofs s := rfl
theorem exec_synRffeRdRead {src m} : exec (.synRffeRdRead src m) s = execSynRffeRdRead src m s := rfl
theorem exec_controlPeriodBoundary {x} : exec (.controlPeriodBoundary x) s = execControlPeriodBoundary x s := rfl
theorem exec_frameOutPulseEnd : exec .frameOutPulseEnd s = execFrameOutPulseEnd s := rfl
theorem exec_frameSyncEdge {ofs} : exec (.frameSyncEdge ofs) s = execFrameSyncEdge ofs s := rfl
theorem exec_ppsEdge {ofs} : exec (.ppsEdge ofs) s = execPpsEdge ofs s := rfl
theorem exec_sourceTimeout {pps} : exec (.sourceTimeout pps) s = execSourceTimeout pps s := rfl
theorem exec_revertDwellExpiry {code} : exec (.revertDwellExpiry code) s = execRevertDwellExpiry code s := rfl
theorem exec_frameTimeStep {x} : exec (.frameTimeStep x) s = execFrameTimeStep x s := rfl
theorem exec_synFtCfgWrite {src k w} : exec (.synFtCfgWrite src k w) s = execSynFtCfgWrite src k w s := rfl
theorem exec_synTdCfgWrite {src n w} : exec (.synTdCfgWrite src n w) s = execSynTdCfgWrite src n w s := rfl
theorem exec_tdDetection {n nid qual settled ofs} : exec (.tdDetection n nid qual settled ofs) s = execTdDetection n nid qual settled ofs s := rfl
theorem exec_tdMissedDetection {n} : exec (.tdMissedDetection n) s = execTdMissedDetection n s := rfl
theorem exec_operatingTimeTick : exec .operatingTimeTick s = execOperatingTimeTick s := rfl
theorem exec_lodgeCommit : exec .lodgeCommit s = execLodgeCommit s := rfl
theorem exec_groupTargetRequest {src g w} : exec (.groupTargetRequest src g w) s = execGroupTargetRequest src g w s := rfl
theorem exec_groupRearm {src g w} : exec (.groupRearm src g w) s = execGroupRearm src g w s := rfl
theorem exec_groupStepDone {g ofs} : exec (.groupStepDone g ofs) s = execGroupStepDone g ofs s := rfl
theorem exec_txWaitExpiry {g} : exec (.txWaitExpiry g) s = execTxWaitExpiry g s := rfl
theorem exec_rxLockWaitExpiry {g} : exec (.rxLockWaitExpiry g) s = execRxLockWaitExpiry g s := rfl
theorem exec_loFreqWrite {src n w} : exec (.loFreqWrite src n w) s = execLoFreqWrite src n w s := rfl
theorem exec_retuneTimeout {n} : exec (.retuneTimeout n) s = execRetuneTimeout n s := rfl
theorem exec_synthLock {n band ofs} : exec (.synthLock n band ofs) s = execSynthLock n band ofs s := rfl
theorem exec_synthUnlock {n} : exec (.synthUnlock n) s = execSynthUnlock n s := rfl
theorem exec_rffeRegisterWrite {src m w} : exec (.rffeRegisterWrite src m w) s = execRffeRegisterWrite src m w s := rfl
theorem exec_rffeExtRegisterWrite {src m w} : exec (.rffeExtRegisterWrite src m w) s = execRffeExtRegisterWrite src m w s := rfl
theorem exec_rffeExtRegisterWriteLong {src m w} : exec (.rffeExtRegisterWriteLong src m w) s = execRffeExtRegisterWriteLong src m w s := rfl
theorem exec_rffeRegisterRead {src m w} : exec (.rffeRegisterRead src m w) s = execRffeRegisterRead src m w s := rfl
theorem exec_rffeSequenceStart {m ofs} : exec (.rffeSequenceStart m ofs) s = execRffeSequenceStart m ofs s := rfl
theorem exec_rffeSequenceDone {m byte parityOk} : exec (.rffeSequenceDone m byte parityOk) s = execRffeSequenceDone m byte parityOk s := rfl
theorem exec_tgpioCfgWrite {src n w} : exec (.tgpioCfgWrite src n w) s = execTgpioCfgWrite src n w s := rfl
theorem exec_tgpioFollowEdge {n} : exec (.tgpioFollowEdge n) s = execTgpioFollowEdge n s := rfl
theorem exec_orxSwitchDone : exec .orxSwitchDone s = execOrxSwitchDone s := rfl
theorem exec_calStepDone {step ok} : exec (.calStepDone step ok) s = execCalStepDone step ok s := rfl
theorem exec_calRequest {src w} : exec (.calRequest src w) s = execCalRequest src w s := rfl
theorem exec_onreqCalStart {g} : exec (.onreqCalStart g) s = execOnreqCalStart g s := rfl
theorem exec_bgCalStepStart {k c} : exec (.bgCalStepStart k c) s = execBgCalStepStart k c s := rfl
theorem exec_bgCalStepDone : exec .bgCalStepDone s = execBgCalStepDone s := rfl
theorem exec_usercalSegmentDone {ok} : exec (.usercalSegmentDone ok) s = execUsercalSegmentDone ok s := rfl
theorem exec_sliceEnable {src n w} : exec (.sliceEnable src n w) s = execSliceEnable src n w s := rfl
theorem exec_sliceDisable {src n w} : exec (.sliceDisable src n w) s = execSliceDisable src n w s := rfl
theorem exec_sliceForcedMute {src n w} : exec (.sliceForcedMute src n w) s = execSliceForcedMute src n w s := rfl
theorem exec_sliceCfgWrite {src n r w} : exec (.sliceCfgWrite src n r w) s = execSliceCfgWrite src n r w s := rfl
theorem exec_sliceGainWrite {src n w} : exec (.sliceGainWrite src n w) s = execSliceGainWrite src n w s := rfl
theorem exec_coefWrite {src n bankB k w} : exec (.coefWrite src n bankB k w) s = execCoefWrite src n bankB k w s := rfl
theorem exec_presenceWindow {n pw ofs} : exec (.presenceWindow n pw ofs) s = execPresenceWindow n pw ofs s := rfl
theorem exec_muteHangExpiry {n} : exec (.muteHangExpiry n) s = execMuteHangExpiry n s := rfl
theorem exec_sliceMuteRampDone {n} : exec (.sliceMuteRampDone n) s = execSliceMuteRampDone n s := rfl
theorem exec_sliceDrainDone {n} : exec (.sliceDrainDone n) s = execSliceDrainDone n s := rfl
theorem exec_sliceCheck {p} : exec (.sliceCheck p) s = execSliceCheck p s := rfl
theorem exec_captureArm {src w} : exec (.captureArm src w) s = execCaptureArm src w s := rfl
theorem exec_captureRelease {src w} : exec (.captureRelease src w) s = execCaptureRelease src w s := rfl
theorem exec_captureTrigger : exec .captureTrigger s = execCaptureTrigger s := rfl
theorem exec_captureDone {samples} : exec (.captureDone samples) s = execCaptureDone samples s := rfl
theorem exec_latencyWrite {src ul w} : exec (.latencyWrite src ul w) s = execLatencyWrite src ul w s := rfl
theorem exec_settleCountElapsed {n ofs} : exec (.settleCountElapsed n ofs) s = execSettleCountElapsed n ofs s := rfl
theorem exec_glazeSwapRequest {src n w} : exec (.glazeSwapRequest src n w) s = execGlazeSwapRequest src n w s := rfl
theorem exec_glazeSetSwapRequest {src n w} : exec (.glazeSetSwapRequest src n w) s = execGlazeSetSwapRequest src n w s := rfl
theorem exec_glazeFadeEnd {n ofs} : exec (.glazeFadeEnd n ofs) s = execGlazeFadeEnd n ofs s := rfl
theorem exec_cnlBlockEnd {n inp refs ofs} : exec (.cnlBlockEnd n inp refs ofs) s = execCnlBlockEnd n inp refs ofs s := rfl
theorem exec_cnlCfgWrite {src n bulk w} : exec (.cnlCfgWrite src n bulk w) s = execCnlCfgWrite src n bulk w s := rfl
theorem exec_cnlCtlWrite {src n w} : exec (.cnlCtlWrite src n w) s = execCnlCtlWrite src n w s := rfl
theorem exec_cnlClear {src n w} : exec (.cnlClear src n w) s = execCnlClear src n w s := rfl
theorem exec_cnlFreeze {src n w} : exec (.cnlFreeze src n w) s = execCnlFreeze src n w s := rfl
theorem exec_cnlCheck {p} : exec (.cnlCheck p) s = execCnlCheck p s := rfl
theorem exec_probeStart {src w} : exec (.probeStart src w) s = execProbeStart src w s := rfl
theorem exec_probeAbort {src w} : exec (.probeAbort src w) s = execProbeAbort src w s := rfl
theorem exec_probeAutoRun : exec .probeAutoRun s = execProbeAutoRun s := rfl
theorem exec_probeRunEnd {mean orx depth aIn aOut} : exec (.probeRunEnd mean orx depth aIn aOut) s = execProbeRunEnd mean orx depth aIn aOut s := rfl
theorem exec_loopComputeDeadline {unfinished} : exec (.loopComputeDeadline unfinished) s = execLoopComputeDeadline unfinished s := rfl
theorem exec_loopHoldTimeout {l} : exec (.loopHoldTimeout l) s = execLoopHoldTimeout l s := rfl
theorem exec_loopModeWrite {src l w} : exec (.loopModeWrite src l w) s = execLoopModeWrite src l w s := rfl
theorem exec_loopRearmOvr {src w} : exec (.loopRearmOvr src w) s = execLoopRearmOvr src w s := rfl
theorem exec_loopLutWrite {src t k w} : exec (.loopLutWrite src t k w) s = execLoopLutWrite src t k w s := rfl
theorem exec_loopSpWrite {src l w} : exec (.loopSpWrite src l w) s = execLoopSpWrite src l w s := rfl
theorem exec_stencilAttach {src n w} : exec (.stencilAttach src n w) s = execStencilAttach src n w s := rfl
theorem exec_stencilDetach {src n w} : exec (.stencilDetach src n w) s = execStencilDetach src n w s := rfl
theorem exec_stencilRestart {src n w} : exec (.stencilRestart src n w) s = execStencilRestart src n w s := rfl
theorem exec_stencilAnchor {n} : exec (.stencilAnchor n) s = execStencilAnchor n s := rfl
theorem exec_stencilRelearnTimeout {n} : exec (.stencilRelearnTimeout n) s = execStencilRelearnTimeout n s := rfl
theorem exec_epochInstantiate {m ofs} : exec (.epochInstantiate m ofs) s = execEpochInstantiate m ofs s := rfl
theorem exec_carveActionDue {ofs} : exec (.carveActionDue ofs) s = execCarveActionDue ofs s := rfl
theorem exec_epochConfirm {n sl t} : exec (.epochConfirm n sl t) s = execEpochConfirm n sl t s := rfl
theorem exec_epochWindowOpen {n ofs} : exec (.epochWindowOpen n ofs) s = execEpochWindowOpen n ofs s := rfl
theorem exec_epochWindowClose {n t} : exec (.epochWindowClose n t) s = execEpochWindowClose n t s := rfl
theorem exec_carveFlush {src w} : exec (.carveFlush src w) s = execCarveFlush src w s := rfl
theorem exec_carveDisable {src w} : exec (.carveDisable src w) s = execCarveDisable src w s := rfl
theorem exec_templateEnable {src m w} : exec (.templateEnable src m w) s = execTemplateEnable src m w s := rfl
theorem exec_templateDisable {src m w} : exec (.templateDisable src m w) s = execTemplateDisable src m w s := rfl
theorem exec_directActionGo {src w ofs} : exec (.directActionGo src w ofs) s = execDirectActionGo src w ofs s := rfl
theorem exec_crvCheck {fails} : exec (.crvCheck fails) s = execCrvCheck fails s := rfl
theorem exec_patrolCfgWrite {src r w} : exec (.patrolCfgWrite src r w) s = execPatrolCfgWrite src r w s := rfl
theorem exec_oscTrimRelease {n} : exec (.oscTrimRelease n) s = execOscTrimRelease n s := rfl
theorem exec_dlossTimeout : exec .dlossTimeout s = execDlossTimeout s := rfl
theorem exec_sweepSegmentStart : exec .sweepSegmentStart s = execSweepSegmentStart s := rfl
theorem exec_sweepSegmentEnd {bins total ofs} : exec (.sweepSegmentEnd bins total ofs) s = execSweepSegmentEnd bins total ofs s := rfl
theorem exec_netStopPinLow : exec .netStopPinLow s = execNetStopPinLow s := rfl
theorem exec_netStopPinRelease : exec .netStopPinRelease s = execNetStopPinRelease s := rfl
theorem exec_patrolLocalStop {src w} : exec (.patrolLocalStop src w) s = execPatrolLocalStop src w s := rfl
theorem exec_patrolSliceRelease {src w} : exec (.patrolSliceRelease src w) s = execPatrolSliceRelease src w s := rfl
theorem exec_patrolRelStop {src role w} : exec (.patrolRelStop src role w) s = execPatrolRelStop src role w s := rfl
theorem exec_patrolRelDl {src role w} : exec (.patrolRelDl src role w) s = execPatrolRelDl src role w s := rfl
theorem exec_patrolRelUl {src role w} : exec (.patrolRelUl src role w) s = execPatrolRelUl src role w s := rfl
theorem exec_stopStepsDone : exec .stopStepsDone s = execStopStepsDone s := rfl
theorem exec_stopReleaseDone : exec .stopReleaseDone s = execStopReleaseDone s := rfl
theorem exec_faultRaise {code inst aux} : exec (.faultRaise code inst aux) s = execFaultRaise code inst aux s := rfl
theorem exec_faultClear {code inst} : exec (.faultClear code inst) s = execFaultClear code inst s := rfl
theorem exec_runoutExpiry {entries} : exec (.runoutExpiry entries) s = execRunoutExpiry entries s := rfl
theorem exec_claimExtensionExpiry {entries} : exec (.claimExtensionExpiry entries) s = execClaimExtensionExpiry entries s := rfl
theorem exec_shadowClose {k} : exec (.shadowClose k) s = execShadowClose k s := rfl
theorem exec_faultClaim {src w} : exec (.faultClaim src w) s = execFaultClaim src w s := rfl
theorem exec_faultAck {src x} : exec (.faultAck src x) s = execFaultAck src x s := rfl
theorem exec_faultAckAll {src x} : exec (.faultAckAll src x) s = execFaultAckAll src x s := rfl
theorem exec_faultAckAuth {src role x} : exec (.faultAckAuth src role x) s = execFaultAckAuth src role x s := rfl
theorem exec_heartbeatWrite {src w} : exec (.heartbeatWrite src w) s = execHeartbeatWrite src w s := rfl
theorem exec_aliveToggleInstant : exec .aliveToggleInstant s = execAliveToggleInstant s := rfl
theorem exec_heartbeatTimeout : exec .heartbeatTimeout s = execHeartbeatTimeout s := rfl
theorem exec_faultInjectEvent {src w} : exec (.faultInjectEvent src w) s = execFaultInjectEvent src w s := rfl
theorem exec_faultInjectRaise {src w} : exec (.faultInjectRaise src w) s = execFaultInjectRaise src w s := rfl
theorem exec_faultInjectClear {src w} : exec (.faultInjectClear src w) s = execFaultInjectClear src w s := rfl
theorem exec_scheduledFlush : exec .scheduledFlush s = execScheduledFlush s := rfl
theorem exec_recorderFlushCmd {src w} : exec (.recorderFlushCmd src w) s = execRecorderFlushCmd src w s := rfl
theorem exec_recordWriteDone {ok} : exec (.recordWriteDone ok) s = execRecordWriteDone ok s := rfl
theorem exec_timeMark {src w} : exec (.timeMark src w) s = execTimeMark src w s := rfl
theorem exec_varnishClear {src role w} : exec (.varnishClear src role w) s = execVarnishClear src role w s := rfl
theorem exec_paletteClear {src role w} : exec (.paletteClear src role w) s = execPaletteClear src role w s := rfl
theorem exec_clearEraseDone : exec .clearEraseDone s = execClearEraseDone s := rfl
theorem exec_bdacEnable {src c w} : exec (.bdacEnable src c w) s = execBdacEnable src c w s := rfl
theorem exec_bdacDisable {src c w} : exec (.bdacDisable src c w) s = execBdacDisable src c w s := rfl
theorem exec_bdacPowered {c} : exec (.bdacPowered c) s = execBdacPowered c s := rfl
theorem exec_bdacSlewStep {chans} : exec (.bdacSlewStep chans) s = execBdacSlewStep chans s := rfl
theorem exec_bdacParkReached {c} : exec (.bdacParkReached c) s = execBdacParkReached c s := rfl
theorem exec_bdacOffingDone {c} : exec (.bdacOffingDone c) s = execBdacOffingDone c s := rfl
theorem exec_bdacCodeWrite {src c w} : exec (.bdacCodeWrite src c w) s = execBdacCodeWrite src c w s := rfl
theorem exec_bdacStrobe {src hi w} : exec (.bdacStrobe src hi w) s = execBdacStrobe src hi w s := rfl
theorem exec_bdacStrobeAll {src w} : exec (.bdacStrobeAll src w) s = execBdacStrobeAll src w s := rfl
theorem exec_bdacTimerArm {src w ofs} : exec (.bdacTimerArm src w ofs) s = execBdacTimerArm src w ofs s := rfl
theorem exec_bdacTimerLoad {ofs} : exec (.bdacTimerLoad ofs) s = execBdacTimerLoad ofs s := rfl
theorem exec_bdacSpanChange {src c w} : exec (.bdacSpanChange src c w) s = execBdacSpanChange src c w s := rfl
theorem exec_bdacSpanSwitchDone {c} : exec (.bdacSpanSwitchDone c) s = execBdacSpanSwitchDone c s := rfl
theorem exec_bdacSineStart {src c w} : exec (.bdacSineStart src c w) s = execBdacSineStart src c w s := rfl
theorem exec_bdacSineStop {src c w} : exec (.bdacSineStop src c w) s = execBdacSineStop src c w s := rfl
theorem exec_bdacSineZeroCross {c} : exec (.bdacSineZeroCross c) s = execBdacSineZeroCross c s := rfl
theorem exec_bdacIlim {c} : exec (.bdacIlim c) s = execBdacIlim c s := rfl
theorem exec_hkSlotEnd {code value} : exec (.hkSlotEnd code value) s = execHkSlotEnd code value s := rfl
theorem exec_hkLapEnd {xo} : exec (.hkLapEnd xo) s = execHkLapEnd xo s := rfl
theorem exec_thmCfgWrite {src w} : exec (.thmCfgWrite src w) s = execThmCfgWrite src w s := rfl
theorem exec_sensorGateEnd {n count tf inRange} : exec (.sensorGateEnd n count tf inRange) s = execSensorGateEnd n count tf inRange s := rfl
theorem exec_domainPowerUpDone {n} : exec (.domainPowerUpDone n) s = execDomainPowerUpDone n s := rfl
theorem exec_domainDrainDone {n} : exec (.domainDrainDone n) s = execDomainDrainDone n s := rfl
theorem exec_domainOffingDone {n} : exec (.domainOffingDone n) s = execDomainOffingDone n s := rfl
theorem exec_domainPowerUpTimeout {n} : exec (.domainPowerUpTimeout n) s = execDomainPowerUpTimeout n s := rfl
theorem exec_dozeEntry {n} : exec (.dozeEntry n) s = execDozeEntry n s := rfl
theorem exec_sleepRequest {src w} : exec (.sleepRequest src w) s = execSleepRequest src w s := rfl
theorem exec_sleepEntered : exec .sleepEntered s = execSleepEntered s := rfl
theorem exec_wakePinEdge : exec .wakePinEdge s = execWakePinEdge s := rfl
theorem exec_rfEnergyWindow {pin samples} : exec (.rfEnergyWindow pin samples) s = execRfEnergyWindow pin samples s := rfl
theorem exec_wakeTimerExpiry : exec .wakeTimerExpiry s = execWakeTimerExpiry s := rfl
theorem exec_towActivityWake : exec .towActivityWake s = execTowActivityWake s := rfl
theorem exec_xtalStop : exec .xtalStop s = execXtalStop s := rfl
theorem exec_xtalResume : exec .xtalResume s = execXtalResume s := rfl
theorem exec_powerFailTrip {complete} : exec (.powerFailTrip complete) s = execPowerFailTrip complete s := rfl
theorem exec_lodgePowerUp : exec .lodgePowerUp s = execLodgePowerUp s := rfl
theorem exec_pwrGoodRise : exec .pwrGoodRise s = execPwrGoodRise s := rfl
theorem exec_resetAssert : exec (.resetAssert) s = execResetAssert s := rfl
theorem exec_coldStart {x} : exec (.coldStart x) s = execColdStart x s := rfl
theorem exec_warmRestart {x} : exec (.warmRestart x) s = execWarmRestart x s := rfl
theorem exec_supCtlWarm {src role w} : exec (.supCtlWarm src role w) s = execSupCtlWarm src role w s := rfl
theorem exec_retainedCommitCmd {src w} : exec (.retainedCommitCmd src w) s = execRetainedCommitCmd src w s := rfl
theorem exec_retainedDiscard {src role w} : exec (.retainedDiscard src role w) s = execRetainedDiscard src role w s := rfl
theorem exec_retainedCommitTimer : exec .retainedCommitTimer s = execRetainedCommitTimer s := rfl
theorem exec_retainedSegmentDone {ok} : exec (.retainedSegmentDone ok) s = execRetainedSegmentDone ok s := rfl
theorem exec_spareMove {src w} : exec (.spareMove src w) s = execSpareMove src w s := rfl
theorem exec_spareReturn {src w} : exec (.spareReturn src w) s = execSpareReturn src w s := rfl
theorem exec_spareReplacementStart : exec .spareReplacementStart s = execSpareReplacementStart s := rfl
theorem exec_spareCopyDone : exec .spareCopyDone s = execSpareCopyDone s := rfl
theorem exec_handoverGo {src role w ofs} : exec (.handoverGo src role w ofs) s = execHandoverGo src role w ofs s := rfl
theorem exec_handoverFreeze : exec .handoverFreeze s = execHandoverFreeze s := rfl
theorem exec_handoverSwitch : exec .handoverSwitch s = execHandoverSwitch s := rfl
theorem exec_handoverHbTimeout : exec .handoverHbTimeout s = execHandoverHbTimeout s := rfl
theorem exec_lockstepMismatch {pairB} : exec (.lockstepMismatch pairB) s = execLockstepMismatch pairB s := rfl
theorem exec_pairReloadDone {pairB} : exec (.pairReloadDone pairB) s = execPairReloadDone pairB s := rfl
theorem exec_authOpen {src w} : exec (.authOpen src w) s = execAuthOpen src w s := rfl
theorem exec_authAbort {src w} : exec (.authAbort src w) s = execAuthAbort src w s := rfl
theorem exec_authBufferTimeout : exec .authBufferTimeout s = execAuthBufferTimeout s := rfl
theorem exec_authWrites : exec .authWrites s = execAuthWrites s := rfl
theorem exec_authFixative : exec .authFixative s = execAuthFixative s := rfl
theorem exec_authUsercal : exec .authUsercal s = execAuthUsercal s := rfl
theorem exec_authFirmware : exec .authFirmware s = execAuthFirmware s := rfl
theorem exec_authLockoutEnd : exec .authLockoutEnd s = execAuthLockoutEnd s := rfl
theorem exec_fixativeTakeEffect : exec .fixativeTakeEffect s = execFixativeTakeEffect s := rfl
theorem exec_spiWriteTransaction {cmd words cut} : exec (.spiWriteTransaction cmd words cut) s = execSpiWriteTransaction cmd words cut s := rfl
theorem exec_spiReadTransaction {cmd cut} : exec (.spiReadTransaction cmd cut) s = execSpiReadTransaction cmd cut s := rfl
theorem exec_towPortUp {dn} : exec (.towPortUp dn) s = execTowPortUp dn s := rfl
theorem exec_towPortDown {dn} : exec (.towPortDown dn) s = execTowPortDown dn s := rfl
theorem exec_towTrainingBurst {dn} : exec (.towTrainingBurst dn) s = execTowTrainingBurst dn s := rfl
theorem exec_towIdleBurst {dn} : exec (.towIdleBurst dn) s = execTowIdleBurst dn s := rfl
theorem exec_towQueueDispatch {dn ofs} : exec (.towQueueDispatch dn ofs) s = execTowQueueDispatch dn ofs s := rfl
theorem exec_towWrite {dn f ofs} : exec (.towWrite dn f ofs) s = execTowWrite dn f ofs s := rfl
theorem exec_towTimedWriteApply : exec .towTimedWriteApply s = execTowTimedWriteApply s := rfl
theorem exec_towRead {dn f ofs} : exec (.towRead dn f ofs) s = execTowRead dn f ofs s := rfl
theorem exec_towResp {dn f ofs} : exec (.towResp dn f ofs) s = execTowResp dn f ofs s := rfl
theorem exec_towBulk {dn f ofs} : exec (.towBulk dn f ofs) s = execTowBulk dn f ofs s := rfl
theorem exec_towHeartbeat {dn f ofs} : exec (.towHeartbeat dn f ofs) s = execTowHeartbeat dn f ofs s := rfl
theorem exec_towEvent {dn f ofs} : exec (.towEvent dn f ofs) s = execTowEvent dn f ofs s := rfl
theorem exec_towEnum {dn f ofs} : exec (.towEnum dn f ofs) s = execTowEnum dn f ofs s := rfl
theorem exec_towEpoch {dn f ofs} : exec (.towEpoch dn f ofs) s = execTowEpoch dn f ofs s := rfl
theorem exec_towPromote {dn f ofs} : exec (.towPromote dn f ofs) s = execTowPromote dn f ofs s := rfl
theorem exec_towBench {dn f ofs} : exec (.towBench dn f ofs) s = execTowBench dn f ofs s := rfl
theorem exec_towNetstop {dn f ofs} : exec (.towNetstop dn f ofs) s = execTowNetstop dn f ofs s := rfl
theorem exec_towGatherReq {dn f ofs} : exec (.towGatherReq dn f ofs) s = execTowGatherReq dn f ofs s := rfl
theorem exec_gatherSample {ofs} : exec (.gatherSample ofs) s = execGatherSample ofs s := rfl
theorem exec_gatherTrainStart {ofs} : exec (.gatherTrainStart ofs) s = execGatherTrainStart ofs s := rfl
theorem exec_towGather {dn f ofs} : exec (.towGather dn f ofs) s = execTowGather dn f ofs s := rfl
theorem exec_towSync {dn f ofs} : exec (.towSync dn f ofs) s = execTowSync dn f ofs s := rfl
theorem exec_towSyncSend {ofs} : exec (.towSyncSend ofs) s = execTowSyncSend ofs s := rfl
theorem exec_towSyncTimeout : exec .towSyncTimeout s = execTowSyncTimeout s := rfl
theorem exec_towDelaySend {ofs} : exec (.towDelaySend ofs) s = execTowDelaySend ofs s := rfl
theorem exec_towDelayRequest {dn f ofs} : exec (.towDelayRequest dn f ofs) s = execTowDelayRequest dn f ofs s := rfl
theorem exec_towDelayResponse {dn f ofs} : exec (.towDelayResponse dn f ofs) s = execTowDelayResponse dn f ofs s := rfl
theorem exec_towHeartbeatSend {ofs} : exec (.towHeartbeatSend ofs) s = execTowHeartbeatSend ofs s := rfl
theorem exec_towHelloSend {ofs} : exec (.towHelloSend ofs) s = execTowHelloSend ofs s := rfl
theorem exec_towDeadDeclare {a ofs} : exec (.towDeadDeclare a ofs) s = execTowDeadDeclare a ofs s := rfl
theorem exec_towEpochBroadcast {ofs} : exec (.towEpochBroadcast ofs) s = execTowEpochBroadcast ofs s := rfl
theorem exec_towEnumCmd {src w} : exec (.towEnumCmd src w) s = execTowEnumCmd src w s := rfl
theorem exec_towPromoteCmd {src w} : exec (.towPromoteCmd src w) s = execTowPromoteCmd src w s := rfl
theorem exec_towMbxSend {src w} : exec (.towMbxSend src w) s = execTowMbxSend src w s := rfl
theorem exec_towMbxPop {src w} : exec (.towMbxPop src w) s = execTowMbxPop src w s := rfl
theorem exec_towTimeSet {src w ofs} : exec (.towTimeSet src w ofs) s = execTowTimeSet src w ofs s := rfl
theorem exec_pairLineChange {high} : exec (.pairLineChange high) s = execPairLineChange high s := rfl
theorem exec_pairTokenAcquire : exec .pairTokenAcquire s = execPairTokenAcquire s := rfl
theorem exec_pairGateOpen : exec .pairGateOpen s = execPairGateOpen s := rfl
theorem exec_pairTokenRelease {src w} : exec (.pairTokenRelease src w) s = execPairTokenRelease src w s := rfl
theorem exec_pairTokenLineRelease : exec .pairTokenLineRelease s = execPairTokenLineRelease s := rfl
theorem exec_towTokenFault : exec .towTokenFault s = execTowTokenFault s := rfl
theorem exec_towPortTraining {dn} : exec (.towPortTraining dn) s = execTowPortTraining dn s := rfl
theorem exec_towLineStatic {dn} : exec (.towLineStatic dn) s = execTowLineStatic dn s := rfl
theorem exec_bdacUpdateTick {ofs} : exec (.bdacUpdateTick ofs) s = execBdacUpdateTick ofs s := rfl
theorem exec_pairRelBlockExpiry : exec .pairRelBlockExpiry s = execPairRelBlockExpiry s := rfl
theorem exec_heldWakeRelease : exec .heldWakeRelease s = execHeldWakeRelease s := rfl

end Sys2Proof.Machine
end

