-- ==== Sys2Proof/Laws/Tables.lean ====
section
/-! SUPPORT. Sparse tables: read after write, and the canonical form. -/
namespace Sys2Proof.Machine

section
variable {α : Type} [DecidableEq α] (d : Nat → α)

omit [DecidableEq α] in
theorem tget_tdel_same (t : List (Nat × α)) (i : Nat) : tget d (tdel t i) i = d i := by
  induction t with
  | nil => rfl
  | cons p t ih =>
    obtain ⟨j, v⟩ := p
    by_cases h : j = i <;> simp [tdel, tget, h, ih]

omit [DecidableEq α] in
theorem tget_tdel_other (t : List (Nat × α)) {i k : Nat} (h : k ≠ i) : tget d (tdel t i) k = tget d t k := by
  induction t with
  | nil => rfl
  | cons p t ih =>
    obtain ⟨j, v⟩ := p
    by_cases hi : j = i
    · have : j ≠ k := by omega
      simp only [tdel, hi, if_true, tget, ih]
      rw [if_neg (by omega)]
    · simp [tdel, tget, hi, ih]

omit [DecidableEq α] in
theorem tget_tput_same (t : List (Nat × α)) (i : Nat) (v : α) : tget d (tput t i v) i = v := by
  induction t with
  | nil => simp [tput, tget]
  | cons p t ih =>
    obtain ⟨j, w⟩ := p
    unfold tput
    split
    · simp [tget]
    · split
      · simp [tget]
      · rename_i h; simp [tget, h, ih]

omit [DecidableEq α] in
theorem tget_tput_other (t : List (Nat × α)) {i k : Nat} (v : α) (h : k ≠ i) : tget d (tput t i v) k = tget d t k := by
  have h' : i ≠ k := fun e => h e.symm
  induction t with
  | nil => simp [tput, tget, h']
  | cons p t ih =>
    obtain ⟨j, w⟩ := p
    unfold tput
    split
    · simp [tget, h']
    · split
      · rename_i hj; subst hj; simp [tget, h']
      · simp [tget, ih]

/-- The unit just set reads the value set. -/
@[simp] theorem tget_tset_same (t : List (Nat × α)) (i : Nat) (v : α) : tget d (tset d t i v) i = v := by
  unfold tset
  split
  · rename_i h; rw [tget_tdel_same, h]
  · exact tget_tput_same d _ i v

/-- Every other unit reads as before. -/
theorem tget_tset_other (t : List (Nat × α)) {i k : Nat} (v : α) (h : k ≠ i) : tget d (tset d t i v) k = tget d t k := by
  unfold tset
  split
  · exact tget_tdel_other d t h
  · rw [tget_tput_other d _ v h, tget_tdel_other d t h]

/-- A lower bound may be lowered. -/
def tabove : Option Nat → Nat → Bool
  | none, _ => true
  | some l, j => decide (l < j)

theorem tcanonFrom_cons (lo : Option Nat) (j : Nat) (v : α) (t : List (Nat × α)) :
    tcanonFrom d lo ((j, v) :: t) = true ↔ tabove lo j = true ∧ v ≠ d j ∧ tcanonFrom d (some j) t = true := by
  cases lo <;> simp [tcanonFrom, tabove, and_assoc]

theorem tcanonFrom_weaken {lo : Option Nat} {j : Nat} {t : List (Nat × α)} (hj : tabove lo j = true)
    (h : tcanonFrom d (some j) t = true) : tcanonFrom d lo t = true := by
  cases t with
  | nil => rfl
  | cons p t =>
    obtain ⟨k, v⟩ := p
    rw [tcanonFrom_cons] at h ⊢
    refine ⟨?_, h.2⟩
    have hk := h.1
    cases lo <;> simp_all [tabove]
    omega

theorem tdel_canonFrom (lo : Option Nat) (t : List (Nat × α)) (i : Nat) (h : tcanonFrom d lo t = true) :
    tcanonFrom d lo (tdel t i) = true := by
  induction t generalizing lo with
  | nil => rfl
  | cons p t ih =>
    obtain ⟨j, v⟩ := p
    rw [tcanonFrom_cons] at h
    unfold tdel
    split
    · exact ih lo (tcanonFrom_weaken d h.1 h.2.2)
    · rw [tcanonFrom_cons]
      exact ⟨h.1, h.2.1, ih _ h.2.2⟩

theorem tput_canonFrom (lo : Option Nat) (t : List (Nat × α)) (i : Nat) (v : α) (hi : tabove lo i = true) (hv : v ≠ d i)
    (h : tcanonFrom d lo t = true) : tcanonFrom d lo (tput t i v) = true := by
  induction t generalizing lo with
  | nil => rw [tput, tcanonFrom_cons]; exact ⟨hi, hv, rfl⟩
  | cons p t ih =>
    obtain ⟨j, w⟩ := p
    rw [tcanonFrom_cons] at h
    unfold tput
    split
    · rename_i hlt
      rw [tcanonFrom_cons, tcanonFrom_cons]
      exact ⟨hi, hv, by simpa [tabove] using hlt, h.2⟩
    · split
      · rename_i hj; subst hj
        rw [tcanonFrom_cons]; exact ⟨hi, hv, h.2.2⟩
      · rw [tcanonFrom_cons]
        refine ⟨h.1, h.2.1, ih _ ?_ h.2.2⟩
        simp only [tabove, decide_eq_true_eq]; omega

/-- Setting a unit keeps the canonical form. -/
theorem tset_canon (t : List (Nat × α)) (i : Nat) (v : α) (h : tcanon d t = true) : tcanon d (tset d t i v) = true := by
  unfold tset tcanon at *
  split
  · exact tdel_canonFrom d none t i h
  · rename_i hv
    exact tput_canonFrom d none _ i v rfl hv (tdel_canonFrom d none t i h)

end

/-- A store to an existing register keeps the canonical form of the register file. -/
theorem setReg_wf (x : Dev) (n : RegName) (i j : Nat) (w : Word) (hf : findReg (n.addr i j) = some ⟨n, i, j⟩)
    (h : regsWf x.regs = true) : regsWf (x.setReg n i j w).regs = true := by
  unfold regsWf tcanon at *
  unfold Dev.setReg
  split
  · exact tdel_canonFrom _ none _ _ h
  · rename_i hw
    refine tput_canonFrom _ none _ _ w rfl ?_ (tdel_canonFrom _ none _ _ h)
    simpa [hf] using hw

/-- The register just stored reads the word stored. -/
@[simp] theorem setReg_same (x : Dev) (n : RegName) (i j : Nat) (w : Word) : (x.setReg n i j w).reg n i j = w := by
  unfold Dev.reg Dev.setReg
  dsimp only
  split
  · rename_i h; rw [tget_tdel_same, h]
  · exact tget_tput_same _ _ _ w

/-- A register at another address reads as before. -/
theorem setReg_other (x : Dev) (n m : RegName) (i j k l : Nat) (w : Word) (h : m.addr k l ≠ n.addr i j) :
    (x.setReg n i j w).reg m k l = x.reg m k l := by
  unfold Dev.reg Dev.setReg
  dsimp only
  split
  · exact tget_tdel_other _ _ h
  · rw [tget_tput_other _ _ w h, tget_tdel_other _ _ h]

end Sys2Proof.Machine
end

