-- ==== Sys2Proof/Laws/State.lean ====
section
/-! SUPPORT. What each named update of the device leaves alone, field by field and unit by unit; every lemma is true by
unfolding and is a simp lemma, so that no later proof unfolds a record update. -/
namespace Sys2Proof.Machine

variable (x : Dev)

/-! ### Changes in place are writes of what they make -/

@[simp] theorem modSlice_set (n : Nat) (f : Slice → Slice) : x.modSlice n f = x.setSlice n (f (x.slice n)) := rfl
@[simp] theorem modPsl_set (n : Nat) (f : PSlice → PSlice) : x.modPsl n f = x.setPsl n (f (x.psl n)) := rfl
@[simp] theorem modRx_set (c : Nat) (f : Chain → Chain) : x.modRx c f = x.setRxChain c (f (x.rxChain c)) := rfl
@[simp] theorem modTx_set (c : Nat) (f : Chain → Chain) : x.modTx c f = x.setTxChain c (f (x.txChain c)) := rfl

/-! ### Units: read after write -/

@[simp] theorem setGroup_same (g : Nat) (y : Group) : (x.setGroup g y).group g = y := tget_tset_same _ _ _ _
theorem setGroup_other (g : Nat) (y : Group) {k : Nat} (h : k ≠ g) : (x.setGroup g y).group k = x.group k := tget_tset_other _ _ _ h
@[simp] theorem setSynth_same (n : Nat) (y : Synth) : (x.setSynth n y).synth n = y := tget_tset_same _ _ _ _
theorem setSynth_other (n : Nat) (y : Synth) {k : Nat} (h : k ≠ n) : (x.setSynth n y).synth k = x.synth k := tget_tset_other _ _ _ h
@[simp] theorem setRffe_same (m : Nat) (y : Rffe) : (x.setRffe m y).rffeM m = y := tget_tset_same _ _ _ _
theorem setRffe_other (m : Nat) (y : Rffe) {k : Nat} (h : k ≠ m) : (x.setRffe m y).rffeM k = x.rffeM k := tget_tset_other _ _ _ h
@[simp] theorem setPin_same (n : Nat) (y : Tgpio) : (x.setPin n y).pin n = y := tget_tset_same _ _ _ _
theorem setPin_other (n : Nat) (y : Tgpio) {k : Nat} (h : k ≠ n) : (x.setPin n y).pin k = x.pin k := tget_tset_other _ _ _ h
@[simp] theorem setChan_same (c : Nat) (y : Bdac) : (x.setChan c y).chan c = y := tget_tset_same _ _ _ _
theorem setChan_other (c : Nat) (y : Bdac) {k : Nat} (h : k ≠ c) : (x.setChan c y).chan k = x.chan k := tget_tset_other _ _ _ h
@[simp] theorem setLoop_same (i : Nat) (y : Loop) : (x.setLoop i y).loop i = y := tget_tset_same _ _ _ _
theorem setLoop_other (i : Nat) (y : Loop) {k : Nat} (h : k ≠ i) : (x.setLoop i y).loop k = x.loop k := tget_tset_other _ _ _ h
@[simp] theorem setStencil_same (n : Nat) (y : Stencil) : (x.setStencil n y).stencil n = y := tget_tset_same _ _ _ _
theorem setStencil_other (n : Nat) (y : Stencil) {k : Nat} (h : k ≠ n) : (x.setStencil n y).stencil k = x.stencil k := tget_tset_other _ _ _ h
@[simp] theorem setCanc_same (n : Nat) (y : Cnl) : (x.setCanc n y).canc n = y := tget_tset_same _ _ _ _
theorem setCanc_other (n : Nat) (y : Cnl) {k : Nat} (h : k ≠ n) : (x.setCanc n y).canc k = x.canc k := tget_tset_other _ _ _ h
@[simp] theorem setRxChain_same (c : Nat) (y : Chain) : (x.setRxChain c y).rxChain c = y := tget_tset_same _ _ _ _
theorem setRxChain_other (c : Nat) (y : Chain) {k : Nat} (h : k ≠ c) : (x.setRxChain c y).rxChain k = x.rxChain k := tget_tset_other _ _ _ h
@[simp] theorem setTxChain_same (c : Nat) (y : Chain) : (x.setTxChain c y).txChain c = y := tget_tset_same _ _ _ _
theorem setTxChain_other (c : Nat) (y : Chain) {k : Nat} (h : k ≠ c) : (x.setTxChain c y).txChain k = x.txChain k := tget_tset_other _ _ _ h
@[simp] theorem setSlice_same (n : Nat) (y : Slice) : (x.setSlice n y).slice n = y := tget_tset_same _ _ _ _
theorem setSlice_other (n : Nat) (y : Slice) {k : Nat} (h : k ≠ n) : (x.setSlice n y).slice k = x.slice k := tget_tset_other _ _ _ h
@[simp] theorem setPsl_same (n : Nat) (y : PSlice) : (x.setPsl n y).psl n = y := tget_tset_same _ _ _ _
theorem setPsl_other (n : Nat) (y : PSlice) {k : Nat} (h : k ≠ n) : (x.setPsl n y).psl k = x.psl k := tget_tset_other _ _ _ h
@[simp] theorem setPch_same (c : Nat) (y : PChain) : (x.setPch c y).pch c = y := tget_tset_same _ _ _ _
theorem setPch_other (c : Nat) (y : PChain) {k : Nat} (h : k ≠ c) : (x.setPch c y).pch k = x.pch k := tget_tset_other _ _ _ h
@[simp] theorem setSensor_same (n : Nat) (y : Sensor) : (x.setSensor n y).sensor n = y := tget_tset_same _ _ _ _
theorem setSensor_other (n : Nat) (y : Sensor) {k : Nat} (h : k ≠ n) : (x.setSensor n y).sensor k = x.sensor k := tget_tset_other _ _ _ h
@[simp] theorem setDom_same (n : Nat) (y : Dom) : (x.setDom n y).dom n = y := tget_tset_same _ _ _ _
theorem setDom_other (n : Nat) (y : Dom) {k : Nat} (h : k ≠ n) : (x.setDom n y).dom k = x.dom k := tget_tset_other _ _ _ h
@[simp] theorem setDet_same (n : Nat) (y : Detector) : (x.setDet n y).det n = y := tget_tset_same _ _ _ _
theorem setDet_other (n : Nat) (y : Detector) {k : Nat} (h : k ≠ n) : (x.setDet n y).det k = x.det k := tget_tset_other _ _ _ h

/-! ### Frames: the other fields of the device -/

@[simp] theorem setReg_frame (n : RegName) (i j : Nat) (w : Word) :
    (x.setReg n i j w).clk = x.clk ∧ (x.setReg n i j w).rcd = x.rcd ∧ (x.setReg n i j w).flt = x.flt ∧
    (x.setReg n i j w).pwr = x.pwr ∧ (x.setReg n i j w).groups = x.groups ∧ (x.setReg n i j w).synths = x.synths ∧
    (x.setReg n i j w).rffe = x.rffe ∧ (x.setReg n i j w).tgpio = x.tgpio ∧ (x.setReg n i j w).bdac = x.bdac ∧
    (x.setReg n i j w).crv = x.crv ∧ (x.setReg n i j w).slices = x.slices ∧ (x.setReg n i j w).pool = x.pool ∧
    (x.setReg n i j w).loops = x.loops ∧ (x.setReg n i j w).eng = x.eng ∧ (x.setReg n i j w).stn = x.stn ∧
    (x.setReg n i j w).cnl = x.cnl ∧ (x.setReg n i j w).orx = x.orx ∧ (x.setReg n i j w).cal = x.cal ∧
    (x.setReg n i j w).rxc = x.rxc ∧ (x.setReg n i j w).txc = x.txc ∧ (x.setReg n i j w).ucal = x.ucal ∧
    (x.setReg n i j w).authBlocks = x.authBlocks ∧ (x.setReg n i j w).ptl = x.ptl ∧ (x.setReg n i j w).thm = x.thm ∧
    (x.setReg n i j w).hk = x.hk ∧ (x.setReg n i j w).prb = x.prb ∧ (x.setReg n i j w).src = x.src ∧
    (x.setReg n i j w).sup = x.sup ∧ (x.setReg n i j w).auth = x.auth ∧ (x.setReg n i j w).ret = x.ret ∧
    (x.setReg n i j w).boot = x.boot ∧ (x.setReg n i j w).ucalArea = x.ucalArea ∧ (x.setReg n i j w).ucalOk = x.ucalOk ∧
    (x.setReg n i j w).ucalCrc = x.ucalCrc ∧ (x.setReg n i j w).ucalNew = x.ucalNew ∧
    (x.setReg n i j w).ucalJob = x.ucalJob ∧ (x.setReg n i j w).spr = x.spr ∧ (x.setReg n i j w).jtag = x.jtag ∧
    (x.setReg n i j w).spi = x.spi ∧ (x.setReg n i j w).tow = x.tow ∧ (x.setReg n i j w).hiOpt = x.hiOpt ∧
    (x.setReg n i j w).hiTow = x.hiTow ∧ (x.setReg n i j w).answer = x.answer ∧ (x.setReg n i j w).free = x.free :=
  ⟨rfl, rfl, rfl, rfl, rfl, rfl, rfl, rfl, rfl, rfl, rfl, rfl, rfl, rfl, rfl, rfl, rfl, rfl, rfl, rfl, rfl, rfl, rfl,
   rfl, rfl, rfl, rfl, rfl, rfl, rfl, rfl, rfl, rfl, rfl, rfl, rfl, rfl, rfl, rfl, rfl, rfl, rfl, rfl, rfl⟩

@[simp] theorem put_frame (f : Fld) (i v : Nat) :
    (x.put f i v).clk = x.clk ∧ (x.put f i v).rcd = x.rcd ∧ (x.put f i v).flt = x.flt ∧ (x.put f i v).pwr = x.pwr ∧
    (x.put f i v).groups = x.groups ∧ (x.put f i v).synths = x.synths ∧ (x.put f i v).rffe = x.rffe ∧
    (x.put f i v).tgpio = x.tgpio ∧ (x.put f i v).bdac = x.bdac ∧ (x.put f i v).crv = x.crv ∧
    (x.put f i v).slices = x.slices ∧ (x.put f i v).pool = x.pool ∧ (x.put f i v).loops = x.loops ∧
    (x.put f i v).eng = x.eng ∧ (x.put f i v).stn = x.stn ∧ (x.put f i v).cnl = x.cnl ∧ (x.put f i v).orx = x.orx ∧
    (x.put f i v).cal = x.cal ∧ (x.put f i v).rxc = x.rxc ∧ (x.put f i v).txc = x.txc ∧ (x.put f i v).ucal = x.ucal ∧
    (x.put f i v).authBlocks = x.authBlocks ∧ (x.put f i v).ptl = x.ptl ∧ (x.put f i v).thm = x.thm ∧
    (x.put f i v).hk = x.hk ∧ (x.put f i v).prb = x.prb ∧ (x.put f i v).src = x.src ∧ (x.put f i v).sup = x.sup ∧
    (x.put f i v).auth = x.auth ∧ (x.put f i v).ret = x.ret ∧ (x.put f i v).boot = x.boot ∧
    (x.put f i v).ucalArea = x.ucalArea ∧ (x.put f i v).ucalOk = x.ucalOk ∧ (x.put f i v).ucalCrc = x.ucalCrc ∧
    (x.put f i v).ucalNew = x.ucalNew ∧ (x.put f i v).ucalJob = x.ucalJob ∧ (x.put f i v).spr = x.spr ∧
    (x.put f i v).jtag = x.jtag ∧ (x.put f i v).spi = x.spi ∧ (x.put f i v).tow = x.tow ∧ (x.put f i v).hiOpt = x.hiOpt ∧
    (x.put f i v).hiTow = x.hiTow ∧ (x.put f i v).answer = x.answer ∧ (x.put f i v).free = x.free :=
  ⟨rfl, rfl, rfl, rfl, rfl, rfl, rfl, rfl, rfl, rfl, rfl, rfl, rfl, rfl, rfl, rfl, rfl, rfl, rfl, rfl, rfl, rfl, rfl,
   rfl, rfl, rfl, rfl, rfl, rfl, rfl, rfl, rfl, rfl, rfl, rfl, rfl, rfl, rfl, rfl, rfl, rfl, rfl, rfl, rfl⟩

@[simp] theorem setBit_frame (f : Fld) (i : Nat) :
    (x.setBit f i).clk = x.clk ∧ (x.setBit f i).rcd = x.rcd ∧ (x.setBit f i).flt = x.flt ∧ (x.setBit f i).pwr = x.pwr ∧
    (x.setBit f i).groups = x.groups ∧ (x.setBit f i).synths = x.synths ∧ (x.setBit f i).rffe = x.rffe ∧
    (x.setBit f i).tgpio = x.tgpio ∧ (x.setBit f i).bdac = x.bdac ∧ (x.setBit f i).crv = x.crv ∧
    (x.setBit f i).slices = x.slices ∧ (x.setBit f i).pool = x.pool ∧ (x.setBit f i).loops = x.loops ∧
    (x.setBit f i).eng = x.eng ∧ (x.setBit f i).stn = x.stn ∧ (x.setBit f i).cnl = x.cnl ∧ (x.setBit f i).orx = x.orx ∧
    (x.setBit f i).cal = x.cal ∧ (x.setBit f i).rxc = x.rxc ∧ (x.setBit f i).txc = x.txc ∧ (x.setBit f i).ucal = x.ucal ∧
    (x.setBit f i).authBlocks = x.authBlocks ∧ (x.setBit f i).ptl = x.ptl ∧ (x.setBit f i).thm = x.thm ∧
    (x.setBit f i).hk = x.hk ∧ (x.setBit f i).prb = x.prb ∧ (x.setBit f i).src = x.src ∧ (x.setBit f i).sup = x.sup ∧
    (x.setBit f i).auth = x.auth ∧ (x.setBit f i).ret = x.ret ∧ (x.setBit f i).boot = x.boot ∧
    (x.setBit f i).ucalArea = x.ucalArea ∧ (x.setBit f i).ucalOk = x.ucalOk ∧ (x.setBit f i).ucalCrc = x.ucalCrc ∧
    (x.setBit f i).ucalNew = x.ucalNew ∧ (x.setBit f i).ucalJob = x.ucalJob ∧ (x.setBit f i).spr = x.spr ∧
    (x.setBit f i).jtag = x.jtag ∧ (x.setBit f i).spi = x.spi ∧ (x.setBit f i).tow = x.tow ∧ (x.setBit f i).hiOpt = x.hiOpt ∧
    (x.setBit f i).hiTow = x.hiTow ∧ (x.setBit f i).answer = x.answer ∧ (x.setBit f i).free = x.free :=
  ⟨rfl, rfl, rfl, rfl, rfl, rfl, rfl, rfl, rfl, rfl, rfl, rfl, rfl, rfl, rfl, rfl, rfl, rfl, rfl, rfl, rfl, rfl, rfl,
   rfl, rfl, rfl, rfl, rfl, rfl, rfl, rfl, rfl, rfl, rfl, rfl, rfl, rfl, rfl, rfl, rfl, rfl, rfl, rfl, rfl⟩

@[simp] theorem setGroup_frame (g : Nat) (y : Group) :
    (x.setGroup g y).regs = x.regs ∧ (x.setGroup g y).clk = x.clk ∧ (x.setGroup g y).rcd = x.rcd ∧
    (x.setGroup g y).flt = x.flt ∧ (x.setGroup g y).pwr = x.pwr ∧ (x.setGroup g y).synths = x.synths ∧
    (x.setGroup g y).rffe = x.rffe ∧ (x.setGroup g y).tgpio = x.tgpio ∧ (x.setGroup g y).bdac = x.bdac ∧
    (x.setGroup g y).crv = x.crv ∧ (x.setGroup g y).slices = x.slices ∧ (x.setGroup g y).pool = x.pool ∧
    (x.setGroup g y).loops = x.loops ∧ (x.setGroup g y).eng = x.eng ∧ (x.setGroup g y).stn = x.stn ∧
    (x.setGroup g y).cnl = x.cnl ∧ (x.setGroup g y).orx = x.orx ∧ (x.setGroup g y).cal = x.cal ∧
    (x.setGroup g y).rxc = x.rxc ∧ (x.setGroup g y).txc = x.txc ∧ (x.setGroup g y).ucal = x.ucal ∧
    (x.setGroup g y).authBlocks = x.authBlocks ∧ (x.setGroup g y).ptl = x.ptl ∧ (x.setGroup g y).thm = x.thm ∧
    (x.setGroup g y).hk = x.hk ∧ (x.setGroup g y).prb = x.prb ∧ (x.setGroup g y).src = x.src ∧ (x.setGroup g y).sup = x.sup ∧
    (x.setGroup g y).auth = x.auth ∧ (x.setGroup g y).ret = x.ret ∧ (x.setGroup g y).boot = x.boot ∧
    (x.setGroup g y).ucalArea = x.ucalArea ∧ (x.setGroup g y).ucalOk = x.ucalOk ∧ (x.setGroup g y).ucalCrc = x.ucalCrc ∧
    (x.setGroup g y).ucalNew = x.ucalNew ∧ (x.setGroup g y).ucalJob = x.ucalJob ∧ (x.setGroup g y).spr = x.spr ∧
    (x.setGroup g y).jtag = x.jtag ∧ (x.setGroup g y).spi = x.spi ∧ (x.setGroup g y).tow = x.tow ∧
    (x.setGroup g y).hiOpt = x.hiOpt ∧ (x.setGroup g y).hiTow = x.hiTow ∧ (x.setGroup g y).answer = x.answer ∧
    (x.setGroup g y).free = x.free :=
  ⟨rfl, rfl, rfl, rfl, rfl, rfl, rfl, rfl, rfl, rfl, rfl, rfl, rfl, rfl, rfl, rfl, rfl, rfl, rfl, rfl, rfl, rfl, rfl,
   rfl, rfl, rfl, rfl, rfl, rfl, rfl, rfl, rfl, rfl, rfl, rfl, rfl, rfl, rfl, rfl, rfl, rfl, rfl, rfl, rfl⟩

@[simp] theorem setSynth_frame (n : Nat) (y : Synth) :
    (x.setSynth n y).regs = x.regs ∧ (x.setSynth n y).clk = x.clk ∧ (x.setSynth n y).rcd = x.rcd ∧
    (x.setSynth n y).flt = x.flt ∧ (x.setSynth n y).pwr = x.pwr ∧ (x.setSynth n y).groups = x.groups ∧
    (x.setSynth n y).rffe = x.rffe ∧ (x.setSynth n y).tgpio = x.tgpio ∧ (x.setSynth n y).bdac = x.bdac ∧
    (x.setSynth n y).crv = x.crv ∧ (x.setSynth n y).slices = x.slices ∧ (x.setSynth n y).pool = x.pool ∧
    (x.setSynth n y).loops = x.loops ∧ (x.setSynth n y).eng = x.eng ∧ (x.setSynth n y).stn = x.stn ∧
    (x.setSynth n y).cnl = x.cnl ∧ (x.setSynth n y).orx = x.orx ∧ (x.setSynth n y).cal = x.cal ∧
    (x.setSynth n y).rxc = x.rxc ∧ (x.setSynth n y).txc = x.txc ∧ (x.setSynth n y).ucal = x.ucal ∧
    (x.setSynth n y).authBlocks = x.authBlocks ∧ (x.setSynth n y).ptl = x.ptl ∧ (x.setSynth n y).thm = x.thm ∧
    (x.setSynth n y).hk = x.hk ∧ (x.setSynth n y).prb = x.prb ∧ (x.setSynth n y).src = x.src ∧ (x.setSynth n y).sup = x.sup ∧
    (x.setSynth n y).auth = x.auth ∧ (x.setSynth n y).ret = x.ret ∧ (x.setSynth n y).boot = x.boot ∧
    (x.setSynth n y).ucalArea = x.ucalArea ∧ (x.setSynth n y).ucalOk = x.ucalOk ∧ (x.setSynth n y).ucalCrc = x.ucalCrc ∧
    (x.setSynth n y).ucalNew = x.ucalNew ∧ (x.setSynth n y).ucalJob = x.ucalJob ∧ (x.setSynth n y).spr = x.spr ∧
    (x.setSynth n y).jtag = x.jtag ∧ (x.setSynth n y).spi = x.spi ∧ (x.setSynth n y).tow = x.tow ∧
    (x.setSynth n y).hiOpt = x.hiOpt ∧ (x.setSynth n y).hiTow = x.hiTow ∧ (x.setSynth n y).answer = x.answer ∧
    (x.setSynth n y).free = x.free :=
  ⟨rfl, rfl, rfl, rfl, rfl, rfl, rfl, rfl, rfl, rfl, rfl, rfl, rfl, rfl, rfl, rfl, rfl, rfl, rfl, rfl, rfl, rfl, rfl,
   rfl, rfl, rfl, rfl, rfl, rfl, rfl, rfl, rfl, rfl, rfl, rfl, rfl, rfl, rfl, rfl, rfl, rfl, rfl, rfl, rfl⟩

@[simp] theorem setRffe_frame (m : Nat) (y : Rffe) :
    (x.setRffe m y).regs = x.regs ∧ (x.setRffe m y).clk = x.clk ∧ (x.setRffe m y).rcd = x.rcd ∧ (x.setRffe m y).flt = x.flt ∧
    (x.setRffe m y).pwr = x.pwr ∧ (x.setRffe m y).groups = x.groups ∧ (x.setRffe m y).synths = x.synths ∧
    (x.setRffe m y).tgpio = x.tgpio ∧ (x.setRffe m y).bdac = x.bdac ∧ (x.setRffe m y).crv = x.crv ∧
    (x.setRffe m y).slices = x.slices ∧ (x.setRffe m y).pool = x.pool ∧ (x.setRffe m y).loops = x.loops ∧
    (x.setRffe m y).eng = x.eng ∧ (x.setRffe m y).stn = x.stn ∧ (x.setRffe m y).cnl = x.cnl ∧ (x.setRffe m y).orx = x.orx ∧
    (x.setRffe m y).cal = x.cal ∧ (x.setRffe m y).rxc = x.rxc ∧ (x.setRffe m y).txc = x.txc ∧ (x.setRffe m y).ucal = x.ucal ∧
    (x.setRffe m y).authBlocks = x.authBlocks ∧ (x.setRffe m y).ptl = x.ptl ∧ (x.setRffe m y).thm = x.thm ∧
    (x.setRffe m y).hk = x.hk ∧ (x.setRffe m y).prb = x.prb ∧ (x.setRffe m y).src = x.src ∧ (x.setRffe m y).sup = x.sup ∧
    (x.setRffe m y).auth = x.auth ∧ (x.setRffe m y).ret = x.ret ∧ (x.setRffe m y).boot = x.boot ∧
    (x.setRffe m y).ucalArea = x.ucalArea ∧ (x.setRffe m y).ucalOk = x.ucalOk ∧ (x.setRffe m y).ucalCrc = x.ucalCrc ∧
    (x.setRffe m y).ucalNew = x.ucalNew ∧ (x.setRffe m y).ucalJob = x.ucalJob ∧ (x.setRffe m y).spr = x.spr ∧
    (x.setRffe m y).jtag = x.jtag ∧ (x.setRffe m y).spi = x.spi ∧ (x.setRffe m y).tow = x.tow ∧
    (x.setRffe m y).hiOpt = x.hiOpt ∧ (x.setRffe m y).hiTow = x.hiTow ∧ (x.setRffe m y).answer = x.answer ∧
    (x.setRffe m y).free = x.free :=
  ⟨rfl, rfl, rfl, rfl, rfl, rfl, rfl, rfl, rfl, rfl, rfl, rfl, rfl, rfl, rfl, rfl, rfl, rfl, rfl, rfl, rfl, rfl, rfl,
   rfl, rfl, rfl, rfl, rfl, rfl, rfl, rfl, rfl, rfl, rfl, rfl, rfl, rfl, rfl, rfl, rfl, rfl, rfl, rfl, rfl⟩

@[simp] theorem setPin_frame (n : Nat) (y : Tgpio) :
    (x.setPin n y).regs = x.regs ∧ (x.setPin n y).clk = x.clk ∧ (x.setPin n y).rcd = x.rcd ∧ (x.setPin n y).flt = x.flt ∧
    (x.setPin n y).pwr = x.pwr ∧ (x.setPin n y).groups = x.groups ∧ (x.setPin n y).synths = x.synths ∧
    (x.setPin n y).rffe = x.rffe ∧ (x.setPin n y).bdac = x.bdac ∧ (x.setPin n y).crv = x.crv ∧
    (x.setPin n y).slices = x.slices ∧ (x.setPin n y).pool = x.pool ∧ (x.setPin n y).loops = x.loops ∧
    (x.setPin n y).eng = x.eng ∧ (x.setPin n y).stn = x.stn ∧ (x.setPin n y).cnl = x.cnl ∧ (x.setPin n y).orx = x.orx ∧
    (x.setPin n y).cal = x.cal ∧ (x.setPin n y).rxc = x.rxc ∧ (x.setPin n y).txc = x.txc ∧ (x.setPin n y).ucal = x.ucal ∧
    (x.setPin n y).authBlocks = x.authBlocks ∧ (x.setPin n y).ptl = x.ptl ∧ (x.setPin n y).thm = x.thm ∧
    (x.setPin n y).hk = x.hk ∧ (x.setPin n y).prb = x.prb ∧ (x.setPin n y).src = x.src ∧ (x.setPin n y).sup = x.sup ∧
    (x.setPin n y).auth = x.auth ∧ (x.setPin n y).ret = x.ret ∧ (x.setPin n y).boot = x.boot ∧
    (x.setPin n y).ucalArea = x.ucalArea ∧ (x.setPin n y).ucalOk = x.ucalOk ∧ (x.setPin n y).ucalCrc = x.ucalCrc ∧
    (x.setPin n y).ucalNew = x.ucalNew ∧ (x.setPin n y).ucalJob = x.ucalJob ∧ (x.setPin n y).spr = x.spr ∧
    (x.setPin n y).jtag = x.jtag ∧ (x.setPin n y).spi = x.spi ∧ (x.setPin n y).tow = x.tow ∧ (x.setPin n y).hiOpt = x.hiOpt ∧
    (x.setPin n y).hiTow = x.hiTow ∧ (x.setPin n y).answer = x.answer ∧ (x.setPin n y).free = x.free :=
  ⟨rfl, rfl, rfl, rfl, rfl, rfl, rfl, rfl, rfl, rfl, rfl, rfl, rfl, rfl, rfl, rfl, rfl, rfl, rfl, rfl, rfl, rfl, rfl,
   rfl, rfl, rfl, rfl, rfl, rfl, rfl, rfl, rfl, rfl, rfl, rfl, rfl, rfl, rfl, rfl, rfl, rfl, rfl, rfl, rfl⟩

@[simp] theorem setChan_frame (c : Nat) (y : Bdac) :
    (x.setChan c y).regs = x.regs ∧ (x.setChan c y).clk = x.clk ∧ (x.setChan c y).rcd = x.rcd ∧ (x.setChan c y).flt = x.flt ∧
    (x.setChan c y).pwr = x.pwr ∧ (x.setChan c y).groups = x.groups ∧ (x.setChan c y).synths = x.synths ∧
    (x.setChan c y).rffe = x.rffe ∧ (x.setChan c y).tgpio = x.tgpio ∧ (x.setChan c y).crv = x.crv ∧
    (x.setChan c y).slices = x.slices ∧ (x.setChan c y).pool = x.pool ∧ (x.setChan c y).loops = x.loops ∧
    (x.setChan c y).eng = x.eng ∧ (x.setChan c y).stn = x.stn ∧ (x.setChan c y).cnl = x.cnl ∧ (x.setChan c y).orx = x.orx ∧
    (x.setChan c y).cal = x.cal ∧ (x.setChan c y).rxc = x.rxc ∧ (x.setChan c y).txc = x.txc ∧ (x.setChan c y).ucal = x.ucal ∧
    (x.setChan c y).authBlocks = x.authBlocks ∧ (x.setChan c y).ptl = x.ptl ∧ (x.setChan c y).thm = x.thm ∧
    (x.setChan c y).hk = x.hk ∧ (x.setChan c y).prb = x.prb ∧ (x.setChan c y).src = x.src ∧ (x.setChan c y).sup = x.sup ∧
    (x.setChan c y).auth = x.auth ∧ (x.setChan c y).ret = x.ret ∧ (x.setChan c y).boot = x.boot ∧
    (x.setChan c y).ucalArea = x.ucalArea ∧ (x.setChan c y).ucalOk = x.ucalOk ∧ (x.setChan c y).ucalCrc = x.ucalCrc ∧
    (x.setChan c y).ucalNew = x.ucalNew ∧ (x.setChan c y).ucalJob = x.ucalJob ∧ (x.setChan c y).spr = x.spr ∧
    (x.setChan c y).jtag = x.jtag ∧ (x.setChan c y).spi = x.spi ∧ (x.setChan c y).tow = x.tow ∧
    (x.setChan c y).hiOpt = x.hiOpt ∧ (x.setChan c y).hiTow = x.hiTow ∧ (x.setChan c y).answer = x.answer ∧
    (x.setChan c y).free = x.free :=
  ⟨rfl, rfl, rfl, rfl, rfl, rfl, rfl, rfl, rfl, rfl, rfl, rfl, rfl, rfl, rfl, rfl, rfl, rfl, rfl, rfl, rfl, rfl, rfl,
   rfl, rfl, rfl, rfl, rfl, rfl, rfl, rfl, rfl, rfl, rfl, rfl, rfl, rfl, rfl, rfl, rfl, rfl, rfl, rfl, rfl⟩

@[simp] theorem setLoop_frame (i : Nat) (y : Loop) :
    (x.setLoop i y).regs = x.regs ∧ (x.setLoop i y).clk = x.clk ∧ (x.setLoop i y).rcd = x.rcd ∧ (x.setLoop i y).flt = x.flt ∧
    (x.setLoop i y).pwr = x.pwr ∧ (x.setLoop i y).groups = x.groups ∧ (x.setLoop i y).synths = x.synths ∧
    (x.setLoop i y).rffe = x.rffe ∧ (x.setLoop i y).tgpio = x.tgpio ∧ (x.setLoop i y).bdac = x.bdac ∧
    (x.setLoop i y).crv = x.crv ∧ (x.setLoop i y).slices = x.slices ∧ (x.setLoop i y).pool = x.pool ∧
    (x.setLoop i y).eng = x.eng ∧ (x.setLoop i y).stn = x.stn ∧ (x.setLoop i y).cnl = x.cnl ∧ (x.setLoop i y).orx = x.orx ∧
    (x.setLoop i y).cal = x.cal ∧ (x.setLoop i y).rxc = x.rxc ∧ (x.setLoop i y).txc = x.txc ∧ (x.setLoop i y).ucal = x.ucal ∧
    (x.setLoop i y).authBlocks = x.authBlocks ∧ (x.setLoop i y).ptl = x.ptl ∧ (x.setLoop i y).thm = x.thm ∧
    (x.setLoop i y).hk = x.hk ∧ (x.setLoop i y).prb = x.prb ∧ (x.setLoop i y).src = x.src ∧ (x.setLoop i y).sup = x.sup ∧
    (x.setLoop i y).auth = x.auth ∧ (x.setLoop i y).ret = x.ret ∧ (x.setLoop i y).boot = x.boot ∧
    (x.setLoop i y).ucalArea = x.ucalArea ∧ (x.setLoop i y).ucalOk = x.ucalOk ∧ (x.setLoop i y).ucalCrc = x.ucalCrc ∧
    (x.setLoop i y).ucalNew = x.ucalNew ∧ (x.setLoop i y).ucalJob = x.ucalJob ∧ (x.setLoop i y).spr = x.spr ∧
    (x.setLoop i y).jtag = x.jtag ∧ (x.setLoop i y).spi = x.spi ∧ (x.setLoop i y).tow = x.tow ∧
    (x.setLoop i y).hiOpt = x.hiOpt ∧ (x.setLoop i y).hiTow = x.hiTow ∧ (x.setLoop i y).answer = x.answer ∧
    (x.setLoop i y).free = x.free :=
  ⟨rfl, rfl, rfl, rfl, rfl, rfl, rfl, rfl, rfl, rfl, rfl, rfl, rfl, rfl, rfl, rfl, rfl, rfl, rfl, rfl, rfl, rfl, rfl,
   rfl, rfl, rfl, rfl, rfl, rfl, rfl, rfl, rfl, rfl, rfl, rfl, rfl, rfl, rfl, rfl, rfl, rfl, rfl, rfl, rfl⟩

@[simp] theorem setStencil_frame (n : Nat) (y : Stencil) :
    (x.setStencil n y).regs = x.regs ∧ (x.setStencil n y).clk = x.clk ∧ (x.setStencil n y).rcd = x.rcd ∧
    (x.setStencil n y).flt = x.flt ∧ (x.setStencil n y).pwr = x.pwr ∧ (x.setStencil n y).groups = x.groups ∧
    (x.setStencil n y).synths = x.synths ∧ (x.setStencil n y).rffe = x.rffe ∧ (x.setStencil n y).tgpio = x.tgpio ∧
    (x.setStencil n y).bdac = x.bdac ∧ (x.setStencil n y).crv = x.crv ∧ (x.setStencil n y).slices = x.slices ∧
    (x.setStencil n y).pool = x.pool ∧ (x.setStencil n y).loops = x.loops ∧ (x.setStencil n y).eng = x.eng ∧
    (x.setStencil n y).cnl = x.cnl ∧ (x.setStencil n y).orx = x.orx ∧ (x.setStencil n y).cal = x.cal ∧
    (x.setStencil n y).rxc = x.rxc ∧ (x.setStencil n y).txc = x.txc ∧ (x.setStencil n y).ucal = x.ucal ∧
    (x.setStencil n y).authBlocks = x.authBlocks ∧ (x.setStencil n y).ptl = x.ptl ∧ (x.setStencil n y).thm = x.thm ∧
    (x.setStencil n y).hk = x.hk ∧ (x.setStencil n y).prb = x.prb ∧ (x.setStencil n y).src = x.src ∧
    (x.setStencil n y).sup = x.sup ∧ (x.setStencil n y).auth = x.auth ∧ (x.setStencil n y).ret = x.ret ∧
    (x.setStencil n y).boot = x.boot ∧ (x.setStencil n y).ucalArea = x.ucalArea ∧ (x.setStencil n y).ucalOk = x.ucalOk ∧
    (x.setStencil n y).ucalCrc = x.ucalCrc ∧ (x.setStencil n y).ucalNew = x.ucalNew ∧
    (x.setStencil n y).ucalJob = x.ucalJob ∧ (x.setStencil n y).spr = x.spr ∧ (x.setStencil n y).jtag = x.jtag ∧
    (x.setStencil n y).spi = x.spi ∧ (x.setStencil n y).tow = x.tow ∧ (x.setStencil n y).hiOpt = x.hiOpt ∧
    (x.setStencil n y).hiTow = x.hiTow ∧ (x.setStencil n y).answer = x.answer ∧ (x.setStencil n y).free = x.free :=
  ⟨rfl, rfl, rfl, rfl, rfl, rfl, rfl, rfl, rfl, rfl, rfl, rfl, rfl, rfl, rfl, rfl, rfl, rfl, rfl, rfl, rfl, rfl, rfl,
   rfl, rfl, rfl, rfl, rfl, rfl, rfl, rfl, rfl, rfl, rfl, rfl, rfl, rfl, rfl, rfl, rfl, rfl, rfl, rfl, rfl⟩

@[simp] theorem setCanc_frame (n : Nat) (y : Cnl) :
    (x.setCanc n y).regs = x.regs ∧ (x.setCanc n y).clk = x.clk ∧ (x.setCanc n y).rcd = x.rcd ∧ (x.setCanc n y).flt = x.flt ∧
    (x.setCanc n y).pwr = x.pwr ∧ (x.setCanc n y).groups = x.groups ∧ (x.setCanc n y).synths = x.synths ∧
    (x.setCanc n y).rffe = x.rffe ∧ (x.setCanc n y).tgpio = x.tgpio ∧ (x.setCanc n y).bdac = x.bdac ∧
    (x.setCanc n y).crv = x.crv ∧ (x.setCanc n y).slices = x.slices ∧ (x.setCanc n y).pool = x.pool ∧
    (x.setCanc n y).loops = x.loops ∧ (x.setCanc n y).eng = x.eng ∧ (x.setCanc n y).stn = x.stn ∧
    (x.setCanc n y).orx = x.orx ∧ (x.setCanc n y).cal = x.cal ∧ (x.setCanc n y).rxc = x.rxc ∧ (x.setCanc n y).txc = x.txc ∧
    (x.setCanc n y).ucal = x.ucal ∧ (x.setCanc n y).authBlocks = x.authBlocks ∧ (x.setCanc n y).ptl = x.ptl ∧
    (x.setCanc n y).thm = x.thm ∧ (x.setCanc n y).hk = x.hk ∧ (x.setCanc n y).prb = x.prb ∧ (x.setCanc n y).src = x.src ∧
    (x.setCanc n y).sup = x.sup ∧ (x.setCanc n y).auth = x.auth ∧ (x.setCanc n y).ret = x.ret ∧
    (x.setCanc n y).boot = x.boot ∧ (x.setCanc n y).ucalArea = x.ucalArea ∧ (x.setCanc n y).ucalOk = x.ucalOk ∧
    (x.setCanc n y).ucalCrc = x.ucalCrc ∧ (x.setCanc n y).ucalNew = x.ucalNew ∧ (x.setCanc n y).ucalJob = x.ucalJob ∧
    (x.setCanc n y).spr = x.spr ∧ (x.setCanc n y).jtag = x.jtag ∧ (x.setCanc n y).spi = x.spi ∧ (x.setCanc n y).tow = x.tow ∧
    (x.setCanc n y).hiOpt = x.hiOpt ∧ (x.setCanc n y).hiTow = x.hiTow ∧ (x.setCanc n y).answer = x.answer ∧
    (x.setCanc n y).free = x.free :=
  ⟨rfl, rfl, rfl, rfl, rfl, rfl, rfl, rfl, rfl, rfl, rfl, rfl, rfl, rfl, rfl, rfl, rfl, rfl, rfl, rfl, rfl, rfl, rfl,
   rfl, rfl, rfl, rfl, rfl, rfl, rfl, rfl, rfl, rfl, rfl, rfl, rfl, rfl, rfl, rfl, rfl, rfl, rfl, rfl, rfl⟩

@[simp] theorem setRxChain_frame (c : Nat) (y : Chain) :
    (x.setRxChain c y).regs = x.regs ∧ (x.setRxChain c y).clk = x.clk ∧ (x.setRxChain c y).rcd = x.rcd ∧
    (x.setRxChain c y).flt = x.flt ∧ (x.setRxChain c y).pwr = x.pwr ∧ (x.setRxChain c y).groups = x.groups ∧
    (x.setRxChain c y).synths = x.synths ∧ (x.setRxChain c y).rffe = x.rffe ∧ (x.setRxChain c y).tgpio = x.tgpio ∧
    (x.setRxChain c y).bdac = x.bdac ∧ (x.setRxChain c y).crv = x.crv ∧ (x.setRxChain c y).slices = x.slices ∧
    (x.setRxChain c y).pool = x.pool ∧ (x.setRxChain c y).loops = x.loops ∧ (x.setRxChain c y).eng = x.eng ∧
    (x.setRxChain c y).stn = x.stn ∧ (x.setRxChain c y).cnl = x.cnl ∧ (x.setRxChain c y).orx = x.orx ∧
    (x.setRxChain c y).cal = x.cal ∧ (x.setRxChain c y).txc = x.txc ∧ (x.setRxChain c y).ucal = x.ucal ∧
    (x.setRxChain c y).authBlocks = x.authBlocks ∧ (x.setRxChain c y).ptl = x.ptl ∧ (x.setRxChain c y).thm = x.thm ∧
    (x.setRxChain c y).hk = x.hk ∧ (x.setRxChain c y).prb = x.prb ∧ (x.setRxChain c y).src = x.src ∧
    (x.setRxChain c y).sup = x.sup ∧ (x.setRxChain c y).auth = x.auth ∧ (x.setRxChain c y).ret = x.ret ∧
    (x.setRxChain c y).boot = x.boot ∧ (x.setRxChain c y).ucalArea = x.ucalArea ∧ (x.setRxChain c y).ucalOk = x.ucalOk ∧
    (x.setRxChain c y).ucalCrc = x.ucalCrc ∧ (x.setRxChain c y).ucalNew = x.ucalNew ∧
    (x.setRxChain c y).ucalJob = x.ucalJob ∧ (x.setRxChain c y).spr = x.spr ∧ (x.setRxChain c y).jtag = x.jtag ∧
    (x.setRxChain c y).spi = x.spi ∧ (x.setRxChain c y).tow = x.tow ∧ (x.setRxChain c y).hiOpt = x.hiOpt ∧
    (x.setRxChain c y).hiTow = x.hiTow ∧ (x.setRxChain c y).answer = x.answer ∧ (x.setRxChain c y).free = x.free :=
  ⟨rfl, rfl, rfl, rfl, rfl, rfl, rfl, rfl, rfl, rfl, rfl, rfl, rfl, rfl, rfl, rfl, rfl, rfl, rfl, rfl, rfl, rfl, rfl,
   rfl, rfl, rfl, rfl, rfl, rfl, rfl, rfl, rfl, rfl, rfl, rfl, rfl, rfl, rfl, rfl, rfl, rfl, rfl, rfl, rfl⟩

@[simp] theorem setTxChain_frame (c : Nat) (y : Chain) :
    (x.setTxChain c y).regs = x.regs ∧ (x.setTxChain c y).clk = x.clk ∧ (x.setTxChain c y).rcd = x.rcd ∧
    (x.setTxChain c y).flt = x.flt ∧ (x.setTxChain c y).pwr = x.pwr ∧ (x.setTxChain c y).groups = x.groups ∧
    (x.setTxChain c y).synths = x.synths ∧ (x.setTxChain c y).rffe = x.rffe ∧ (x.setTxChain c y).tgpio = x.tgpio ∧
    (x.setTxChain c y).bdac = x.bdac ∧ (x.setTxChain c y).crv = x.crv ∧ (x.setTxChain c y).slices = x.slices ∧
    (x.setTxChain c y).pool = x.pool ∧ (x.setTxChain c y).loops = x.loops ∧ (x.setTxChain c y).eng = x.eng ∧
    (x.setTxChain c y).stn = x.stn ∧ (x.setTxChain c y).cnl = x.cnl ∧ (x.setTxChain c y).orx = x.orx ∧
    (x.setTxChain c y).cal = x.cal ∧ (x.setTxChain c y).rxc = x.rxc ∧ (x.setTxChain c y).ucal = x.ucal ∧
    (x.setTxChain c y).authBlocks = x.authBlocks ∧ (x.setTxChain c y).ptl = x.ptl ∧ (x.setTxChain c y).thm = x.thm ∧
    (x.setTxChain c y).hk = x.hk ∧ (x.setTxChain c y).prb = x.prb ∧ (x.setTxChain c y).src = x.src ∧
    (x.setTxChain c y).sup = x.sup ∧ (x.setTxChain c y).auth = x.auth ∧ (x.setTxChain c y).ret = x.ret ∧
    (x.setTxChain c y).boot = x.boot ∧ (x.setTxChain c y).ucalArea = x.ucalArea ∧ (x.setTxChain c y).ucalOk = x.ucalOk ∧
    (x.setTxChain c y).ucalCrc = x.ucalCrc ∧ (x.setTxChain c y).ucalNew = x.ucalNew ∧
    (x.setTxChain c y).ucalJob = x.ucalJob ∧ (x.setTxChain c y).spr = x.spr ∧ (x.setTxChain c y).jtag = x.jtag ∧
    (x.setTxChain c y).spi = x.spi ∧ (x.setTxChain c y).tow = x.tow ∧ (x.setTxChain c y).hiOpt = x.hiOpt ∧
    (x.setTxChain c y).hiTow = x.hiTow ∧ (x.setTxChain c y).answer = x.answer ∧ (x.setTxChain c y).free = x.free :=
  ⟨rfl, rfl, rfl, rfl, rfl, rfl, rfl, rfl, rfl, rfl, rfl, rfl, rfl, rfl, rfl, rfl, rfl, rfl, rfl, rfl, rfl, rfl, rfl,
   rfl, rfl, rfl, rfl, rfl, rfl, rfl, rfl, rfl, rfl, rfl, rfl, rfl, rfl, rfl, rfl, rfl, rfl, rfl, rfl, rfl⟩

@[simp] theorem setSlice_frame (n : Nat) (y : Slice) :
    (x.setSlice n y).regs = x.regs ∧ (x.setSlice n y).clk = x.clk ∧ (x.setSlice n y).rcd = x.rcd ∧
    (x.setSlice n y).flt = x.flt ∧ (x.setSlice n y).pwr = x.pwr ∧ (x.setSlice n y).groups = x.groups ∧
    (x.setSlice n y).synths = x.synths ∧ (x.setSlice n y).rffe = x.rffe ∧ (x.setSlice n y).tgpio = x.tgpio ∧
    (x.setSlice n y).bdac = x.bdac ∧ (x.setSlice n y).crv = x.crv ∧ (x.setSlice n y).pool = x.pool ∧
    (x.setSlice n y).loops = x.loops ∧ (x.setSlice n y).eng = x.eng ∧ (x.setSlice n y).stn = x.stn ∧
    (x.setSlice n y).cnl = x.cnl ∧ (x.setSlice n y).orx = x.orx ∧ (x.setSlice n y).cal = x.cal ∧
    (x.setSlice n y).rxc = x.rxc ∧ (x.setSlice n y).txc = x.txc ∧ (x.setSlice n y).ucal = x.ucal ∧
    (x.setSlice n y).authBlocks = x.authBlocks ∧ (x.setSlice n y).ptl = x.ptl ∧ (x.setSlice n y).thm = x.thm ∧
    (x.setSlice n y).hk = x.hk ∧ (x.setSlice n y).prb = x.prb ∧ (x.setSlice n y).src = x.src ∧ (x.setSlice n y).sup = x.sup ∧
    (x.setSlice n y).auth = x.auth ∧ (x.setSlice n y).ret = x.ret ∧ (x.setSlice n y).boot = x.boot ∧
    (x.setSlice n y).ucalArea = x.ucalArea ∧ (x.setSlice n y).ucalOk = x.ucalOk ∧ (x.setSlice n y).ucalCrc = x.ucalCrc ∧
    (x.setSlice n y).ucalNew = x.ucalNew ∧ (x.setSlice n y).ucalJob = x.ucalJob ∧ (x.setSlice n y).spr = x.spr ∧
    (x.setSlice n y).jtag = x.jtag ∧ (x.setSlice n y).spi = x.spi ∧ (x.setSlice n y).tow = x.tow ∧
    (x.setSlice n y).hiOpt = x.hiOpt ∧ (x.setSlice n y).hiTow = x.hiTow ∧ (x.setSlice n y).answer = x.answer ∧
    (x.setSlice n y).free = x.free :=
  ⟨rfl, rfl, rfl, rfl, rfl, rfl, rfl, rfl, rfl, rfl, rfl, rfl, rfl, rfl, rfl, rfl, rfl, rfl, rfl, rfl, rfl, rfl, rfl,
   rfl, rfl, rfl, rfl, rfl, rfl, rfl, rfl, rfl, rfl, rfl, rfl, rfl, rfl, rfl, rfl, rfl, rfl, rfl, rfl, rfl⟩

@[simp] theorem setPsl_frame (n : Nat) (y : PSlice) :
    (x.setPsl n y).regs = x.regs ∧ (x.setPsl n y).clk = x.clk ∧ (x.setPsl n y).rcd = x.rcd ∧ (x.setPsl n y).flt = x.flt ∧
    (x.setPsl n y).pwr = x.pwr ∧ (x.setPsl n y).groups = x.groups ∧ (x.setPsl n y).synths = x.synths ∧
    (x.setPsl n y).rffe = x.rffe ∧ (x.setPsl n y).tgpio = x.tgpio ∧ (x.setPsl n y).bdac = x.bdac ∧
    (x.setPsl n y).crv = x.crv ∧ (x.setPsl n y).slices = x.slices ∧ (x.setPsl n y).pool = x.pool ∧
    (x.setPsl n y).loops = x.loops ∧ (x.setPsl n y).eng = x.eng ∧ (x.setPsl n y).stn = x.stn ∧ (x.setPsl n y).cnl = x.cnl ∧
    (x.setPsl n y).orx = x.orx ∧ (x.setPsl n y).cal = x.cal ∧ (x.setPsl n y).rxc = x.rxc ∧ (x.setPsl n y).txc = x.txc ∧
    (x.setPsl n y).ucal = x.ucal ∧ (x.setPsl n y).authBlocks = x.authBlocks ∧ (x.setPsl n y).thm = x.thm ∧
    (x.setPsl n y).hk = x.hk ∧ (x.setPsl n y).prb = x.prb ∧ (x.setPsl n y).src = x.src ∧ (x.setPsl n y).sup = x.sup ∧
    (x.setPsl n y).auth = x.auth ∧ (x.setPsl n y).ret = x.ret ∧ (x.setPsl n y).boot = x.boot ∧
    (x.setPsl n y).ucalArea = x.ucalArea ∧ (x.setPsl n y).ucalOk = x.ucalOk ∧ (x.setPsl n y).ucalCrc = x.ucalCrc ∧
    (x.setPsl n y).ucalNew = x.ucalNew ∧ (x.setPsl n y).ucalJob = x.ucalJob ∧ (x.setPsl n y).spr = x.spr ∧
    (x.setPsl n y).jtag = x.jtag ∧ (x.setPsl n y).spi = x.spi ∧ (x.setPsl n y).tow = x.tow ∧ (x.setPsl n y).hiOpt = x.hiOpt ∧
    (x.setPsl n y).hiTow = x.hiTow ∧ (x.setPsl n y).answer = x.answer ∧ (x.setPsl n y).free = x.free :=
  ⟨rfl, rfl, rfl, rfl, rfl, rfl, rfl, rfl, rfl, rfl, rfl, rfl, rfl, rfl, rfl, rfl, rfl, rfl, rfl, rfl, rfl, rfl, rfl,
   rfl, rfl, rfl, rfl, rfl, rfl, rfl, rfl, rfl, rfl, rfl, rfl, rfl, rfl, rfl, rfl, rfl, rfl, rfl, rfl, rfl⟩

@[simp] theorem setPch_frame (c : Nat) (y : PChain) :
    (x.setPch c y).regs = x.regs ∧ (x.setPch c y).clk = x.clk ∧ (x.setPch c y).rcd = x.rcd ∧ (x.setPch c y).flt = x.flt ∧
    (x.setPch c y).pwr = x.pwr ∧ (x.setPch c y).groups = x.groups ∧ (x.setPch c y).synths = x.synths ∧
    (x.setPch c y).rffe = x.rffe ∧ (x.setPch c y).tgpio = x.tgpio ∧ (x.setPch c y).bdac = x.bdac ∧
    (x.setPch c y).crv = x.crv ∧ (x.setPch c y).slices = x.slices ∧ (x.setPch c y).pool = x.pool ∧
    (x.setPch c y).loops = x.loops ∧ (x.setPch c y).eng = x.eng ∧ (x.setPch c y).stn = x.stn ∧ (x.setPch c y).cnl = x.cnl ∧
    (x.setPch c y).orx = x.orx ∧ (x.setPch c y).cal = x.cal ∧ (x.setPch c y).rxc = x.rxc ∧ (x.setPch c y).txc = x.txc ∧
    (x.setPch c y).ucal = x.ucal ∧ (x.setPch c y).authBlocks = x.authBlocks ∧ (x.setPch c y).thm = x.thm ∧
    (x.setPch c y).hk = x.hk ∧ (x.setPch c y).prb = x.prb ∧ (x.setPch c y).src = x.src ∧ (x.setPch c y).sup = x.sup ∧
    (x.setPch c y).auth = x.auth ∧ (x.setPch c y).ret = x.ret ∧ (x.setPch c y).boot = x.boot ∧
    (x.setPch c y).ucalArea = x.ucalArea ∧ (x.setPch c y).ucalOk = x.ucalOk ∧ (x.setPch c y).ucalCrc = x.ucalCrc ∧
    (x.setPch c y).ucalNew = x.ucalNew ∧ (x.setPch c y).ucalJob = x.ucalJob ∧ (x.setPch c y).spr = x.spr ∧
    (x.setPch c y).jtag = x.jtag ∧ (x.setPch c y).spi = x.spi ∧ (x.setPch c y).tow = x.tow ∧ (x.setPch c y).hiOpt = x.hiOpt ∧
    (x.setPch c y).hiTow = x.hiTow ∧ (x.setPch c y).answer = x.answer ∧ (x.setPch c y).free = x.free :=
  ⟨rfl, rfl, rfl, rfl, rfl, rfl, rfl, rfl, rfl, rfl, rfl, rfl, rfl, rfl, rfl, rfl, rfl, rfl, rfl, rfl, rfl, rfl, rfl,
   rfl, rfl, rfl, rfl, rfl, rfl, rfl, rfl, rfl, rfl, rfl, rfl, rfl, rfl, rfl, rfl, rfl, rfl, rfl, rfl, rfl⟩

@[simp] theorem setSensor_frame (n : Nat) (y : Sensor) :
    (x.setSensor n y).regs = x.regs ∧ (x.setSensor n y).clk = x.clk ∧ (x.setSensor n y).rcd = x.rcd ∧
    (x.setSensor n y).flt = x.flt ∧ (x.setSensor n y).pwr = x.pwr ∧ (x.setSensor n y).groups = x.groups ∧
    (x.setSensor n y).synths = x.synths ∧ (x.setSensor n y).rffe = x.rffe ∧ (x.setSensor n y).tgpio = x.tgpio ∧
    (x.setSensor n y).bdac = x.bdac ∧ (x.setSensor n y).crv = x.crv ∧ (x.setSensor n y).slices = x.slices ∧
    (x.setSensor n y).pool = x.pool ∧ (x.setSensor n y).loops = x.loops ∧ (x.setSensor n y).eng = x.eng ∧
    (x.setSensor n y).stn = x.stn ∧ (x.setSensor n y).cnl = x.cnl ∧ (x.setSensor n y).orx = x.orx ∧
    (x.setSensor n y).cal = x.cal ∧ (x.setSensor n y).rxc = x.rxc ∧ (x.setSensor n y).txc = x.txc ∧
    (x.setSensor n y).ucal = x.ucal ∧ (x.setSensor n y).authBlocks = x.authBlocks ∧ (x.setSensor n y).ptl = x.ptl ∧
    (x.setSensor n y).hk = x.hk ∧ (x.setSensor n y).prb = x.prb ∧ (x.setSensor n y).src = x.src ∧
    (x.setSensor n y).sup = x.sup ∧ (x.setSensor n y).auth = x.auth ∧ (x.setSensor n y).ret = x.ret ∧
    (x.setSensor n y).boot = x.boot ∧ (x.setSensor n y).ucalArea = x.ucalArea ∧ (x.setSensor n y).ucalOk = x.ucalOk ∧
    (x.setSensor n y).ucalCrc = x.ucalCrc ∧ (x.setSensor n y).ucalNew = x.ucalNew ∧ (x.setSensor n y).ucalJob = x.ucalJob ∧
    (x.setSensor n y).spr = x.spr ∧ (x.setSensor n y).jtag = x.jtag ∧ (x.setSensor n y).spi = x.spi ∧
    (x.setSensor n y).tow = x.tow ∧ (x.setSensor n y).hiOpt = x.hiOpt ∧ (x.setSensor n y).hiTow = x.hiTow ∧
    (x.setSensor n y).answer = x.answer ∧ (x.setSensor n y).free = x.free :=
  ⟨rfl, rfl, rfl, rfl, rfl, rfl, rfl, rfl, rfl, rfl, rfl, rfl, rfl, rfl, rfl, rfl, rfl, rfl, rfl, rfl, rfl, rfl, rfl,
   rfl, rfl, rfl, rfl, rfl, rfl, rfl, rfl, rfl, rfl, rfl, rfl, rfl, rfl, rfl, rfl, rfl, rfl, rfl, rfl, rfl⟩

@[simp] theorem setDom_frame (n : Nat) (y : Dom) :
    (x.setDom n y).regs = x.regs ∧ (x.setDom n y).clk = x.clk ∧ (x.setDom n y).rcd = x.rcd ∧ (x.setDom n y).flt = x.flt ∧
    (x.setDom n y).groups = x.groups ∧ (x.setDom n y).synths = x.synths ∧ (x.setDom n y).rffe = x.rffe ∧
    (x.setDom n y).tgpio = x.tgpio ∧ (x.setDom n y).bdac = x.bdac ∧ (x.setDom n y).crv = x.crv ∧
    (x.setDom n y).slices = x.slices ∧ (x.setDom n y).pool = x.pool ∧ (x.setDom n y).loops = x.loops ∧
    (x.setDom n y).eng = x.eng ∧ (x.setDom n y).stn = x.stn ∧ (x.setDom n y).cnl = x.cnl ∧ (x.setDom n y).orx = x.orx ∧
    (x.setDom n y).cal = x.cal ∧ (x.setDom n y).rxc = x.rxc ∧ (x.setDom n y).txc = x.txc ∧ (x.setDom n y).ucal = x.ucal ∧
    (x.setDom n y).authBlocks = x.authBlocks ∧ (x.setDom n y).ptl = x.ptl ∧ (x.setDom n y).thm = x.thm ∧
    (x.setDom n y).hk = x.hk ∧ (x.setDom n y).prb = x.prb ∧ (x.setDom n y).src = x.src ∧ (x.setDom n y).sup = x.sup ∧
    (x.setDom n y).auth = x.auth ∧ (x.setDom n y).ret = x.ret ∧ (x.setDom n y).boot = x.boot ∧
    (x.setDom n y).ucalArea = x.ucalArea ∧ (x.setDom n y).ucalOk = x.ucalOk ∧ (x.setDom n y).ucalCrc = x.ucalCrc ∧
    (x.setDom n y).ucalNew = x.ucalNew ∧ (x.setDom n y).ucalJob = x.ucalJob ∧ (x.setDom n y).spr = x.spr ∧
    (x.setDom n y).jtag = x.jtag ∧ (x.setDom n y).spi = x.spi ∧ (x.setDom n y).tow = x.tow ∧ (x.setDom n y).hiOpt = x.hiOpt ∧
    (x.setDom n y).hiTow = x.hiTow ∧ (x.setDom n y).answer = x.answer ∧ (x.setDom n y).free = x.free :=
  ⟨rfl, rfl, rfl, rfl, rfl, rfl, rfl, rfl, rfl, rfl, rfl, rfl, rfl, rfl, rfl, rfl, rfl, rfl, rfl, rfl, rfl, rfl, rfl,
   rfl, rfl, rfl, rfl, rfl, rfl, rfl, rfl, rfl, rfl, rfl, rfl, rfl, rfl, rfl, rfl, rfl, rfl, rfl, rfl, rfl⟩

@[simp] theorem setDet_frame (n : Nat) (y : Detector) :
    (x.setDet n y).regs = x.regs ∧ (x.setDet n y).clk = x.clk ∧ (x.setDet n y).rcd = x.rcd ∧ (x.setDet n y).flt = x.flt ∧
    (x.setDet n y).pwr = x.pwr ∧ (x.setDet n y).groups = x.groups ∧ (x.setDet n y).synths = x.synths ∧
    (x.setDet n y).rffe = x.rffe ∧ (x.setDet n y).tgpio = x.tgpio ∧ (x.setDet n y).bdac = x.bdac ∧
    (x.setDet n y).crv = x.crv ∧ (x.setDet n y).slices = x.slices ∧ (x.setDet n y).pool = x.pool ∧
    (x.setDet n y).loops = x.loops ∧ (x.setDet n y).eng = x.eng ∧ (x.setDet n y).stn = x.stn ∧ (x.setDet n y).cnl = x.cnl ∧
    (x.setDet n y).orx = x.orx ∧ (x.setDet n y).cal = x.cal ∧ (x.setDet n y).rxc = x.rxc ∧ (x.setDet n y).txc = x.txc ∧
    (x.setDet n y).ucal = x.ucal ∧ (x.setDet n y).authBlocks = x.authBlocks ∧ (x.setDet n y).ptl = x.ptl ∧
    (x.setDet n y).thm = x.thm ∧ (x.setDet n y).hk = x.hk ∧ (x.setDet n y).prb = x.prb ∧ (x.setDet n y).sup = x.sup ∧
    (x.setDet n y).auth = x.auth ∧ (x.setDet n y).ret = x.ret ∧ (x.setDet n y).boot = x.boot ∧
    (x.setDet n y).ucalArea = x.ucalArea ∧ (x.setDet n y).ucalOk = x.ucalOk ∧ (x.setDet n y).ucalCrc = x.ucalCrc ∧
    (x.setDet n y).ucalNew = x.ucalNew ∧ (x.setDet n y).ucalJob = x.ucalJob ∧ (x.setDet n y).spr = x.spr ∧
    (x.setDet n y).jtag = x.jtag ∧ (x.setDet n y).spi = x.spi ∧ (x.setDet n y).tow = x.tow ∧ (x.setDet n y).hiOpt = x.hiOpt ∧
    (x.setDet n y).hiTow = x.hiTow ∧ (x.setDet n y).answer = x.answer ∧ (x.setDet n y).free = x.free :=
  ⟨rfl, rfl, rfl, rfl, rfl, rfl, rfl, rfl, rfl, rfl, rfl, rfl, rfl, rfl, rfl, rfl, rfl, rfl, rfl, rfl, rfl, rfl, rfl,
   rfl, rfl, rfl, rfl, rfl, rfl, rfl, rfl, rfl, rfl, rfl, rfl, rfl, rfl, rfl, rfl, rfl, rfl, rfl, rfl, rfl⟩

@[simp] theorem setLatch_frame (k : Nat) (y : Latch) :
    (x.setLatch k y).regs = x.regs ∧ (x.setLatch k y).clk = x.clk ∧ (x.setLatch k y).rcd = x.rcd ∧
    (x.setLatch k y).pwr = x.pwr ∧ (x.setLatch k y).groups = x.groups ∧ (x.setLatch k y).synths = x.synths ∧
    (x.setLatch k y).rffe = x.rffe ∧ (x.setLatch k y).tgpio = x.tgpio ∧ (x.setLatch k y).bdac = x.bdac ∧
    (x.setLatch k y).crv = x.crv ∧ (x.setLatch k y).slices = x.slices ∧ (x.setLatch k y).pool = x.pool ∧
    (x.setLatch k y).loops = x.loops ∧ (x.setLatch k y).eng = x.eng ∧ (x.setLatch k y).stn = x.stn ∧
    (x.setLatch k y).cnl = x.cnl ∧ (x.setLatch k y).orx = x.orx ∧ (x.setLatch k y).cal = x.cal ∧
    (x.setLatch k y).rxc = x.rxc ∧ (x.setLatch k y).txc = x.txc ∧ (x.setLatch k y).ucal = x.ucal ∧
    (x.setLatch k y).authBlocks = x.authBlocks ∧ (x.setLatch k y).ptl = x.ptl ∧ (x.setLatch k y).thm = x.thm ∧
    (x.setLatch k y).hk = x.hk ∧ (x.setLatch k y).prb = x.prb ∧ (x.setLatch k y).src = x.src ∧ (x.setLatch k y).sup = x.sup ∧
    (x.setLatch k y).auth = x.auth ∧ (x.setLatch k y).ret = x.ret ∧ (x.setLatch k y).boot = x.boot ∧
    (x.setLatch k y).ucalArea = x.ucalArea ∧ (x.setLatch k y).ucalOk = x.ucalOk ∧ (x.setLatch k y).ucalCrc = x.ucalCrc ∧
    (x.setLatch k y).ucalNew = x.ucalNew ∧ (x.setLatch k y).ucalJob = x.ucalJob ∧ (x.setLatch k y).spr = x.spr ∧
    (x.setLatch k y).jtag = x.jtag ∧ (x.setLatch k y).spi = x.spi ∧ (x.setLatch k y).tow = x.tow ∧
    (x.setLatch k y).hiOpt = x.hiOpt ∧ (x.setLatch k y).hiTow = x.hiTow ∧ (x.setLatch k y).answer = x.answer ∧
    (x.setLatch k y).free = x.free :=
  ⟨rfl, rfl, rfl, rfl, rfl, rfl, rfl, rfl, rfl, rfl, rfl, rfl, rfl, rfl, rfl, rfl, rfl, rfl, rfl, rfl, rfl, rfl, rfl,
   rfl, rfl, rfl, rfl, rfl, rfl, rfl, rfl, rfl, rfl, rfl, rfl, rfl, rfl, rfl, rfl, rfl, rfl, rfl, rfl, rfl⟩

@[simp] theorem setStg_frame (k : Nat) (y : Stg) :
    (x.setStg k y).regs = x.regs ∧ (x.setStg k y).clk = x.clk ∧ (x.setStg k y).flt = x.flt ∧ (x.setStg k y).pwr = x.pwr ∧
    (x.setStg k y).groups = x.groups ∧ (x.setStg k y).synths = x.synths ∧ (x.setStg k y).rffe = x.rffe ∧
    (x.setStg k y).tgpio = x.tgpio ∧ (x.setStg k y).bdac = x.bdac ∧ (x.setStg k y).crv = x.crv ∧
    (x.setStg k y).slices = x.slices ∧ (x.setStg k y).pool = x.pool ∧ (x.setStg k y).loops = x.loops ∧
    (x.setStg k y).eng = x.eng ∧ (x.setStg k y).stn = x.stn ∧ (x.setStg k y).cnl = x.cnl ∧ (x.setStg k y).orx = x.orx ∧
    (x.setStg k y).cal = x.cal ∧ (x.setStg k y).rxc = x.rxc ∧ (x.setStg k y).txc = x.txc ∧ (x.setStg k y).ucal = x.ucal ∧
    (x.setStg k y).authBlocks = x.authBlocks ∧ (x.setStg k y).ptl = x.ptl ∧ (x.setStg k y).thm = x.thm ∧
    (x.setStg k y).hk = x.hk ∧ (x.setStg k y).prb = x.prb ∧ (x.setStg k y).src = x.src ∧ (x.setStg k y).sup = x.sup ∧
    (x.setStg k y).auth = x.auth ∧ (x.setStg k y).ret = x.ret ∧ (x.setStg k y).boot = x.boot ∧
    (x.setStg k y).ucalArea = x.ucalArea ∧ (x.setStg k y).ucalOk = x.ucalOk ∧ (x.setStg k y).ucalCrc = x.ucalCrc ∧
    (x.setStg k y).ucalNew = x.ucalNew ∧ (x.setStg k y).ucalJob = x.ucalJob ∧ (x.setStg k y).spr = x.spr ∧
    (x.setStg k y).jtag = x.jtag ∧ (x.setStg k y).spi = x.spi ∧ (x.setStg k y).tow = x.tow ∧ (x.setStg k y).hiOpt = x.hiOpt ∧
    (x.setStg k y).hiTow = x.hiTow ∧ (x.setStg k y).answer = x.answer ∧ (x.setStg k y).free = x.free :=
  ⟨rfl, rfl, rfl, rfl, rfl, rfl, rfl, rfl, rfl, rfl, rfl, rfl, rfl, rfl, rfl, rfl, rfl, rfl, rfl, rfl, rfl, rfl, rfl,
   rfl, rfl, rfl, rfl, rfl, rfl, rfl, rfl, rfl, rfl, rfl, rfl, rfl, rfl, rfl, rfl, rfl, rfl, rfl, rfl, rfl⟩

@[simp] theorem modFlt_frame (g : Faults → Faults) :
    (x.modFlt g).regs = x.regs ∧ (x.modFlt g).clk = x.clk ∧ (x.modFlt g).rcd = x.rcd ∧ (x.modFlt g).pwr = x.pwr ∧
    (x.modFlt g).groups = x.groups ∧ (x.modFlt g).synths = x.synths ∧ (x.modFlt g).rffe = x.rffe ∧
    (x.modFlt g).tgpio = x.tgpio ∧ (x.modFlt g).bdac = x.bdac ∧ (x.modFlt g).crv = x.crv ∧ (x.modFlt g).slices = x.slices ∧
    (x.modFlt g).pool = x.pool ∧ (x.modFlt g).loops = x.loops ∧ (x.modFlt g).eng = x.eng ∧ (x.modFlt g).stn = x.stn ∧
    (x.modFlt g).cnl = x.cnl ∧ (x.modFlt g).orx = x.orx ∧ (x.modFlt g).cal = x.cal ∧ (x.modFlt g).rxc = x.rxc ∧
    (x.modFlt g).txc = x.txc ∧ (x.modFlt g).ucal = x.ucal ∧ (x.modFlt g).authBlocks = x.authBlocks ∧
    (x.modFlt g).ptl = x.ptl ∧ (x.modFlt g).thm = x.thm ∧ (x.modFlt g).hk = x.hk ∧ (x.modFlt g).prb = x.prb ∧
    (x.modFlt g).src = x.src ∧ (x.modFlt g).sup = x.sup ∧ (x.modFlt g).auth = x.auth ∧ (x.modFlt g).ret = x.ret ∧
    (x.modFlt g).boot = x.boot ∧ (x.modFlt g).ucalArea = x.ucalArea ∧ (x.modFlt g).ucalOk = x.ucalOk ∧
    (x.modFlt g).ucalCrc = x.ucalCrc ∧ (x.modFlt g).ucalNew = x.ucalNew ∧ (x.modFlt g).ucalJob = x.ucalJob ∧
    (x.modFlt g).spr = x.spr ∧ (x.modFlt g).jtag = x.jtag ∧ (x.modFlt g).spi = x.spi ∧ (x.modFlt g).tow = x.tow ∧
    (x.modFlt g).hiOpt = x.hiOpt ∧ (x.modFlt g).hiTow = x.hiTow ∧ (x.modFlt g).answer = x.answer ∧ (x.modFlt g).free = x.free :=
  ⟨rfl, rfl, rfl, rfl, rfl, rfl, rfl, rfl, rfl, rfl, rfl, rfl, rfl, rfl, rfl, rfl, rfl, rfl, rfl, rfl, rfl, rfl, rfl,
   rfl, rfl, rfl, rfl, rfl, rfl, rfl, rfl, rfl, rfl, rfl, rfl, rfl, rfl, rfl, rfl, rfl, rfl, rfl, rfl, rfl⟩

@[simp] theorem modRcd_frame (g : Recorder → Recorder) :
    (x.modRcd g).regs = x.regs ∧ (x.modRcd g).clk = x.clk ∧ (x.modRcd g).flt = x.flt ∧ (x.modRcd g).pwr = x.pwr ∧
    (x.modRcd g).groups = x.groups ∧ (x.modRcd g).synths = x.synths ∧ (x.modRcd g).rffe = x.rffe ∧
    (x.modRcd g).tgpio = x.tgpio ∧ (x.modRcd g).bdac = x.bdac ∧ (x.modRcd g).crv = x.crv ∧ (x.modRcd g).slices = x.slices ∧
    (x.modRcd g).pool = x.pool ∧ (x.modRcd g).loops = x.loops ∧ (x.modRcd g).eng = x.eng ∧ (x.modRcd g).stn = x.stn ∧
    (x.modRcd g).cnl = x.cnl ∧ (x.modRcd g).orx = x.orx ∧ (x.modRcd g).cal = x.cal ∧ (x.modRcd g).rxc = x.rxc ∧
    (x.modRcd g).txc = x.txc ∧ (x.modRcd g).ucal = x.ucal ∧ (x.modRcd g).authBlocks = x.authBlocks ∧
    (x.modRcd g).ptl = x.ptl ∧ (x.modRcd g).thm = x.thm ∧ (x.modRcd g).hk = x.hk ∧ (x.modRcd g).prb = x.prb ∧
    (x.modRcd g).src = x.src ∧ (x.modRcd g).sup = x.sup ∧ (x.modRcd g).auth = x.auth ∧ (x.modRcd g).ret = x.ret ∧
    (x.modRcd g).boot = x.boot ∧ (x.modRcd g).ucalArea = x.ucalArea ∧ (x.modRcd g).ucalOk = x.ucalOk ∧
    (x.modRcd g).ucalCrc = x.ucalCrc ∧ (x.modRcd g).ucalNew = x.ucalNew ∧ (x.modRcd g).ucalJob = x.ucalJob ∧
    (x.modRcd g).spr = x.spr ∧ (x.modRcd g).jtag = x.jtag ∧ (x.modRcd g).spi = x.spi ∧ (x.modRcd g).tow = x.tow ∧
    (x.modRcd g).hiOpt = x.hiOpt ∧ (x.modRcd g).hiTow = x.hiTow ∧ (x.modRcd g).answer = x.answer ∧ (x.modRcd g).free = x.free :=
  ⟨rfl, rfl, rfl, rfl, rfl, rfl, rfl, rfl, rfl, rfl, rfl, rfl, rfl, rfl, rfl, rfl, rfl, rfl, rfl, rfl, rfl, rfl, rfl,
   rfl, rfl, rfl, rfl, rfl, rfl, rfl, rfl, rfl, rfl, rfl, rfl, rfl, rfl, rfl, rfl, rfl, rfl, rfl, rfl, rfl⟩

@[simp] theorem modSrc_frame (g : Sources → Sources) :
    (x.modSrc g).regs = x.regs ∧ (x.modSrc g).clk = x.clk ∧ (x.modSrc g).rcd = x.rcd ∧ (x.modSrc g).flt = x.flt ∧
    (x.modSrc g).pwr = x.pwr ∧ (x.modSrc g).groups = x.groups ∧ (x.modSrc g).synths = x.synths ∧ (x.modSrc g).rffe = x.rffe ∧
    (x.modSrc g).tgpio = x.tgpio ∧ (x.modSrc g).bdac = x.bdac ∧ (x.modSrc g).crv = x.crv ∧ (x.modSrc g).slices = x.slices ∧
    (x.modSrc g).pool = x.pool ∧ (x.modSrc g).loops = x.loops ∧ (x.modSrc g).eng = x.eng ∧ (x.modSrc g).stn = x.stn ∧
    (x.modSrc g).cnl = x.cnl ∧ (x.modSrc g).orx = x.orx ∧ (x.modSrc g).cal = x.cal ∧ (x.modSrc g).rxc = x.rxc ∧
    (x.modSrc g).txc = x.txc ∧ (x.modSrc g).ucal = x.ucal ∧ (x.modSrc g).authBlocks = x.authBlocks ∧
    (x.modSrc g).ptl = x.ptl ∧ (x.modSrc g).thm = x.thm ∧ (x.modSrc g).hk = x.hk ∧ (x.modSrc g).prb = x.prb ∧
    (x.modSrc g).sup = x.sup ∧ (x.modSrc g).auth = x.auth ∧ (x.modSrc g).ret = x.ret ∧ (x.modSrc g).boot = x.boot ∧
    (x.modSrc g).ucalArea = x.ucalArea ∧ (x.modSrc g).ucalOk = x.ucalOk ∧ (x.modSrc g).ucalCrc = x.ucalCrc ∧
    (x.modSrc g).ucalNew = x.ucalNew ∧ (x.modSrc g).ucalJob = x.ucalJob ∧ (x.modSrc g).spr = x.spr ∧
    (x.modSrc g).jtag = x.jtag ∧ (x.modSrc g).spi = x.spi ∧ (x.modSrc g).tow = x.tow ∧ (x.modSrc g).hiOpt = x.hiOpt ∧
    (x.modSrc g).hiTow = x.hiTow ∧ (x.modSrc g).answer = x.answer ∧ (x.modSrc g).free = x.free :=
  ⟨rfl, rfl, rfl, rfl, rfl, rfl, rfl, rfl, rfl, rfl, rfl, rfl, rfl, rfl, rfl, rfl, rfl, rfl, rfl, rfl, rfl, rfl, rfl,
   rfl, rfl, rfl, rfl, rfl, rfl, rfl, rfl, rfl, rfl, rfl, rfl, rfl, rfl, rfl, rfl, rfl, rfl, rfl, rfl, rfl⟩

@[simp] theorem modPtl_frame (g : Patrol → Patrol) :
    (x.modPtl g).regs = x.regs ∧ (x.modPtl g).clk = x.clk ∧ (x.modPtl g).rcd = x.rcd ∧ (x.modPtl g).flt = x.flt ∧
    (x.modPtl g).pwr = x.pwr ∧ (x.modPtl g).groups = x.groups ∧ (x.modPtl g).synths = x.synths ∧ (x.modPtl g).rffe = x.rffe ∧
    (x.modPtl g).tgpio = x.tgpio ∧ (x.modPtl g).bdac = x.bdac ∧ (x.modPtl g).crv = x.crv ∧ (x.modPtl g).slices = x.slices ∧
    (x.modPtl g).pool = x.pool ∧ (x.modPtl g).loops = x.loops ∧ (x.modPtl g).eng = x.eng ∧ (x.modPtl g).stn = x.stn ∧
    (x.modPtl g).cnl = x.cnl ∧ (x.modPtl g).orx = x.orx ∧ (x.modPtl g).cal = x.cal ∧ (x.modPtl g).rxc = x.rxc ∧
    (x.modPtl g).txc = x.txc ∧ (x.modPtl g).ucal = x.ucal ∧ (x.modPtl g).authBlocks = x.authBlocks ∧
    (x.modPtl g).thm = x.thm ∧ (x.modPtl g).hk = x.hk ∧ (x.modPtl g).prb = x.prb ∧ (x.modPtl g).src = x.src ∧
    (x.modPtl g).sup = x.sup ∧ (x.modPtl g).auth = x.auth ∧ (x.modPtl g).ret = x.ret ∧ (x.modPtl g).boot = x.boot ∧
    (x.modPtl g).ucalArea = x.ucalArea ∧ (x.modPtl g).ucalOk = x.ucalOk ∧ (x.modPtl g).ucalCrc = x.ucalCrc ∧
    (x.modPtl g).ucalNew = x.ucalNew ∧ (x.modPtl g).ucalJob = x.ucalJob ∧ (x.modPtl g).spr = x.spr ∧
    (x.modPtl g).jtag = x.jtag ∧ (x.modPtl g).spi = x.spi ∧ (x.modPtl g).tow = x.tow ∧ (x.modPtl g).hiOpt = x.hiOpt ∧
    (x.modPtl g).hiTow = x.hiTow ∧ (x.modPtl g).answer = x.answer ∧ (x.modPtl g).free = x.free :=
  ⟨rfl, rfl, rfl, rfl, rfl, rfl, rfl, rfl, rfl, rfl, rfl, rfl, rfl, rfl, rfl, rfl, rfl, rfl, rfl, rfl, rfl, rfl, rfl,
   rfl, rfl, rfl, rfl, rfl, rfl, rfl, rfl, rfl, rfl, rfl, rfl, rfl, rfl, rfl, rfl, rfl, rfl, rfl, rfl, rfl⟩

@[simp] theorem modPwr_frame (g : Power → Power) :
    (x.modPwr g).regs = x.regs ∧ (x.modPwr g).clk = x.clk ∧ (x.modPwr g).rcd = x.rcd ∧ (x.modPwr g).flt = x.flt ∧
    (x.modPwr g).groups = x.groups ∧ (x.modPwr g).synths = x.synths ∧ (x.modPwr g).rffe = x.rffe ∧
    (x.modPwr g).tgpio = x.tgpio ∧ (x.modPwr g).bdac = x.bdac ∧ (x.modPwr g).crv = x.crv ∧ (x.modPwr g).slices = x.slices ∧
    (x.modPwr g).pool = x.pool ∧ (x.modPwr g).loops = x.loops ∧ (x.modPwr g).eng = x.eng ∧ (x.modPwr g).stn = x.stn ∧
    (x.modPwr g).cnl = x.cnl ∧ (x.modPwr g).orx = x.orx ∧ (x.modPwr g).cal = x.cal ∧ (x.modPwr g).rxc = x.rxc ∧
    (x.modPwr g).txc = x.txc ∧ (x.modPwr g).ucal = x.ucal ∧ (x.modPwr g).authBlocks = x.authBlocks ∧
    (x.modPwr g).ptl = x.ptl ∧ (x.modPwr g).thm = x.thm ∧ (x.modPwr g).hk = x.hk ∧ (x.modPwr g).prb = x.prb ∧
    (x.modPwr g).src = x.src ∧ (x.modPwr g).sup = x.sup ∧ (x.modPwr g).auth = x.auth ∧ (x.modPwr g).ret = x.ret ∧
    (x.modPwr g).boot = x.boot ∧ (x.modPwr g).ucalArea = x.ucalArea ∧ (x.modPwr g).ucalOk = x.ucalOk ∧
    (x.modPwr g).ucalCrc = x.ucalCrc ∧ (x.modPwr g).ucalNew = x.ucalNew ∧ (x.modPwr g).ucalJob = x.ucalJob ∧
    (x.modPwr g).spr = x.spr ∧ (x.modPwr g).jtag = x.jtag ∧ (x.modPwr g).spi = x.spi ∧ (x.modPwr g).tow = x.tow ∧
    (x.modPwr g).hiOpt = x.hiOpt ∧ (x.modPwr g).hiTow = x.hiTow ∧ (x.modPwr g).answer = x.answer ∧ (x.modPwr g).free = x.free :=
  ⟨rfl, rfl, rfl, rfl, rfl, rfl, rfl, rfl, rfl, rfl, rfl, rfl, rfl, rfl, rfl, rfl, rfl, rfl, rfl, rfl, rfl, rfl, rfl,
   rfl, rfl, rfl, rfl, rfl, rfl, rfl, rfl, rfl, rfl, rfl, rfl, rfl, rfl, rfl, rfl, rfl, rfl, rfl, rfl, rfl⟩

@[simp] theorem modPrb_frame (g : Probe → Probe) :
    (x.modPrb g).regs = x.regs ∧ (x.modPrb g).clk = x.clk ∧ (x.modPrb g).rcd = x.rcd ∧ (x.modPrb g).flt = x.flt ∧
    (x.modPrb g).pwr = x.pwr ∧ (x.modPrb g).groups = x.groups ∧ (x.modPrb g).synths = x.synths ∧ (x.modPrb g).rffe = x.rffe ∧
    (x.modPrb g).tgpio = x.tgpio ∧ (x.modPrb g).bdac = x.bdac ∧ (x.modPrb g).crv = x.crv ∧ (x.modPrb g).slices = x.slices ∧
    (x.modPrb g).pool = x.pool ∧ (x.modPrb g).loops = x.loops ∧ (x.modPrb g).eng = x.eng ∧ (x.modPrb g).stn = x.stn ∧
    (x.modPrb g).cnl = x.cnl ∧ (x.modPrb g).orx = x.orx ∧ (x.modPrb g).cal = x.cal ∧ (x.modPrb g).rxc = x.rxc ∧
    (x.modPrb g).txc = x.txc ∧ (x.modPrb g).ucal = x.ucal ∧ (x.modPrb g).authBlocks = x.authBlocks ∧
    (x.modPrb g).ptl = x.ptl ∧ (x.modPrb g).thm = x.thm ∧ (x.modPrb g).hk = x.hk ∧ (x.modPrb g).src = x.src ∧
    (x.modPrb g).sup = x.sup ∧ (x.modPrb g).auth = x.auth ∧ (x.modPrb g).ret = x.ret ∧ (x.modPrb g).boot = x.boot ∧
    (x.modPrb g).ucalArea = x.ucalArea ∧ (x.modPrb g).ucalOk = x.ucalOk ∧ (x.modPrb g).ucalCrc = x.ucalCrc ∧
    (x.modPrb g).ucalNew = x.ucalNew ∧ (x.modPrb g).ucalJob = x.ucalJob ∧ (x.modPrb g).spr = x.spr ∧
    (x.modPrb g).jtag = x.jtag ∧ (x.modPrb g).spi = x.spi ∧ (x.modPrb g).tow = x.tow ∧ (x.modPrb g).hiOpt = x.hiOpt ∧
    (x.modPrb g).hiTow = x.hiTow ∧ (x.modPrb g).answer = x.answer ∧ (x.modPrb g).free = x.free :=
  ⟨rfl, rfl, rfl, rfl, rfl, rfl, rfl, rfl, rfl, rfl, rfl, rfl, rfl, rfl, rfl, rfl, rfl, rfl, rfl, rfl, rfl, rfl, rfl,
   rfl, rfl, rfl, rfl, rfl, rfl, rfl, rfl, rfl, rfl, rfl, rfl, rfl, rfl, rfl, rfl, rfl, rfl, rfl, rfl, rfl⟩

@[simp] theorem modCrv_frame (g : Carve → Carve) :
    (x.modCrv g).regs = x.regs ∧ (x.modCrv g).clk = x.clk ∧ (x.modCrv g).rcd = x.rcd ∧ (x.modCrv g).flt = x.flt ∧
    (x.modCrv g).pwr = x.pwr ∧ (x.modCrv g).groups = x.groups ∧ (x.modCrv g).synths = x.synths ∧ (x.modCrv g).rffe = x.rffe ∧
    (x.modCrv g).tgpio = x.tgpio ∧ (x.modCrv g).bdac = x.bdac ∧ (x.modCrv g).slices = x.slices ∧ (x.modCrv g).pool = x.pool ∧
    (x.modCrv g).loops = x.loops ∧ (x.modCrv g).eng = x.eng ∧ (x.modCrv g).stn = x.stn ∧ (x.modCrv g).cnl = x.cnl ∧
    (x.modCrv g).orx = x.orx ∧ (x.modCrv g).cal = x.cal ∧ (x.modCrv g).rxc = x.rxc ∧ (x.modCrv g).txc = x.txc ∧
    (x.modCrv g).ucal = x.ucal ∧ (x.modCrv g).authBlocks = x.authBlocks ∧ (x.modCrv g).ptl = x.ptl ∧
    (x.modCrv g).thm = x.thm ∧ (x.modCrv g).hk = x.hk ∧ (x.modCrv g).prb = x.prb ∧ (x.modCrv g).src = x.src ∧
    (x.modCrv g).sup = x.sup ∧ (x.modCrv g).auth = x.auth ∧ (x.modCrv g).ret = x.ret ∧ (x.modCrv g).boot = x.boot ∧
    (x.modCrv g).ucalArea = x.ucalArea ∧ (x.modCrv g).ucalOk = x.ucalOk ∧ (x.modCrv g).ucalCrc = x.ucalCrc ∧
    (x.modCrv g).ucalNew = x.ucalNew ∧ (x.modCrv g).ucalJob = x.ucalJob ∧ (x.modCrv g).spr = x.spr ∧
    (x.modCrv g).jtag = x.jtag ∧ (x.modCrv g).spi = x.spi ∧ (x.modCrv g).tow = x.tow ∧ (x.modCrv g).hiOpt = x.hiOpt ∧
    (x.modCrv g).hiTow = x.hiTow ∧ (x.modCrv g).answer = x.answer ∧ (x.modCrv g).free = x.free :=
  ⟨rfl, rfl, rfl, rfl, rfl, rfl, rfl, rfl, rfl, rfl, rfl, rfl, rfl, rfl, rfl, rfl, rfl, rfl, rfl, rfl, rfl, rfl, rfl,
   rfl, rfl, rfl, rfl, rfl, rfl, rfl, rfl, rfl, rfl, rfl, rfl, rfl, rfl, rfl, rfl, rfl, rfl, rfl, rfl, rfl⟩

@[simp] theorem modRet_frame (g : Retained → Retained) :
    (x.modRet g).regs = x.regs ∧ (x.modRet g).clk = x.clk ∧ (x.modRet g).rcd = x.rcd ∧ (x.modRet g).flt = x.flt ∧
    (x.modRet g).pwr = x.pwr ∧ (x.modRet g).groups = x.groups ∧ (x.modRet g).synths = x.synths ∧ (x.modRet g).rffe = x.rffe ∧
    (x.modRet g).tgpio = x.tgpio ∧ (x.modRet g).bdac = x.bdac ∧ (x.modRet g).crv = x.crv ∧ (x.modRet g).slices = x.slices ∧
    (x.modRet g).pool = x.pool ∧ (x.modRet g).loops = x.loops ∧ (x.modRet g).eng = x.eng ∧ (x.modRet g).stn = x.stn ∧
    (x.modRet g).cnl = x.cnl ∧ (x.modRet g).orx = x.orx ∧ (x.modRet g).cal = x.cal ∧ (x.modRet g).rxc = x.rxc ∧
    (x.modRet g).txc = x.txc ∧ (x.modRet g).ucal = x.ucal ∧ (x.modRet g).authBlocks = x.authBlocks ∧
    (x.modRet g).ptl = x.ptl ∧ (x.modRet g).thm = x.thm ∧ (x.modRet g).hk = x.hk ∧ (x.modRet g).prb = x.prb ∧
    (x.modRet g).src = x.src ∧ (x.modRet g).sup = x.sup ∧ (x.modRet g).auth = x.auth ∧ (x.modRet g).boot = x.boot ∧
    (x.modRet g).ucalArea = x.ucalArea ∧ (x.modRet g).ucalOk = x.ucalOk ∧ (x.modRet g).ucalCrc = x.ucalCrc ∧
    (x.modRet g).ucalNew = x.ucalNew ∧ (x.modRet g).ucalJob = x.ucalJob ∧ (x.modRet g).spr = x.spr ∧
    (x.modRet g).jtag = x.jtag ∧ (x.modRet g).spi = x.spi ∧ (x.modRet g).tow = x.tow ∧ (x.modRet g).hiOpt = x.hiOpt ∧
    (x.modRet g).hiTow = x.hiTow ∧ (x.modRet g).answer = x.answer ∧ (x.modRet g).free = x.free :=
  ⟨rfl, rfl, rfl, rfl, rfl, rfl, rfl, rfl, rfl, rfl, rfl, rfl, rfl, rfl, rfl, rfl, rfl, rfl, rfl, rfl, rfl, rfl, rfl,
   rfl, rfl, rfl, rfl, rfl, rfl, rfl, rfl, rfl, rfl, rfl, rfl, rfl, rfl, rfl, rfl, rfl, rfl, rfl, rfl, rfl⟩

@[simp] theorem modSpr_frame (g : Spares → Spares) :
    (x.modSpr g).regs = x.regs ∧ (x.modSpr g).clk = x.clk ∧ (x.modSpr g).rcd = x.rcd ∧ (x.modSpr g).flt = x.flt ∧
    (x.modSpr g).pwr = x.pwr ∧ (x.modSpr g).groups = x.groups ∧ (x.modSpr g).synths = x.synths ∧ (x.modSpr g).rffe = x.rffe ∧
    (x.modSpr g).tgpio = x.tgpio ∧ (x.modSpr g).bdac = x.bdac ∧ (x.modSpr g).crv = x.crv ∧ (x.modSpr g).slices = x.slices ∧
    (x.modSpr g).pool = x.pool ∧ (x.modSpr g).loops = x.loops ∧ (x.modSpr g).eng = x.eng ∧ (x.modSpr g).stn = x.stn ∧
    (x.modSpr g).cnl = x.cnl ∧ (x.modSpr g).orx = x.orx ∧ (x.modSpr g).cal = x.cal ∧ (x.modSpr g).rxc = x.rxc ∧
    (x.modSpr g).txc = x.txc ∧ (x.modSpr g).ucal = x.ucal ∧ (x.modSpr g).authBlocks = x.authBlocks ∧
    (x.modSpr g).ptl = x.ptl ∧ (x.modSpr g).thm = x.thm ∧ (x.modSpr g).hk = x.hk ∧ (x.modSpr g).prb = x.prb ∧
    (x.modSpr g).src = x.src ∧ (x.modSpr g).sup = x.sup ∧ (x.modSpr g).auth = x.auth ∧ (x.modSpr g).ret = x.ret ∧
    (x.modSpr g).boot = x.boot ∧ (x.modSpr g).ucalArea = x.ucalArea ∧ (x.modSpr g).ucalOk = x.ucalOk ∧
    (x.modSpr g).ucalCrc = x.ucalCrc ∧ (x.modSpr g).ucalNew = x.ucalNew ∧ (x.modSpr g).ucalJob = x.ucalJob ∧
    (x.modSpr g).jtag = x.jtag ∧ (x.modSpr g).spi = x.spi ∧ (x.modSpr g).tow = x.tow ∧ (x.modSpr g).hiOpt = x.hiOpt ∧
    (x.modSpr g).hiTow = x.hiTow ∧ (x.modSpr g).answer = x.answer ∧ (x.modSpr g).free = x.free :=
  ⟨rfl, rfl, rfl, rfl, rfl, rfl, rfl, rfl, rfl, rfl, rfl, rfl, rfl, rfl, rfl, rfl, rfl, rfl, rfl, rfl, rfl, rfl, rfl,
   rfl, rfl, rfl, rfl, rfl, rfl, rfl, rfl, rfl, rfl, rfl, rfl, rfl, rfl, rfl, rfl, rfl, rfl, rfl, rfl, rfl⟩

@[simp] theorem modSup_frame (g : Sup → Sup) :
    (x.modSup g).regs = x.regs ∧ (x.modSup g).clk = x.clk ∧ (x.modSup g).rcd = x.rcd ∧ (x.modSup g).flt = x.flt ∧
    (x.modSup g).pwr = x.pwr ∧ (x.modSup g).groups = x.groups ∧ (x.modSup g).synths = x.synths ∧ (x.modSup g).rffe = x.rffe ∧
    (x.modSup g).tgpio = x.tgpio ∧ (x.modSup g).bdac = x.bdac ∧ (x.modSup g).crv = x.crv ∧ (x.modSup g).slices = x.slices ∧
    (x.modSup g).pool = x.pool ∧ (x.modSup g).loops = x.loops ∧ (x.modSup g).eng = x.eng ∧ (x.modSup g).stn = x.stn ∧
    (x.modSup g).cnl = x.cnl ∧ (x.modSup g).orx = x.orx ∧ (x.modSup g).cal = x.cal ∧ (x.modSup g).rxc = x.rxc ∧
    (x.modSup g).txc = x.txc ∧ (x.modSup g).ucal = x.ucal ∧ (x.modSup g).authBlocks = x.authBlocks ∧
    (x.modSup g).ptl = x.ptl ∧ (x.modSup g).thm = x.thm ∧ (x.modSup g).hk = x.hk ∧ (x.modSup g).prb = x.prb ∧
    (x.modSup g).src = x.src ∧ (x.modSup g).auth = x.auth ∧ (x.modSup g).ret = x.ret ∧ (x.modSup g).boot = x.boot ∧
    (x.modSup g).ucalArea = x.ucalArea ∧ (x.modSup g).ucalOk = x.ucalOk ∧ (x.modSup g).ucalCrc = x.ucalCrc ∧
    (x.modSup g).ucalNew = x.ucalNew ∧ (x.modSup g).ucalJob = x.ucalJob ∧ (x.modSup g).spr = x.spr ∧
    (x.modSup g).jtag = x.jtag ∧ (x.modSup g).spi = x.spi ∧ (x.modSup g).tow = x.tow ∧ (x.modSup g).hiOpt = x.hiOpt ∧
    (x.modSup g).hiTow = x.hiTow ∧ (x.modSup g).answer = x.answer ∧ (x.modSup g).free = x.free :=
  ⟨rfl, rfl, rfl, rfl, rfl, rfl, rfl, rfl, rfl, rfl, rfl, rfl, rfl, rfl, rfl, rfl, rfl, rfl, rfl, rfl, rfl, rfl, rfl,
   rfl, rfl, rfl, rfl, rfl, rfl, rfl, rfl, rfl, rfl, rfl, rfl, rfl, rfl, rfl, rfl, rfl, rfl, rfl, rfl, rfl⟩

@[simp] theorem modTow_frame (g : Tow → Tow) :
    (x.modTow g).regs = x.regs ∧ (x.modTow g).clk = x.clk ∧ (x.modTow g).rcd = x.rcd ∧ (x.modTow g).flt = x.flt ∧
    (x.modTow g).pwr = x.pwr ∧ (x.modTow g).groups = x.groups ∧ (x.modTow g).synths = x.synths ∧ (x.modTow g).rffe = x.rffe ∧
    (x.modTow g).tgpio = x.tgpio ∧ (x.modTow g).bdac = x.bdac ∧ (x.modTow g).crv = x.crv ∧ (x.modTow g).slices = x.slices ∧
    (x.modTow g).pool = x.pool ∧ (x.modTow g).loops = x.loops ∧ (x.modTow g).eng = x.eng ∧ (x.modTow g).stn = x.stn ∧
    (x.modTow g).cnl = x.cnl ∧ (x.modTow g).orx = x.orx ∧ (x.modTow g).cal = x.cal ∧ (x.modTow g).rxc = x.rxc ∧
    (x.modTow g).txc = x.txc ∧ (x.modTow g).ucal = x.ucal ∧ (x.modTow g).authBlocks = x.authBlocks ∧
    (x.modTow g).ptl = x.ptl ∧ (x.modTow g).thm = x.thm ∧ (x.modTow g).hk = x.hk ∧ (x.modTow g).prb = x.prb ∧
    (x.modTow g).src = x.src ∧ (x.modTow g).sup = x.sup ∧ (x.modTow g).auth = x.auth ∧ (x.modTow g).ret = x.ret ∧
    (x.modTow g).boot = x.boot ∧ (x.modTow g).ucalArea = x.ucalArea ∧ (x.modTow g).ucalOk = x.ucalOk ∧
    (x.modTow g).ucalCrc = x.ucalCrc ∧ (x.modTow g).ucalNew = x.ucalNew ∧ (x.modTow g).ucalJob = x.ucalJob ∧
    (x.modTow g).spr = x.spr ∧ (x.modTow g).jtag = x.jtag ∧ (x.modTow g).spi = x.spi ∧ (x.modTow g).hiOpt = x.hiOpt ∧
    (x.modTow g).hiTow = x.hiTow ∧ (x.modTow g).answer = x.answer ∧ (x.modTow g).free = x.free :=
  ⟨rfl, rfl, rfl, rfl, rfl, rfl, rfl, rfl, rfl, rfl, rfl, rfl, rfl, rfl, rfl, rfl, rfl, rfl, rfl, rfl, rfl, rfl, rfl,
   rfl, rfl, rfl, rfl, rfl, rfl, rfl, rfl, rfl, rfl, rfl, rfl, rfl, rfl, rfl, rfl, rfl, rfl, rfl, rfl, rfl⟩

@[simp] theorem modJtag_frame (g : Jtag → Jtag) :
    (x.modJtag g).regs = x.regs ∧ (x.modJtag g).clk = x.clk ∧ (x.modJtag g).rcd = x.rcd ∧ (x.modJtag g).flt = x.flt ∧
    (x.modJtag g).pwr = x.pwr ∧ (x.modJtag g).groups = x.groups ∧ (x.modJtag g).synths = x.synths ∧
    (x.modJtag g).rffe = x.rffe ∧ (x.modJtag g).tgpio = x.tgpio ∧ (x.modJtag g).bdac = x.bdac ∧ (x.modJtag g).crv = x.crv ∧
    (x.modJtag g).slices = x.slices ∧ (x.modJtag g).pool = x.pool ∧ (x.modJtag g).loops = x.loops ∧
    (x.modJtag g).eng = x.eng ∧ (x.modJtag g).stn = x.stn ∧ (x.modJtag g).cnl = x.cnl ∧ (x.modJtag g).orx = x.orx ∧
    (x.modJtag g).cal = x.cal ∧ (x.modJtag g).rxc = x.rxc ∧ (x.modJtag g).txc = x.txc ∧ (x.modJtag g).ucal = x.ucal ∧
    (x.modJtag g).authBlocks = x.authBlocks ∧ (x.modJtag g).ptl = x.ptl ∧ (x.modJtag g).thm = x.thm ∧
    (x.modJtag g).hk = x.hk ∧ (x.modJtag g).prb = x.prb ∧ (x.modJtag g).src = x.src ∧ (x.modJtag g).sup = x.sup ∧
    (x.modJtag g).auth = x.auth ∧ (x.modJtag g).ret = x.ret ∧ (x.modJtag g).boot = x.boot ∧
    (x.modJtag g).ucalArea = x.ucalArea ∧ (x.modJtag g).ucalOk = x.ucalOk ∧ (x.modJtag g).ucalCrc = x.ucalCrc ∧
    (x.modJtag g).ucalNew = x.ucalNew ∧ (x.modJtag g).ucalJob = x.ucalJob ∧ (x.modJtag g).spr = x.spr ∧
    (x.modJtag g).spi = x.spi ∧ (x.modJtag g).tow = x.tow ∧ (x.modJtag g).hiOpt = x.hiOpt ∧ (x.modJtag g).hiTow = x.hiTow ∧
    (x.modJtag g).answer = x.answer ∧ (x.modJtag g).free = x.free :=
  ⟨rfl, rfl, rfl, rfl, rfl, rfl, rfl, rfl, rfl, rfl, rfl, rfl, rfl, rfl, rfl, rfl, rfl, rfl, rfl, rfl, rfl, rfl, rfl,
   rfl, rfl, rfl, rfl, rfl, rfl, rfl, rfl, rfl, rfl, rfl, rfl, rfl, rfl, rfl, rfl, rfl, rfl, rfl, rfl, rfl⟩

@[simp] theorem atOfs_frame (o : Nat) :
    (x.atOfs o).regs = x.regs ∧ (x.atOfs o).rcd = x.rcd ∧ (x.atOfs o).flt = x.flt ∧ (x.atOfs o).pwr = x.pwr ∧
    (x.atOfs o).groups = x.groups ∧ (x.atOfs o).synths = x.synths ∧ (x.atOfs o).rffe = x.rffe ∧ (x.atOfs o).tgpio = x.tgpio ∧
    (x.atOfs o).bdac = x.bdac ∧ (x.atOfs o).crv = x.crv ∧ (x.atOfs o).slices = x.slices ∧ (x.atOfs o).pool = x.pool ∧
    (x.atOfs o).loops = x.loops ∧ (x.atOfs o).eng = x.eng ∧ (x.atOfs o).stn = x.stn ∧ (x.atOfs o).cnl = x.cnl ∧
    (x.atOfs o).orx = x.orx ∧ (x.atOfs o).cal = x.cal ∧ (x.atOfs o).rxc = x.rxc ∧ (x.atOfs o).txc = x.txc ∧
    (x.atOfs o).ucal = x.ucal ∧ (x.atOfs o).authBlocks = x.authBlocks ∧ (x.atOfs o).ptl = x.ptl ∧ (x.atOfs o).thm = x.thm ∧
    (x.atOfs o).hk = x.hk ∧ (x.atOfs o).prb = x.prb ∧ (x.atOfs o).src = x.src ∧ (x.atOfs o).sup = x.sup ∧
    (x.atOfs o).auth = x.auth ∧ (x.atOfs o).ret = x.ret ∧ (x.atOfs o).boot = x.boot ∧ (x.atOfs o).ucalArea = x.ucalArea ∧
    (x.atOfs o).ucalOk = x.ucalOk ∧ (x.atOfs o).ucalCrc = x.ucalCrc ∧ (x.atOfs o).ucalNew = x.ucalNew ∧
    (x.atOfs o).ucalJob = x.ucalJob ∧ (x.atOfs o).spr = x.spr ∧ (x.atOfs o).jtag = x.jtag ∧ (x.atOfs o).spi = x.spi ∧
    (x.atOfs o).tow = x.tow ∧ (x.atOfs o).hiOpt = x.hiOpt ∧ (x.atOfs o).hiTow = x.hiTow ∧ (x.atOfs o).answer = x.answer ∧
    (x.atOfs o).free = x.free :=
  ⟨rfl, rfl, rfl, rfl, rfl, rfl, rfl, rfl, rfl, rfl, rfl, rfl, rfl, rfl, rfl, rfl, rfl, rfl, rfl, rfl, rfl, rfl, rfl,
   rfl, rfl, rfl, rfl, rfl, rfl, rfl, rfl, rfl, rfl, rfl, rfl, rfl, rfl, rfl, rfl, rfl, rfl, rfl, rfl, rfl⟩

/-! ### Frames: units and registers under an update of another field -/

@[simp] theorem setReg_units (n : RegName) (i j : Nat) (w : Word) (u : Nat) :
    (x.setReg n i j w).group u = x.group u ∧ (x.setReg n i j w).synth u = x.synth u ∧
    (x.setReg n i j w).rffeM u = x.rffeM u ∧ (x.setReg n i j w).pin u = x.pin u ∧ (x.setReg n i j w).chan u = x.chan u ∧
    (x.setReg n i j w).loop u = x.loop u ∧ (x.setReg n i j w).stencil u = x.stencil u ∧
    (x.setReg n i j w).canc u = x.canc u ∧ (x.setReg n i j w).rxChain u = x.rxChain u ∧
    (x.setReg n i j w).txChain u = x.txChain u ∧ (x.setReg n i j w).slice u = x.slice u ∧
    (x.setReg n i j w).psl u = x.psl u ∧ (x.setReg n i j w).pch u = x.pch u ∧ (x.setReg n i j w).sensor u = x.sensor u ∧
    (x.setReg n i j w).dom u = x.dom u ∧ (x.setReg n i j w).det u = x.det u :=
  ⟨rfl, rfl, rfl, rfl, rfl, rfl, rfl, rfl, rfl, rfl, rfl, rfl, rfl, rfl, rfl, rfl⟩

@[simp] theorem put_units (f : Fld) (i v : Nat) (u : Nat) :
    (x.put f i v).group u = x.group u ∧ (x.put f i v).synth u = x.synth u ∧ (x.put f i v).rffeM u = x.rffeM u ∧
    (x.put f i v).pin u = x.pin u ∧ (x.put f i v).chan u = x.chan u ∧ (x.put f i v).loop u = x.loop u ∧
    (x.put f i v).stencil u = x.stencil u ∧ (x.put f i v).canc u = x.canc u ∧ (x.put f i v).rxChain u = x.rxChain u ∧
    (x.put f i v).txChain u = x.txChain u ∧ (x.put f i v).slice u = x.slice u ∧ (x.put f i v).psl u = x.psl u ∧
    (x.put f i v).pch u = x.pch u ∧ (x.put f i v).sensor u = x.sensor u ∧ (x.put f i v).dom u = x.dom u ∧
    (x.put f i v).det u = x.det u :=
  ⟨rfl, rfl, rfl, rfl, rfl, rfl, rfl, rfl, rfl, rfl, rfl, rfl, rfl, rfl, rfl, rfl⟩

@[simp] theorem setBit_units (f : Fld) (i : Nat) (u : Nat) :
    (x.setBit f i).group u = x.group u ∧ (x.setBit f i).synth u = x.synth u ∧ (x.setBit f i).rffeM u = x.rffeM u ∧
    (x.setBit f i).pin u = x.pin u ∧ (x.setBit f i).chan u = x.chan u ∧ (x.setBit f i).loop u = x.loop u ∧
    (x.setBit f i).stencil u = x.stencil u ∧ (x.setBit f i).canc u = x.canc u ∧ (x.setBit f i).rxChain u = x.rxChain u ∧
    (x.setBit f i).txChain u = x.txChain u ∧ (x.setBit f i).slice u = x.slice u ∧ (x.setBit f i).psl u = x.psl u ∧
    (x.setBit f i).pch u = x.pch u ∧ (x.setBit f i).sensor u = x.sensor u ∧ (x.setBit f i).dom u = x.dom u ∧
    (x.setBit f i).det u = x.det u :=
  ⟨rfl, rfl, rfl, rfl, rfl, rfl, rfl, rfl, rfl, rfl, rfl, rfl, rfl, rfl, rfl, rfl⟩

@[simp] theorem setGroup_units (g : Nat) (y : Group) (u v : Nat) (r : RegName) (fl : Fld) :
    (x.setGroup g y).synth u = x.synth u ∧ (x.setGroup g y).rffeM u = x.rffeM u ∧ (x.setGroup g y).pin u = x.pin u ∧
    (x.setGroup g y).chan u = x.chan u ∧ (x.setGroup g y).loop u = x.loop u ∧ (x.setGroup g y).stencil u = x.stencil u ∧
    (x.setGroup g y).canc u = x.canc u ∧ (x.setGroup g y).rxChain u = x.rxChain u ∧
    (x.setGroup g y).txChain u = x.txChain u ∧ (x.setGroup g y).slice u = x.slice u ∧ (x.setGroup g y).psl u = x.psl u ∧
    (x.setGroup g y).pch u = x.pch u ∧ (x.setGroup g y).sensor u = x.sensor u ∧ (x.setGroup g y).dom u = x.dom u ∧
    (x.setGroup g y).det u = x.det u ∧ (x.setGroup g y).reg r u v = x.reg r u v ∧
    (x.setGroup g y).get fl u v = x.get fl u v ∧ (x.setGroup g y).flag fl u v = x.flag fl u v ∧
    (x.setGroup g y).int fl u v = x.int fl u v :=
  ⟨rfl, rfl, rfl, rfl, rfl, rfl, rfl, rfl, rfl, rfl, rfl, rfl, rfl, rfl, rfl, rfl, rfl, rfl, rfl⟩

@[simp] theorem setSynth_units (n : Nat) (y : Synth) (u v : Nat) (r : RegName) (fl : Fld) :
    (x.setSynth n y).group u = x.group u ∧ (x.setSynth n y).rffeM u = x.rffeM u ∧ (x.setSynth n y).pin u = x.pin u ∧
    (x.setSynth n y).chan u = x.chan u ∧ (x.setSynth n y).loop u = x.loop u ∧ (x.setSynth n y).stencil u = x.stencil u ∧
    (x.setSynth n y).canc u = x.canc u ∧ (x.setSynth n y).rxChain u = x.rxChain u ∧
    (x.setSynth n y).txChain u = x.txChain u ∧ (x.setSynth n y).slice u = x.slice u ∧ (x.setSynth n y).psl u = x.psl u ∧
    (x.setSynth n y).pch u = x.pch u ∧ (x.setSynth n y).sensor u = x.sensor u ∧ (x.setSynth n y).dom u = x.dom u ∧
    (x.setSynth n y).det u = x.det u ∧ (x.setSynth n y).reg r u v = x.reg r u v ∧
    (x.setSynth n y).get fl u v = x.get fl u v ∧ (x.setSynth n y).flag fl u v = x.flag fl u v ∧
    (x.setSynth n y).int fl u v = x.int fl u v :=
  ⟨rfl, rfl, rfl, rfl, rfl, rfl, rfl, rfl, rfl, rfl, rfl, rfl, rfl, rfl, rfl, rfl, rfl, rfl, rfl⟩

@[simp] theorem setRffe_units (m : Nat) (y : Rffe) (u v : Nat) (r : RegName) (fl : Fld) :
    (x.setRffe m y).group u = x.group u ∧ (x.setRffe m y).synth u = x.synth u ∧ (x.setRffe m y).pin u = x.pin u ∧
    (x.setRffe m y).chan u = x.chan u ∧ (x.setRffe m y).loop u = x.loop u ∧ (x.setRffe m y).stencil u = x.stencil u ∧
    (x.setRffe m y).canc u = x.canc u ∧ (x.setRffe m y).rxChain u = x.rxChain u ∧ (x.setRffe m y).txChain u = x.txChain u ∧
    (x.setRffe m y).slice u = x.slice u ∧ (x.setRffe m y).psl u = x.psl u ∧ (x.setRffe m y).pch u = x.pch u ∧
    (x.setRffe m y).sensor u = x.sensor u ∧ (x.setRffe m y).dom u = x.dom u ∧ (x.setRffe m y).det u = x.det u ∧
    (x.setRffe m y).reg r u v = x.reg r u v ∧ (x.setRffe m y).get fl u v = x.get fl u v ∧
    (x.setRffe m y).flag fl u v = x.flag fl u v ∧ (x.setRffe m y).int fl u v = x.int fl u v :=
  ⟨rfl, rfl, rfl, rfl, rfl, rfl, rfl, rfl, rfl, rfl, rfl, rfl, rfl, rfl, rfl, rfl, rfl, rfl, rfl⟩

@[simp] theorem setPin_units (n : Nat) (y : Tgpio) (u v : Nat) (r : RegName) (fl : Fld) :
    (x.setPin n y).group u = x.group u ∧ (x.setPin n y).synth u = x.synth u ∧ (x.setPin n y).rffeM u = x.rffeM u ∧
    (x.setPin n y).chan u = x.chan u ∧ (x.setPin n y).loop u = x.loop u ∧ (x.setPin n y).stencil u = x.stencil u ∧
    (x.setPin n y).canc u = x.canc u ∧ (x.setPin n y).rxChain u = x.rxChain u ∧ (x.setPin n y).txChain u = x.txChain u ∧
    (x.setPin n y).slice u = x.slice u ∧ (x.setPin n y).psl u = x.psl u ∧ (x.setPin n y).pch u = x.pch u ∧
    (x.setPin n y).sensor u = x.sensor u ∧ (x.setPin n y).dom u = x.dom u ∧ (x.setPin n y).det u = x.det u ∧
    (x.setPin n y).reg r u v = x.reg r u v ∧ (x.setPin n y).get fl u v = x.get fl u v ∧
    (x.setPin n y).flag fl u v = x.flag fl u v ∧ (x.setPin n y).int fl u v = x.int fl u v :=
  ⟨rfl, rfl, rfl, rfl, rfl, rfl, rfl, rfl, rfl, rfl, rfl, rfl, rfl, rfl, rfl, rfl, rfl, rfl, rfl⟩

@[simp] theorem setChan_units (c : Nat) (y : Bdac) (u v : Nat) (r : RegName) (fl : Fld) :
    (x.setChan c y).group u = x.group u ∧ (x.setChan c y).synth u = x.synth u ∧ (x.setChan c y).rffeM u = x.rffeM u ∧
    (x.setChan c y).pin u = x.pin u ∧ (x.setChan c y).loop u = x.loop u ∧ (x.setChan c y).stencil u = x.stencil u ∧
    (x.setChan c y).canc u = x.canc u ∧ (x.setChan c y).rxChain u = x.rxChain u ∧ (x.setChan c y).txChain u = x.txChain u ∧
    (x.setChan c y).slice u = x.slice u ∧ (x.setChan c y).psl u = x.psl u ∧ (x.setChan c y).pch u = x.pch u ∧
    (x.setChan c y).sensor u = x.sensor u ∧ (x.setChan c y).dom u = x.dom u ∧ (x.setChan c y).det u = x.det u ∧
    (x.setChan c y).reg r u v = x.reg r u v ∧ (x.setChan c y).get fl u v = x.get fl u v ∧
    (x.setChan c y).flag fl u v = x.flag fl u v ∧ (x.setChan c y).int fl u v = x.int fl u v :=
  ⟨rfl, rfl, rfl, rfl, rfl, rfl, rfl, rfl, rfl, rfl, rfl, rfl, rfl, rfl, rfl, rfl, rfl, rfl, rfl⟩

@[simp] theorem setLoop_units (i : Nat) (y : Loop) (u v : Nat) (r : RegName) (fl : Fld) :
    (x.setLoop i y).group u = x.group u ∧ (x.setLoop i y).synth u = x.synth u ∧ (x.setLoop i y).rffeM u = x.rffeM u ∧
    (x.setLoop i y).pin u = x.pin u ∧ (x.setLoop i y).chan u = x.chan u ∧ (x.setLoop i y).stencil u = x.stencil u ∧
    (x.setLoop i y).canc u = x.canc u ∧ (x.setLoop i y).rxChain u = x.rxChain u ∧ (x.setLoop i y).txChain u = x.txChain u ∧
    (x.setLoop i y).slice u = x.slice u ∧ (x.setLoop i y).psl u = x.psl u ∧ (x.setLoop i y).pch u = x.pch u ∧
    (x.setLoop i y).sensor u = x.sensor u ∧ (x.setLoop i y).dom u = x.dom u ∧ (x.setLoop i y).det u = x.det u ∧
    (x.setLoop i y).reg r u v = x.reg r u v ∧ (x.setLoop i y).get fl u v = x.get fl u v ∧
    (x.setLoop i y).flag fl u v = x.flag fl u v ∧ (x.setLoop i y).int fl u v = x.int fl u v :=
  ⟨rfl, rfl, rfl, rfl, rfl, rfl, rfl, rfl, rfl, rfl, rfl, rfl, rfl, rfl, rfl, rfl, rfl, rfl, rfl⟩

@[simp] theorem setStencil_units (n : Nat) (y : Stencil) (u v : Nat) (r : RegName) (fl : Fld) :
    (x.setStencil n y).group u = x.group u ∧ (x.setStencil n y).synth u = x.synth u ∧
    (x.setStencil n y).rffeM u = x.rffeM u ∧ (x.setStencil n y).pin u = x.pin u ∧ (x.setStencil n y).chan u = x.chan u ∧
    (x.setStencil n y).loop u = x.loop u ∧ (x.setStencil n y).canc u = x.canc u ∧
    (x.setStencil n y).rxChain u = x.rxChain u ∧ (x.setStencil n y).txChain u = x.txChain u ∧
    (x.setStencil n y).slice u = x.slice u ∧ (x.setStencil n y).psl u = x.psl u ∧ (x.setStencil n y).pch u = x.pch u ∧
    (x.setStencil n y).sensor u = x.sensor u ∧ (x.setStencil n y).dom u = x.dom u ∧ (x.setStencil n y).det u = x.det u ∧
    (x.setStencil n y).reg r u v = x.reg r u v ∧ (x.setStencil n y).get fl u v = x.get fl u v ∧
    (x.setStencil n y).flag fl u v = x.flag fl u v ∧ (x.setStencil n y).int fl u v = x.int fl u v :=
  ⟨rfl, rfl, rfl, rfl, rfl, rfl, rfl, rfl, rfl, rfl, rfl, rfl, rfl, rfl, rfl, rfl, rfl, rfl, rfl⟩

@[simp] theorem setCanc_units (n : Nat) (y : Cnl) (u v : Nat) (r : RegName) (fl : Fld) :
    (x.setCanc n y).group u = x.group u ∧ (x.setCanc n y).synth u = x.synth u ∧ (x.setCanc n y).rffeM u = x.rffeM u ∧
    (x.setCanc n y).pin u = x.pin u ∧ (x.setCanc n y).chan u = x.chan u ∧ (x.setCanc n y).loop u = x.loop u ∧
    (x.setCanc n y).stencil u = x.stencil u ∧ (x.setCanc n y).rxChain u = x.rxChain u ∧
    (x.setCanc n y).txChain u = x.txChain u ∧ (x.setCanc n y).slice u = x.slice u ∧ (x.setCanc n y).psl u = x.psl u ∧
    (x.setCanc n y).pch u = x.pch u ∧ (x.setCanc n y).sensor u = x.sensor u ∧ (x.setCanc n y).dom u = x.dom u ∧
    (x.setCanc n y).det u = x.det u ∧ (x.setCanc n y).reg r u v = x.reg r u v ∧ (x.setCanc n y).get fl u v = x.get fl u v ∧
    (x.setCanc n y).flag fl u v = x.flag fl u v ∧ (x.setCanc n y).int fl u v = x.int fl u v :=
  ⟨rfl, rfl, rfl, rfl, rfl, rfl, rfl, rfl, rfl, rfl, rfl, rfl, rfl, rfl, rfl, rfl, rfl, rfl, rfl⟩

@[simp] theorem setRxChain_units (c : Nat) (y : Chain) (u v : Nat) (r : RegName) (fl : Fld) :
    (x.setRxChain c y).group u = x.group u ∧ (x.setRxChain c y).synth u = x.synth u ∧
    (x.setRxChain c y).rffeM u = x.rffeM u ∧ (x.setRxChain c y).pin u = x.pin u ∧ (x.setRxChain c y).chan u = x.chan u ∧
    (x.setRxChain c y).loop u = x.loop u ∧ (x.setRxChain c y).stencil u = x.stencil u ∧
    (x.setRxChain c y).canc u = x.canc u ∧ (x.setRxChain c y).txChain u = x.txChain u ∧
    (x.setRxChain c y).slice u = x.slice u ∧ (x.setRxChain c y).psl u = x.psl u ∧ (x.setRxChain c y).pch u = x.pch u ∧
    (x.setRxChain c y).sensor u = x.sensor u ∧ (x.setRxChain c y).dom u = x.dom u ∧ (x.setRxChain c y).det u = x.det u ∧
    (x.setRxChain c y).reg r u v = x.reg r u v ∧ (x.setRxChain c y).get fl u v = x.get fl u v ∧
    (x.setRxChain c y).flag fl u v = x.flag fl u v ∧ (x.setRxChain c y).int fl u v = x.int fl u v :=
  ⟨rfl, rfl, rfl, rfl, rfl, rfl, rfl, rfl, rfl, rfl, rfl, rfl, rfl, rfl, rfl, rfl, rfl, rfl, rfl⟩

@[simp] theorem setTxChain_units (c : Nat) (y : Chain) (u v : Nat) (r : RegName) (fl : Fld) :
    (x.setTxChain c y).group u = x.group u ∧ (x.setTxChain c y).synth u = x.synth u ∧
    (x.setTxChain c y).rffeM u = x.rffeM u ∧ (x.setTxChain c y).pin u = x.pin u ∧ (x.setTxChain c y).chan u = x.chan u ∧
    (x.setTxChain c y).loop u = x.loop u ∧ (x.setTxChain c y).stencil u = x.stencil u ∧
    (x.setTxChain c y).canc u = x.canc u ∧ (x.setTxChain c y).rxChain u = x.rxChain u ∧
    (x.setTxChain c y).slice u = x.slice u ∧ (x.setTxChain c y).psl u = x.psl u ∧ (x.setTxChain c y).pch u = x.pch u ∧
    (x.setTxChain c y).sensor u = x.sensor u ∧ (x.setTxChain c y).dom u = x.dom u ∧ (x.setTxChain c y).det u = x.det u ∧
    (x.setTxChain c y).reg r u v = x.reg r u v ∧ (x.setTxChain c y).get fl u v = x.get fl u v ∧
    (x.setTxChain c y).flag fl u v = x.flag fl u v ∧ (x.setTxChain c y).int fl u v = x.int fl u v :=
  ⟨rfl, rfl, rfl, rfl, rfl, rfl, rfl, rfl, rfl, rfl, rfl, rfl, rfl, rfl, rfl, rfl, rfl, rfl, rfl⟩

@[simp] theorem setSlice_units (n : Nat) (y : Slice) (u v : Nat) (r : RegName) (fl : Fld) :
    (x.setSlice n y).group u = x.group u ∧ (x.setSlice n y).synth u = x.synth u ∧ (x.setSlice n y).rffeM u = x.rffeM u ∧
    (x.setSlice n y).pin u = x.pin u ∧ (x.setSlice n y).chan u = x.chan u ∧ (x.setSlice n y).loop u = x.loop u ∧
    (x.setSlice n y).stencil u = x.stencil u ∧ (x.setSlice n y).canc u = x.canc u ∧
    (x.setSlice n y).rxChain u = x.rxChain u ∧ (x.setSlice n y).txChain u = x.txChain u ∧ (x.setSlice n y).psl u = x.psl u ∧
    (x.setSlice n y).pch u = x.pch u ∧ (x.setSlice n y).sensor u = x.sensor u ∧ (x.setSlice n y).dom u = x.dom u ∧
    (x.setSlice n y).det u = x.det u ∧ (x.setSlice n y).reg r u v = x.reg r u v ∧
    (x.setSlice n y).get fl u v = x.get fl u v ∧ (x.setSlice n y).flag fl u v = x.flag fl u v ∧
    (x.setSlice n y).int fl u v = x.int fl u v :=
  ⟨rfl, rfl, rfl, rfl, rfl, rfl, rfl, rfl, rfl, rfl, rfl, rfl, rfl, rfl, rfl, rfl, rfl, rfl, rfl⟩

@[simp] theorem setPsl_units (n : Nat) (y : PSlice) (u v : Nat) (r : RegName) (fl : Fld) :
    (x.setPsl n y).group u = x.group u ∧ (x.setPsl n y).synth u = x.synth u ∧ (x.setPsl n y).rffeM u = x.rffeM u ∧
    (x.setPsl n y).pin u = x.pin u ∧ (x.setPsl n y).chan u = x.chan u ∧ (x.setPsl n y).loop u = x.loop u ∧
    (x.setPsl n y).stencil u = x.stencil u ∧ (x.setPsl n y).canc u = x.canc u ∧ (x.setPsl n y).rxChain u = x.rxChain u ∧
    (x.setPsl n y).txChain u = x.txChain u ∧ (x.setPsl n y).slice u = x.slice u ∧ (x.setPsl n y).sensor u = x.sensor u ∧
    (x.setPsl n y).dom u = x.dom u ∧ (x.setPsl n y).det u = x.det u ∧ (x.setPsl n y).reg r u v = x.reg r u v ∧
    (x.setPsl n y).get fl u v = x.get fl u v ∧ (x.setPsl n y).flag fl u v = x.flag fl u v ∧
    (x.setPsl n y).int fl u v = x.int fl u v :=
  ⟨rfl, rfl, rfl, rfl, rfl, rfl, rfl, rfl, rfl, rfl, rfl, rfl, rfl, rfl, rfl, rfl, rfl, rfl⟩

@[simp] theorem setPch_units (c : Nat) (y : PChain) (u v : Nat) (r : RegName) (fl : Fld) :
    (x.setPch c y).group u = x.group u ∧ (x.setPch c y).synth u = x.synth u ∧ (x.setPch c y).rffeM u = x.rffeM u ∧
    (x.setPch c y).pin u = x.pin u ∧ (x.setPch c y).chan u = x.chan u ∧ (x.setPch c y).loop u = x.loop u ∧
    (x.setPch c y).stencil u = x.stencil u ∧ (x.setPch c y).canc u = x.canc u ∧ (x.setPch c y).rxChain u = x.rxChain u ∧
    (x.setPch c y).txChain u = x.txChain u ∧ (x.setPch c y).slice u = x.slice u ∧ (x.setPch c y).sensor u = x.sensor u ∧
    (x.setPch c y).dom u = x.dom u ∧ (x.setPch c y).det u = x.det u ∧ (x.setPch c y).reg r u v = x.reg r u v ∧
    (x.setPch c y).get fl u v = x.get fl u v ∧ (x.setPch c y).flag fl u v = x.flag fl u v ∧
    (x.setPch c y).int fl u v = x.int fl u v :=
  ⟨rfl, rfl, rfl, rfl, rfl, rfl, rfl, rfl, rfl, rfl, rfl, rfl, rfl, rfl, rfl, rfl, rfl, rfl⟩

@[simp] theorem setSensor_units (n : Nat) (y : Sensor) (u v : Nat) (r : RegName) (fl : Fld) :
    (x.setSensor n y).group u = x.group u ∧ (x.setSensor n y).synth u = x.synth u ∧ (x.setSensor n y).rffeM u = x.rffeM u ∧
    (x.setSensor n y).pin u = x.pin u ∧ (x.setSensor n y).chan u = x.chan u ∧ (x.setSensor n y).loop u = x.loop u ∧
    (x.setSensor n y).stencil u = x.stencil u ∧ (x.setSensor n y).canc u = x.canc u ∧
    (x.setSensor n y).rxChain u = x.rxChain u ∧ (x.setSensor n y).txChain u = x.txChain u ∧
    (x.setSensor n y).slice u = x.slice u ∧ (x.setSensor n y).psl u = x.psl u ∧ (x.setSensor n y).pch u = x.pch u ∧
    (x.setSensor n y).dom u = x.dom u ∧ (x.setSensor n y).det u = x.det u ∧ (x.setSensor n y).reg r u v = x.reg r u v ∧
    (x.setSensor n y).get fl u v = x.get fl u v ∧ (x.setSensor n y).flag fl u v = x.flag fl u v ∧
    (x.setSensor n y).int fl u v = x.int fl u v :=
  ⟨rfl, rfl, rfl, rfl, rfl, rfl, rfl, rfl, rfl, rfl, rfl, rfl, rfl, rfl, rfl, rfl, rfl, rfl, rfl⟩

@[simp] theorem setDom_units (n : Nat) (y : Dom) (u v : Nat) (r : RegName) (fl : Fld) :
    (x.setDom n y).group u = x.group u ∧ (x.setDom n y).synth u = x.synth u ∧ (x.setDom n y).rffeM u = x.rffeM u ∧
    (x.setDom n y).pin u = x.pin u ∧ (x.setDom n y).chan u = x.chan u ∧ (x.setDom n y).loop u = x.loop u ∧
    (x.setDom n y).stencil u = x.stencil u ∧ (x.setDom n y).canc u = x.canc u ∧ (x.setDom n y).rxChain u = x.rxChain u ∧
    (x.setDom n y).txChain u = x.txChain u ∧ (x.setDom n y).slice u = x.slice u ∧ (x.setDom n y).psl u = x.psl u ∧
    (x.setDom n y).pch u = x.pch u ∧ (x.setDom n y).sensor u = x.sensor u ∧ (x.setDom n y).det u = x.det u ∧
    (x.setDom n y).reg r u v = x.reg r u v ∧ (x.setDom n y).get fl u v = x.get fl u v ∧
    (x.setDom n y).flag fl u v = x.flag fl u v ∧ (x.setDom n y).int fl u v = x.int fl u v :=
  ⟨rfl, rfl, rfl, rfl, rfl, rfl, rfl, rfl, rfl, rfl, rfl, rfl, rfl, rfl, rfl, rfl, rfl, rfl, rfl⟩

@[simp] theorem setDet_units (n : Nat) (y : Detector) (u v : Nat) (r : RegName) (fl : Fld) :
    (x.setDet n y).group u = x.group u ∧ (x.setDet n y).synth u = x.synth u ∧ (x.setDet n y).rffeM u = x.rffeM u ∧
    (x.setDet n y).pin u = x.pin u ∧ (x.setDet n y).chan u = x.chan u ∧ (x.setDet n y).loop u = x.loop u ∧
    (x.setDet n y).stencil u = x.stencil u ∧ (x.setDet n y).canc u = x.canc u ∧ (x.setDet n y).rxChain u = x.rxChain u ∧
    (x.setDet n y).txChain u = x.txChain u ∧ (x.setDet n y).slice u = x.slice u ∧ (x.setDet n y).psl u = x.psl u ∧
    (x.setDet n y).pch u = x.pch u ∧ (x.setDet n y).sensor u = x.sensor u ∧ (x.setDet n y).dom u = x.dom u ∧
    (x.setDet n y).reg r u v = x.reg r u v ∧ (x.setDet n y).get fl u v = x.get fl u v ∧
    (x.setDet n y).flag fl u v = x.flag fl u v ∧ (x.setDet n y).int fl u v = x.int fl u v :=
  ⟨rfl, rfl, rfl, rfl, rfl, rfl, rfl, rfl, rfl, rfl, rfl, rfl, rfl, rfl, rfl, rfl, rfl, rfl, rfl⟩

@[simp] theorem setLatch_units (k : Nat) (y : Latch) (u v : Nat) (r : RegName) (fl : Fld) :
    (x.setLatch k y).group u = x.group u ∧ (x.setLatch k y).synth u = x.synth u ∧ (x.setLatch k y).rffeM u = x.rffeM u ∧
    (x.setLatch k y).pin u = x.pin u ∧ (x.setLatch k y).chan u = x.chan u ∧ (x.setLatch k y).loop u = x.loop u ∧
    (x.setLatch k y).stencil u = x.stencil u ∧ (x.setLatch k y).canc u = x.canc u ∧
    (x.setLatch k y).rxChain u = x.rxChain u ∧ (x.setLatch k y).txChain u = x.txChain u ∧
    (x.setLatch k y).slice u = x.slice u ∧ (x.setLatch k y).psl u = x.psl u ∧ (x.setLatch k y).pch u = x.pch u ∧
    (x.setLatch k y).sensor u = x.sensor u ∧ (x.setLatch k y).dom u = x.dom u ∧ (x.setLatch k y).det u = x.det u ∧
    (x.setLatch k y).reg r u v = x.reg r u v ∧ (x.setLatch k y).get fl u v = x.get fl u v ∧
    (x.setLatch k y).flag fl u v = x.flag fl u v ∧ (x.setLatch k y).int fl u v = x.int fl u v :=
  ⟨rfl, rfl, rfl, rfl, rfl, rfl, rfl, rfl, rfl, rfl, rfl, rfl, rfl, rfl, rfl, rfl, rfl, rfl, rfl, rfl⟩

@[simp] theorem setStg_units (k : Nat) (y : Stg) (u v : Nat) (r : RegName) (fl : Fld) :
    (x.setStg k y).group u = x.group u ∧ (x.setStg k y).synth u = x.synth u ∧ (x.setStg k y).rffeM u = x.rffeM u ∧
    (x.setStg k y).pin u = x.pin u ∧ (x.setStg k y).chan u = x.chan u ∧ (x.setStg k y).loop u = x.loop u ∧
    (x.setStg k y).stencil u = x.stencil u ∧ (x.setStg k y).canc u = x.canc u ∧ (x.setStg k y).rxChain u = x.rxChain u ∧
    (x.setStg k y).txChain u = x.txChain u ∧ (x.setStg k y).slice u = x.slice u ∧ (x.setStg k y).psl u = x.psl u ∧
    (x.setStg k y).pch u = x.pch u ∧ (x.setStg k y).sensor u = x.sensor u ∧ (x.setStg k y).dom u = x.dom u ∧
    (x.setStg k y).det u = x.det u ∧ (x.setStg k y).reg r u v = x.reg r u v ∧ (x.setStg k y).get fl u v = x.get fl u v ∧
    (x.setStg k y).flag fl u v = x.flag fl u v ∧ (x.setStg k y).int fl u v = x.int fl u v :=
  ⟨rfl, rfl, rfl, rfl, rfl, rfl, rfl, rfl, rfl, rfl, rfl, rfl, rfl, rfl, rfl, rfl, rfl, rfl, rfl, rfl⟩

@[simp] theorem modFlt_units (g : Faults → Faults) (u v : Nat) (r : RegName) (fl : Fld) :
    (x.modFlt g).group u = x.group u ∧ (x.modFlt g).synth u = x.synth u ∧ (x.modFlt g).rffeM u = x.rffeM u ∧
    (x.modFlt g).pin u = x.pin u ∧ (x.modFlt g).chan u = x.chan u ∧ (x.modFlt g).loop u = x.loop u ∧
    (x.modFlt g).stencil u = x.stencil u ∧ (x.modFlt g).canc u = x.canc u ∧ (x.modFlt g).rxChain u = x.rxChain u ∧
    (x.modFlt g).txChain u = x.txChain u ∧ (x.modFlt g).slice u = x.slice u ∧ (x.modFlt g).psl u = x.psl u ∧
    (x.modFlt g).pch u = x.pch u ∧ (x.modFlt g).sensor u = x.sensor u ∧ (x.modFlt g).dom u = x.dom u ∧
    (x.modFlt g).det u = x.det u ∧ (x.modFlt g).reg r u v = x.reg r u v ∧ (x.modFlt g).get fl u v = x.get fl u v ∧
    (x.modFlt g).flag fl u v = x.flag fl u v ∧ (x.modFlt g).int fl u v = x.int fl u v :=
  ⟨rfl, rfl, rfl, rfl, rfl, rfl, rfl, rfl, rfl, rfl, rfl, rfl, rfl, rfl, rfl, rfl, rfl, rfl, rfl, rfl⟩

@[simp] theorem modRcd_units (g : Recorder → Recorder) (u v : Nat) (r : RegName) (fl : Fld) :
    (x.modRcd g).group u = x.group u ∧ (x.modRcd g).synth u = x.synth u ∧ (x.modRcd g).rffeM u = x.rffeM u ∧
    (x.modRcd g).pin u = x.pin u ∧ (x.modRcd g).chan u = x.chan u ∧ (x.modRcd g).loop u = x.loop u ∧
    (x.modRcd g).stencil u = x.stencil u ∧ (x.modRcd g).canc u = x.canc u ∧ (x.modRcd g).rxChain u = x.rxChain u ∧
    (x.modRcd g).txChain u = x.txChain u ∧ (x.modRcd g).slice u = x.slice u ∧ (x.modRcd g).psl u = x.psl u ∧
    (x.modRcd g).pch u = x.pch u ∧ (x.modRcd g).sensor u = x.sensor u ∧ (x.modRcd g).dom u = x.dom u ∧
    (x.modRcd g).det u = x.det u ∧ (x.modRcd g).reg r u v = x.reg r u v ∧ (x.modRcd g).get fl u v = x.get fl u v ∧
    (x.modRcd g).flag fl u v = x.flag fl u v ∧ (x.modRcd g).int fl u v = x.int fl u v :=
  ⟨rfl, rfl, rfl, rfl, rfl, rfl, rfl, rfl, rfl, rfl, rfl, rfl, rfl, rfl, rfl, rfl, rfl, rfl, rfl, rfl⟩

@[simp] theorem modSrc_units (g : Sources → Sources) (u v : Nat) (r : RegName) (fl : Fld) :
    (x.modSrc g).group u = x.group u ∧ (x.modSrc g).synth u = x.synth u ∧ (x.modSrc g).rffeM u = x.rffeM u ∧
    (x.modSrc g).pin u = x.pin u ∧ (x.modSrc g).chan u = x.chan u ∧ (x.modSrc g).loop u = x.loop u ∧
    (x.modSrc g).stencil u = x.stencil u ∧ (x.modSrc g).canc u = x.canc u ∧ (x.modSrc g).rxChain u = x.rxChain u ∧
    (x.modSrc g).txChain u = x.txChain u ∧ (x.modSrc g).slice u = x.slice u ∧ (x.modSrc g).psl u = x.psl u ∧
    (x.modSrc g).pch u = x.pch u ∧ (x.modSrc g).sensor u = x.sensor u ∧ (x.modSrc g).dom u = x.dom u ∧
    (x.modSrc g).reg r u v = x.reg r u v ∧ (x.modSrc g).get fl u v = x.get fl u v ∧
    (x.modSrc g).flag fl u v = x.flag fl u v ∧ (x.modSrc g).int fl u v = x.int fl u v :=
  ⟨rfl, rfl, rfl, rfl, rfl, rfl, rfl, rfl, rfl, rfl, rfl, rfl, rfl, rfl, rfl, rfl, rfl, rfl, rfl⟩

@[simp] theorem modPtl_units (g : Patrol → Patrol) (u v : Nat) (r : RegName) (fl : Fld) :
    (x.modPtl g).group u = x.group u ∧ (x.modPtl g).synth u = x.synth u ∧ (x.modPtl g).rffeM u = x.rffeM u ∧
    (x.modPtl g).pin u = x.pin u ∧ (x.modPtl g).chan u = x.chan u ∧ (x.modPtl g).loop u = x.loop u ∧
    (x.modPtl g).stencil u = x.stencil u ∧ (x.modPtl g).canc u = x.canc u ∧ (x.modPtl g).rxChain u = x.rxChain u ∧
    (x.modPtl g).txChain u = x.txChain u ∧ (x.modPtl g).slice u = x.slice u ∧ (x.modPtl g).sensor u = x.sensor u ∧
    (x.modPtl g).dom u = x.dom u ∧ (x.modPtl g).det u = x.det u ∧ (x.modPtl g).reg r u v = x.reg r u v ∧
    (x.modPtl g).get fl u v = x.get fl u v ∧ (x.modPtl g).flag fl u v = x.flag fl u v ∧
    (x.modPtl g).int fl u v = x.int fl u v :=
  ⟨rfl, rfl, rfl, rfl, rfl, rfl, rfl, rfl, rfl, rfl, rfl, rfl, rfl, rfl, rfl, rfl, rfl, rfl⟩

@[simp] theorem modPwr_units (g : Power → Power) (u v : Nat) (r : RegName) (fl : Fld) :
    (x.modPwr g).group u = x.group u ∧ (x.modPwr g).synth u = x.synth u ∧ (x.modPwr g).rffeM u = x.rffeM u ∧
    (x.modPwr g).pin u = x.pin u ∧ (x.modPwr g).chan u = x.chan u ∧ (x.modPwr g).loop u = x.loop u ∧
    (x.modPwr g).stencil u = x.stencil u ∧ (x.modPwr g).canc u = x.canc u ∧ (x.modPwr g).rxChain u = x.rxChain u ∧
    (x.modPwr g).txChain u = x.txChain u ∧ (x.modPwr g).slice u = x.slice u ∧ (x.modPwr g).psl u = x.psl u ∧
    (x.modPwr g).pch u = x.pch u ∧ (x.modPwr g).sensor u = x.sensor u ∧ (x.modPwr g).det u = x.det u ∧
    (x.modPwr g).reg r u v = x.reg r u v ∧ (x.modPwr g).get fl u v = x.get fl u v ∧
    (x.modPwr g).flag fl u v = x.flag fl u v ∧ (x.modPwr g).int fl u v = x.int fl u v :=
  ⟨rfl, rfl, rfl, rfl, rfl, rfl, rfl, rfl, rfl, rfl, rfl, rfl, rfl, rfl, rfl, rfl, rfl, rfl, rfl⟩

@[simp] theorem modPrb_units (g : Probe → Probe) (u v : Nat) (r : RegName) (fl : Fld) :
    (x.modPrb g).group u = x.group u ∧ (x.modPrb g).synth u = x.synth u ∧ (x.modPrb g).rffeM u = x.rffeM u ∧
    (x.modPrb g).pin u = x.pin u ∧ (x.modPrb g).chan u = x.chan u ∧ (x.modPrb g).loop u = x.loop u ∧
    (x.modPrb g).stencil u = x.stencil u ∧ (x.modPrb g).canc u = x.canc u ∧ (x.modPrb g).rxChain u = x.rxChain u ∧
    (x.modPrb g).txChain u = x.txChain u ∧ (x.modPrb g).slice u = x.slice u ∧ (x.modPrb g).psl u = x.psl u ∧
    (x.modPrb g).pch u = x.pch u ∧ (x.modPrb g).sensor u = x.sensor u ∧ (x.modPrb g).dom u = x.dom u ∧
    (x.modPrb g).det u = x.det u ∧ (x.modPrb g).reg r u v = x.reg r u v ∧ (x.modPrb g).get fl u v = x.get fl u v ∧
    (x.modPrb g).flag fl u v = x.flag fl u v ∧ (x.modPrb g).int fl u v = x.int fl u v :=
  ⟨rfl, rfl, rfl, rfl, rfl, rfl, rfl, rfl, rfl, rfl, rfl, rfl, rfl, rfl, rfl, rfl, rfl, rfl, rfl, rfl⟩

@[simp] theorem modCrv_units (g : Carve → Carve) (u v : Nat) (r : RegName) (fl : Fld) :
    (x.modCrv g).group u = x.group u ∧ (x.modCrv g).synth u = x.synth u ∧ (x.modCrv g).rffeM u = x.rffeM u ∧
    (x.modCrv g).pin u = x.pin u ∧ (x.modCrv g).chan u = x.chan u ∧ (x.modCrv g).loop u = x.loop u ∧
    (x.modCrv g).stencil u = x.stencil u ∧ (x.modCrv g).canc u = x.canc u ∧ (x.modCrv g).rxChain u = x.rxChain u ∧
    (x.modCrv g).txChain u = x.txChain u ∧ (x.modCrv g).slice u = x.slice u ∧ (x.modCrv g).psl u = x.psl u ∧
    (x.modCrv g).pch u = x.pch u ∧ (x.modCrv g).sensor u = x.sensor u ∧ (x.modCrv g).dom u = x.dom u ∧
    (x.modCrv g).det u = x.det u ∧ (x.modCrv g).reg r u v = x.reg r u v ∧ (x.modCrv g).get fl u v = x.get fl u v ∧
    (x.modCrv g).flag fl u v = x.flag fl u v ∧ (x.modCrv g).int fl u v = x.int fl u v :=
  ⟨rfl, rfl, rfl, rfl, rfl, rfl, rfl, rfl, rfl, rfl, rfl, rfl, rfl, rfl, rfl, rfl, rfl, rfl, rfl, rfl⟩

@[simp] theorem modRet_units (g : Retained → Retained) (u v : Nat) (r : RegName) (fl : Fld) :
    (x.modRet g).group u = x.group u ∧ (x.modRet g).synth u = x.synth u ∧ (x.modRet g).rffeM u = x.rffeM u ∧
    (x.modRet g).pin u = x.pin u ∧ (x.modRet g).chan u = x.chan u ∧ (x.modRet g).loop u = x.loop u ∧
    (x.modRet g).stencil u = x.stencil u ∧ (x.modRet g).canc u = x.canc u ∧ (x.modRet g).rxChain u = x.rxChain u ∧
    (x.modRet g).txChain u = x.txChain u ∧ (x.modRet g).slice u = x.slice u ∧ (x.modRet g).psl u = x.psl u ∧
    (x.modRet g).pch u = x.pch u ∧ (x.modRet g).sensor u = x.sensor u ∧ (x.modRet g).dom u = x.dom u ∧
    (x.modRet g).det u = x.det u ∧ (x.modRet g).reg r u v = x.reg r u v ∧ (x.modRet g).get fl u v = x.get fl u v ∧
    (x.modRet g).flag fl u v = x.flag fl u v ∧ (x.modRet g).int fl u v = x.int fl u v :=
  ⟨rfl, rfl, rfl, rfl, rfl, rfl, rfl, rfl, rfl, rfl, rfl, rfl, rfl, rfl, rfl, rfl, rfl, rfl, rfl, rfl⟩

@[simp] theorem modSpr_units (g : Spares → Spares) (u v : Nat) (r : RegName) (fl : Fld) :
    (x.modSpr g).group u = x.group u ∧ (x.modSpr g).synth u = x.synth u ∧ (x.modSpr g).rffeM u = x.rffeM u ∧
    (x.modSpr g).pin u = x.pin u ∧ (x.modSpr g).chan u = x.chan u ∧ (x.modSpr g).loop u = x.loop u ∧
    (x.modSpr g).stencil u = x.stencil u ∧ (x.modSpr g).canc u = x.canc u ∧ (x.modSpr g).rxChain u = x.rxChain u ∧
    (x.modSpr g).txChain u = x.txChain u ∧ (x.modSpr g).slice u = x.slice u ∧ (x.modSpr g).psl u = x.psl u ∧
    (x.modSpr g).pch u = x.pch u ∧ (x.modSpr g).sensor u = x.sensor u ∧ (x.modSpr g).dom u = x.dom u ∧
    (x.modSpr g).det u = x.det u ∧ (x.modSpr g).reg r u v = x.reg r u v ∧ (x.modSpr g).get fl u v = x.get fl u v ∧
    (x.modSpr g).flag fl u v = x.flag fl u v ∧ (x.modSpr g).int fl u v = x.int fl u v :=
  ⟨rfl, rfl, rfl, rfl, rfl, rfl, rfl, rfl, rfl, rfl, rfl, rfl, rfl, rfl, rfl, rfl, rfl, rfl, rfl, rfl⟩

@[simp] theorem modSup_units (g : Sup → Sup) (u v : Nat) (r : RegName) (fl : Fld) :
    (x.modSup g).group u = x.group u ∧ (x.modSup g).synth u = x.synth u ∧ (x.modSup g).rffeM u = x.rffeM u ∧
    (x.modSup g).pin u = x.pin u ∧ (x.modSup g).chan u = x.chan u ∧ (x.modSup g).loop u = x.loop u ∧
    (x.modSup g).stencil u = x.stencil u ∧ (x.modSup g).canc u = x.canc u ∧ (x.modSup g).rxChain u = x.rxChain u ∧
    (x.modSup g).txChain u = x.txChain u ∧ (x.modSup g).slice u = x.slice u ∧ (x.modSup g).psl u = x.psl u ∧
    (x.modSup g).pch u = x.pch u ∧ (x.modSup g).sensor u = x.sensor u ∧ (x.modSup g).dom u = x.dom u ∧
    (x.modSup g).det u = x.det u ∧ (x.modSup g).reg r u v = x.reg r u v ∧ (x.modSup g).get fl u v = x.get fl u v ∧
    (x.modSup g).flag fl u v = x.flag fl u v ∧ (x.modSup g).int fl u v = x.int fl u v :=
  ⟨rfl, rfl, rfl, rfl, rfl, rfl, rfl, rfl, rfl, rfl, rfl, rfl, rfl, rfl, rfl, rfl, rfl, rfl, rfl, rfl⟩

@[simp] theorem modTow_units (g : Tow → Tow) (u v : Nat) (r : RegName) (fl : Fld) :
    (x.modTow g).group u = x.group u ∧ (x.modTow g).synth u = x.synth u ∧ (x.modTow g).rffeM u = x.rffeM u ∧
    (x.modTow g).pin u = x.pin u ∧ (x.modTow g).chan u = x.chan u ∧ (x.modTow g).loop u = x.loop u ∧
    (x.modTow g).stencil u = x.stencil u ∧ (x.modTow g).canc u = x.canc u ∧ (x.modTow g).rxChain u = x.rxChain u ∧
    (x.modTow g).txChain u = x.txChain u ∧ (x.modTow g).slice u = x.slice u ∧ (x.modTow g).psl u = x.psl u ∧
    (x.modTow g).pch u = x.pch u ∧ (x.modTow g).sensor u = x.sensor u ∧ (x.modTow g).dom u = x.dom u ∧
    (x.modTow g).det u = x.det u ∧ (x.modTow g).reg r u v = x.reg r u v ∧ (x.modTow g).get fl u v = x.get fl u v ∧
    (x.modTow g).flag fl u v = x.flag fl u v ∧ (x.modTow g).int fl u v = x.int fl u v :=
  ⟨rfl, rfl, rfl, rfl, rfl, rfl, rfl, rfl, rfl, rfl, rfl, rfl, rfl, rfl, rfl, rfl, rfl, rfl, rfl, rfl⟩

@[simp] theorem modJtag_units (g : Jtag → Jtag) (u v : Nat) (r : RegName) (fl : Fld) :
    (x.modJtag g).group u = x.group u ∧ (x.modJtag g).synth u = x.synth u ∧ (x.modJtag g).rffeM u = x.rffeM u ∧
    (x.modJtag g).pin u = x.pin u ∧ (x.modJtag g).chan u = x.chan u ∧ (x.modJtag g).loop u = x.loop u ∧
    (x.modJtag g).stencil u = x.stencil u ∧ (x.modJtag g).canc u = x.canc u ∧ (x.modJtag g).rxChain u = x.rxChain u ∧
    (x.modJtag g).txChain u = x.txChain u ∧ (x.modJtag g).slice u = x.slice u ∧ (x.modJtag g).psl u = x.psl u ∧
    (x.modJtag g).pch u = x.pch u ∧ (x.modJtag g).sensor u = x.sensor u ∧ (x.modJtag g).dom u = x.dom u ∧
    (x.modJtag g).det u = x.det u ∧ (x.modJtag g).reg r u v = x.reg r u v ∧ (x.modJtag g).get fl u v = x.get fl u v ∧
    (x.modJtag g).flag fl u v = x.flag fl u v ∧ (x.modJtag g).int fl u v = x.int fl u v :=
  ⟨rfl, rfl, rfl, rfl, rfl, rfl, rfl, rfl, rfl, rfl, rfl, rfl, rfl, rfl, rfl, rfl, rfl, rfl, rfl, rfl⟩

@[simp] theorem atOfs_units (o : Nat) (u v : Nat) (r : RegName) (fl : Fld) :
    (x.atOfs o).group u = x.group u ∧ (x.atOfs o).synth u = x.synth u ∧ (x.atOfs o).rffeM u = x.rffeM u ∧
    (x.atOfs o).pin u = x.pin u ∧ (x.atOfs o).chan u = x.chan u ∧ (x.atOfs o).loop u = x.loop u ∧
    (x.atOfs o).stencil u = x.stencil u ∧ (x.atOfs o).canc u = x.canc u ∧ (x.atOfs o).rxChain u = x.rxChain u ∧
    (x.atOfs o).txChain u = x.txChain u ∧ (x.atOfs o).slice u = x.slice u ∧ (x.atOfs o).psl u = x.psl u ∧
    (x.atOfs o).pch u = x.pch u ∧ (x.atOfs o).sensor u = x.sensor u ∧ (x.atOfs o).dom u = x.dom u ∧
    (x.atOfs o).det u = x.det u ∧ (x.atOfs o).reg r u v = x.reg r u v ∧ (x.atOfs o).get fl u v = x.get fl u v ∧
    (x.atOfs o).flag fl u v = x.flag fl u v ∧ (x.atOfs o).int fl u v = x.int fl u v :=
  ⟨rfl, rfl, rfl, rfl, rfl, rfl, rfl, rfl, rfl, rfl, rfl, rfl, rfl, rfl, rfl, rfl, rfl, rfl, rfl, rfl⟩

/-! ### The state -/

@[simp] theorem then_dev (s : State) (d : Dev) : (s.then_ d).dev = settle s.env d := rfl
@[simp] theorem then_env (s : State) (d : Dev) : (s.then_ d).env = s.env := rfl
@[simp] theorem then_pending (s : State) (d : Dev) : (s.then_ d).pending = s.pending := rfl
@[simp] theorem coreRuns_atOfs (o : Nat) : coreRuns (x.atOfs o) = coreRuns x := rfl

end Sys2Proof.Machine
end

