-- ==== Sys2Proof/Laws/Faults.lean ====
section
/-! SUPPORT. What recording, reporting and raising can change: the register FLT_IRQ_STAT, the recorder and the fault
collector, and nothing else of the device. -/
namespace Sys2Proof.Machine

/-- Only the register FLT_IRQ_STAT, the recorder and the fault collector differ. -/
def Recorded (d t : Dev) : Prop :=
  t = { d with regs := t.regs, rcd := t.rcd, flt := t.flt } ∧
  ∀ (n : RegName) (i j : Nat), n.addr i j ≠ RegName.FLT_IRQ_STAT.addr 0 0 → t.reg n i j = d.reg n i j

theorem Recorded.of {d t : Dev} (h : t = { d with rcd := t.rcd, flt := t.flt }) : Recorded d t := by
  constructor <;> rw [h]
  exact fun _ _ _ _ => rfl

theorem Recorded.same (d : Dev) : Recorded d d := .of rfl

theorem Recorded.trans {a b c : Dev} (h : Recorded a b) (k : Recorded b c) : Recorded a c := by
  refine ⟨?_, fun n i j ne => (k.2 n i j ne).trans (h.2 n i j ne)⟩
  rw [k.1, h.1]

section
variable {d x : Dev} (h : Recorded d x)
include h
theorem Recorded.modRcd (g : Recorder → Recorder) : Recorded d (x.modRcd g) := h.trans (.of rfl)
theorem Recorded.modFlt (g : Faults → Faults) : Recorded d (x.modFlt g) := h.trans (.of rfl)
theorem Recorded.setStg (k : Nat) (y : Stg) : Recorded d (x.setStg k y) := h.trans (.of rfl)
theorem Recorded.setLatch (k : Nat) (y : Latch) : Recorded d (x.setLatch k y) := h.trans (.of rfl)
theorem Recorded.setIrq (b : Nat) : Recorded d (setIrq b x) := h.trans ⟨rfl, fun _ _ _ ne => setReg_other _ _ _ _ _ _ _ _ ne⟩
end

theorem recorded_allocate (d : Dev) (r : Record) : Recorded d (allocate d r).1 := by
  unfold allocate; split <;> exact .of rfl

theorem recorded_placeOf (d : Dev) (r : Record) : Recorded d (placeOf d r).1 := by
  unfold placeOf
  split
  · split <;> exact .of rfl
  · exact recorded_allocate d r

theorem recorded_ite {d a b : Dev} {c : Prop} [Decidable c] (ha : Recorded d a) (hb : Recorded d b) : Recorded d (if c then a else b) := by
  split <;> assumption

theorem recorded_kick (d : Dev) : Recorded d (kick d) := by
  have spend : ∀ (c : Bool), Recorded d (if c then d.modRcd fun x => { x with tokens := x.tokens - 1 } else d) :=
    fun c => recorded_ite ((Recorded.same d).modRcd _) (Recorded.same d)
  unfold kick
  dsimp only
  split
  · exact Recorded.same d
  · split
    · exact (((spend _).trans (recorded_placeOf _ _)).setStg _ _).modRcd _
    · split
      · exact ((spend _).setStg _ _).modRcd _
      · exact recorded_ite ((Recorded.same d).modRcd _) (Recorded.same d)

theorem recorded_startFlush (d : Dev) (b : Bool) : Recorded d (startFlush b d) := by
  unfold startFlush
  exact recorded_ite (Recorded.same d) (((Recorded.same d).modRcd _).trans (recorded_kick _))

theorem recorded_countLoss (d : Dev) (b : Bool) : Recorded d (countLoss b d) := by
  unfold countLoss; exact .of rfl

theorem recorded_stageOne (d : Dev) (r : Record) (l : Nat) : Recorded d (stageOne d r l).1 := by
  unfold stageOne
  split
  · exact recorded_countLoss d _
  · have h : ∀ c : Bool, Recorded d (if c then countLoss false d else d) :=
      fun c => recorded_ite (recorded_countLoss d _) (Recorded.same d)
    dsimp only
    exact ((h _).setStg _ _).modRcd _

theorem recorded_flushLevel (d : Dev) : Recorded d (flushLevel d) := by
  unfold flushLevel
  exact recorded_ite (recorded_startFlush d _) (recorded_kick d)

theorem recorded_flushOnEntry (d : Dev) (c : Cls) (v : Bool) : Recorded d (flushOnEntry d c v) := by
  unfold flushOnEntry
  exact recorded_ite (recorded_startFlush d _) (recorded_flushLevel d)

theorem recorded_recordOnce (e : Env) (d : Dev) (code inst : Nat) (x : EvInfo) : Recorded d (recordOnce e d code inst x).1 := by
  unfold recordOnce
  split
  · exact ((Recorded.same d).setStg _ _).trans (recorded_flushLevel _)
  · dsimp only
    refine Recorded.trans ?_ (recorded_flushOnEntry _ _ _)
    exact recorded_ite ((recorded_stageOne d _ _).modRcd _) (recorded_stageOne d _ _)

theorem recorded_noteDrop (e : Env) (d : Dev) : Recorded d (noteDrop e d) := by
  unfold noteDrop
  have h : Recorded d { d with flt := { d.flt with noteCnt := (d.flt.noteCnt + 1) % 65536 } } := .of rfl
  have k := h.trans (recorded_recordOnce e _ Ev.REC_DROP noInst { cls := .note, aux := satN d.rcd.lost 0xFFFF })
  exact recorded_ite k (k.modRcd _)

theorem recorded_recordEvent (e : Env) (d : Dev) (code inst : Nat) (x : EvInfo) : Recorded d (recordEvent e d code inst x).1 := by
  unfold recordEvent
  exact (recorded_recordOnce e d code inst x).trans (recorded_ite (recorded_noteDrop e _) (Recorded.same _))

theorem recorded_stageJournal (e : Env) (d : Dev) (r : Record) : Recorded d (stageJournal e d r).1 := by
  unfold stageJournal
  exact (recorded_stageOne d r _).trans ((recorded_flushOnEntry _ _ _).trans (recorded_ite (recorded_noteDrop e _) (Recorded.same _)))

theorem recorded_journalTable (e : Env) (b : By) (first last crc : Nat) (v : Bool) (d : Dev) :
    Recorded d (journalTable e b first last crc v d) := by
  unfold journalTable
  exact (show Recorded d (nextBatch d).1 from .of rfl).trans (recorded_stageJournal e _ _)

theorem recorded_escalate (e : Env) (d : Dev) (code inst : Nat) (c : Cls) (k : Nat) (inj : Bool) :
    Recorded d (escalate e d code inst c k inj) := by
  unfold escalate
  dsimp only
  have h := (((Recorded.same d).modFlt fun f => { f with escCnt := satN (f.escCnt + 1) 0xFF }).setIrq 5).trans
    (recorded_recordEvent e _ Ev.FLT_ESCALATE inst { cls := c, aux := k, by_ := faultBy inj })
  refine Recorded.modFlt ?_ _
  split
  · exact h.setLatch _ _
  · exact h

theorem recorded_latch (e : Env) (d : Dev) (code inst : Nat) (c : Cls) (live inj : Bool) (n : Nat) (anew : Bool) :
    Recorded d (latch e d code inst c live inj n anew) := by
  have place : ∀ {x : Dev} (k : Nat) (y : Latch) (i : Bool), Recorded d x → Recorded d
      (if c = .safety then escalate e (setIrq c.irqBit (x.setLatch k y)) code inst c k i else setIrq c.irqBit (x.setLatch k y)) :=
    fun k y i h => recorded_ite (((h.setLatch k y).setIrq _).trans (recorded_escalate e _ _ _ _ _ _)) ((h.setLatch k y).setIrq _)
  unfold latch
  dsimp only
  split
  · exact place _ _ _ (Recorded.same d)
  · split
    · exact place _ _ _ (recorded_ite (((Recorded.same d).modFlt _).trans (recorded_recordEvent e _ _ _ _)) (Recorded.same d))
    · have h := ((Recorded.same d).modFlt fun f => { f with lost := satN (f.lost + 1) 0xFF }).setIrq 6
      exact recorded_ite (h.trans (recorded_escalate e _ _ _ _ _ _)) h

theorem recorded_occur (e : Env) (d : Dev) (code inst : Nat) (x : RaiseInfo) : Recorded d (occur e d code inst x) := by
  unfold occur
  dsimp only
  generalize hd : (if Ev.cls code inst = Cls.note then d.modFlt fun f => { f with noteCnt := (f.noteCnt + 1) % 65536 } else d) = d0
  have h0 : Recorded d d0 := by rw [← hd]; exact recorded_ite ((Recorded.same d).modFlt _) (Recorded.same d)
  refine h0.trans ?_
  split
  · refine Recorded.modFlt ?_ _
    split
    · exact recorded_ite ((recorded_recordEvent e d0 _ _ _).setLatch _ _) (recorded_recordEvent e d0 _ _ _)
    · exact recorded_recordEvent e d0 _ _ _
  · exact recorded_ite (recorded_recordEvent e d0 _ _ _) ((recorded_recordEvent e d0 _ _ _).trans (recorded_latch e _ _ _ _ _ _ _ _))

/-- A report changes FLT_IRQ_STAT, the recorder and the fault collector alone. -/
theorem recorded_report (e : Env) (d : Dev) (code inst aux : Nat) : Recorded d (report e d code inst aux) :=
  recorded_occur e d code inst _

/-- A raised fault changes FLT_IRQ_STAT, the recorder and the fault collector alone. -/
theorem recorded_raiseLive (e : Env) (d : Dev) (code inst aux : Nat) : Recorded d (raiseLive e d code inst aux) := by
  unfold raiseLive
  have h := ((Recorded.same d).modFlt fun f => { f with live := f.live ++ [(code, inst)] }).trans
    (recorded_occur e _ code inst { aux := aux, live := true })
  exact recorded_ite (Recorded.same d) (recorded_ite (h.modFlt _) h)

/-- A live status that falls changes the fault collector alone. -/
theorem recorded_dropLive (d : Dev) (code inst : Nat) : Recorded d (dropLive d code inst) := by
  unfold dropLive
  dsimp only
  split
  · exact ((Recorded.same d).modFlt _).setLatch _ _
  · exact (Recorded.same d).modFlt _

/-- A cleared fault changes the fault collector alone. -/
theorem recorded_clearLive (d : Dev) (code inst : Nat) : Recorded d (clearLive d code inst) := by
  unfold clearLive
  exact recorded_ite (Recorded.same d) (recorded_dropLive d _ _)

theorem recorded_setLive (e : Env) (code inst : Nat) (c : Bool) (d : Dev) : Recorded d (setLive e code inst c d) := by
  unfold setLive
  split
  · exact recorded_raiseLive e d _ _ _
  · exact recorded_clearLive d _ _

theorem recorded_stageChanges (e : Env) (b : By) (batch : Nat) :
    ∀ (n idx : Nat) (ts : List Triple) (d : Dev), Recorded d (stageChanges e b batch n idx ts d)
  | 0, _, _, d => Recorded.same d
  | _ + 1, _, [], d => Recorded.same d
  | n + 1, idx, _ :: _, d => by
    unfold stageChanges
    exact (recorded_stageJournal e d _).trans (recorded_stageChanges e b batch n _ _ _)

theorem recorded_stageBatches (e : Env) (b : By) : ∀ (n : Nat) (ts : List Triple) (d : Dev), Recorded d (stageBatches e b n ts d)
  | 0, _, d => Recorded.same d
  | _ + 1, [], d => Recorded.same d
  | n + 1, _ :: _, d => by
    unfold stageBatches
    exact ((show Recorded d (nextBatch d).1 from .of rfl).trans (recorded_stageChanges e b _ _ _ _ _)).trans
      (recorded_stageBatches e b n _ _)

/-- The end of a batch changes the recorder, the fault collector and the register file alone. -/
theorem recorded_closeBatch (e : Env) (b : By) (d : Dev) : Recorded d (closeBatch e b d) := by
  unfold closeBatch
  exact ((Recorded.same d).modRcd _).trans (recorded_stageBatches e b _ _ _)

end Sys2Proof.Machine
end

