-- ==== Sys2Proof/Laws/Fixative.lean ====
section
/-! SUPPORT. What a slot of the Fixative area holds after an accepted FIXATIVE command. -/
namespace Sys2Proof.Machine

/-- The slot of a command stores the CRC-32 of that command. -/
theorem slotOf_valid (r : Role) (c : AuthCmd) : (slotOf r c).valid = true := by
  simp [FixSlot.valid, slotOf]

/-- What a command accepted by R402 has shown. -/
theorem submitted_good {e : Env} {k : AuthKind} {d : Dev} {b : By} {r : Role} {c : AuthCmd} (h : submitted e k d = .good b r c) :
    c.kind = k ∧ c.role = some r ∧ authKey e c = some (sha256 c.pubkey) ∧
      ecdsaVerify c.pubkey (sha256Bytes c.signed) c.sig = true ∧ authRight e c r = true ∧ authBody e d c = true := by
  unfold submitted at h
  split at h
  · cases h
  split at h
  · cases h
  split at h
  · cases h
  next hk =>
  split at h
  next c' _ _ _ _ r' hc hr =>
    cases h
    unfold authCheck at hc
    split at hc
    · cases hc
    split at hc
    · cases hc
    rw [hr] at hc
    simp only at hc
    split at hc
    · cases hc
    split at hc
    · cases hc
    split at hc
    · cases hc
    split at hc
    · cases hc
    simp_all
  · cases h

/-- The slot of an accepted FIXATIVE command is sound: its signer answers to the same key hash in the new record. -/
theorem slotOf_sound {e : Env} {d : Dev} {b : By} {r : Role} {c : AuthCmd} (h : submitted e .fixative d = .good b r c) :
    (slotOf r c).sound := by
  obtain ⟨hk, hr, hkey, hv, hright, hbody⟩ := submitted_good h
  refine ⟨slotOf_valid r c, ?_, ?_⟩
  · simp only [FixSlot.authentic, slotOf, hv, Bool.and_true, beq_iff_eq]
    unfold authKey at hkey
    unfold authRight at hright
    unfold authBody at hbody
    rw [hk] at hright hbody
    simp only [Bool.and_eq_true] at hright hbody
    rw [hr] at hkey
    cases he : e.fix <;> cases r <;> simp_all [Fix.key, Fix.allowed, Fix.follows]
  · unfold authBody at hbody
    rw [hk] at hbody
    simp only [Bool.and_eq_true] at hbody
    exact hbody.1.2

end Sys2Proof.Machine
end

