-- ==== Sys2Proof/Laws/Ops.lean ====
section
/-! SUPPORT. What a meaning answers, by the shape it has: everything a lifted effect can do, said once. -/
namespace Sys2Proof.Machine

variable (s : State)

/-- Where the core runs, a lifted effect is the effect, settled. -/
theorem lift_runs (f : Env → Dev → Dev) (h : Running s) : lift f s = .next (s.then_ (f s.env s.dev)) := by
  have h : coreRuns s.dev = true := h
  simp only [lift, h, if_true, State.then_]

/-- Where the core runs and the effect is known. -/
theorem lift_eq (f : Env → Dev → Dev) (d : Dev) (h : Running s) (hd : f s.env s.dev = d) : lift f s = .next (s.then_ d) := by
  rw [lift_runs s f h, hd]

/-- Where the core does not run, a lifted effect changes nothing. -/
theorem lift_off (f : Env → Dev → Dev) (h : coreRuns s.dev = false) : lift f s = .next s := by
  simp [lift, h]

theorem liftLodge_eq (f : Env → Dev → Dev) : liftLodge f s = .next (s.then_ (f s.env s.dev)) := rfl

theorem liftEnv_eq (f : Env → Dev → Env × Dev) :
    liftEnv f s = .next { s with env := (f s.env s.dev).1, dev := settle (f s.env s.dev).1 (f s.env s.dev).2 } := rfl

/-- Where the core does not run, an effect that leaves both halves alone changes nothing. -/
theorem liftEnv_off (f : Env → Dev → Env × Dev) (h : coreRuns s.dev = false) (hf : f s.env s.dev = (s.env, s.dev)) :
    liftEnv f s = .next s := by
  simp [liftEnv, hf, settle, h]

theorem settle_off (e : Env) (d : Dev) (h : coreRuns d = false) : settle e d = d := by
  simp [settle, h]

theorem writeTo_eq (src : Src) (n : RegName) (i j : Nat) (w : Word) :
    writeTo src n i j w s = lift (fun e d => hostWrite e src.plain (n.addr i j) w d) s := rfl

theorem writeTo_off (src : Src) (n : RegName) (i j : Nat) (w : Word) (h : coreRuns s.dev = false) :
    writeTo src n i j w s = .next s := by
  rw [writeTo_eq]; exact lift_off s _ h

theorem writeAuth_off (src : Src) (role : Role) (n : RegName) (w : Word) (h : coreRuns s.dev = false) :
    writeAuth src role n w s = .next s := by
  unfold writeAuth; exact lift_off s _ h

/-- A role that holds the right writes as any origin does. -/
theorem writeAuth_right (src : Src) (role : Role) (n : RegName) (w : Word) (h : writeRight role (n.addr 0 0, w) = true) :
    writeAuth src role n w s = liftWrite (src.auth role) n 0 0 w s := by
  unfold writeAuth liftWrite; simp only [h, if_true]

/-- A lifted effect answers a next state with the environment and the queue it found. -/
theorem lift_next {f : Env → Dev → Dev} {t : State} (h : lift f s = .next t) : t.env = s.env ∧ t.pending = s.pending := by
  cases h; exact ⟨rfl, rfl⟩

theorem liftLodge_next {f : Env → Dev → Dev} {t : State} (h : liftLodge f s = .next t) : t.env = s.env ∧ t.pending = s.pending := by
  cases h; exact ⟨rfl, rfl⟩

theorem liftEnv_next {f : Env → Dev → Env × Dev} {t : State} (h : liftEnv f s = .next t) :
    t.env = (f s.env s.dev).1 ∧ t.pending = s.pending := by
  cases h; exact ⟨rfl, rfl⟩

end Sys2Proof.Machine
end

