-- ==== Sys2Proof/Laws/Writes.lean ====
section
/-! SUPPORT. A write: which block judges and carries out a register's words, what an accepted and a refused word do, and what
storing a word leaves alone. -/
namespace Sys2Proof.Machine

/-- Every register stands at a word address. -/
theorem addr_mod_four (n : RegName) (i j : Nat) : n.addr i j % 4 = 0 := by
  have h : 4 ∣ n.place.base ∧ 4 ∣ n.place.stride ∧ 4 ∣ n.place.stride2 := by cases n <;> decide
  exact Nat.mod_eq_zero_of_dvd
    (Nat.dvd_add (Nat.dvd_add h.1 (Dvd.dvd.mul_right h.2.1 i)) (Dvd.dvd.mul_right h.2.2 j))

/-! ### The block of a register -/

section
variable (e : Env) (n : RegName) (x : Wr) (o : Word) (d : Dev)

theorem ruleOf_radio (h0 : n.block ≤ 5 ∨ n = .CAL_CTL) :
    ruleOf e n x d = ruleRadio e n x d := by
  simp only [ruleOf, h0, if_true]

theorem actOf_radio (h0 : n.block ≤ 5 ∨ n = .CAL_CTL) :
    actOf e n x o d = actRadio e n x o d := by
  simp only [actOf, h0, if_true]

theorem ruleOf_slices (h0 : ¬(n.block ≤ 5 ∨ n = .CAL_CTL))
    (h1 : n.block = 0x10 ∨ n.block = 0x80) :
    ruleOf e n x d = ruleSlices e n x d := by
  simp only [ruleOf, h0, h1, if_true, if_false]

theorem actOf_slices (h0 : ¬(n.block ≤ 5 ∨ n = .CAL_CTL))
    (h1 : n.block = 0x10 ∨ n.block = 0x80) :
    actOf e n x o d = actSlices e n x o d := by
  simp only [actOf, h0, h1, if_true, if_false]

theorem ruleOf_engines (h0 : ¬(n.block ≤ 5 ∨ n = .CAL_CTL))
    (h1 : ¬(n.block = 0x10 ∨ n.block = 0x80))
    (h2 : n.block = 0x20 ∨ n.block = 0x30 ∨ n.block = 0x38) :
    ruleOf e n x d = ruleEngines e n x d := by
  simp only [ruleOf, h0, h1, h2, if_true, if_false]

theorem actOf_engines (h0 : ¬(n.block ≤ 5 ∨ n = .CAL_CTL))
    (h1 : ¬(n.block = 0x10 ∨ n.block = 0x80))
    (h2 : n.block = 0x20 ∨ n.block = 0x30 ∨ n.block = 0x38) :
    actOf e n x o d = actEngines e n x o d := by
  simp only [actOf, h0, h1, h2, if_true, if_false]

theorem ruleOf_ops (h0 : ¬(n.block ≤ 5 ∨ n = .CAL_CTL))
    (h1 : ¬(n.block = 0x10 ∨ n.block = 0x80))
    (h2 : ¬(n.block = 0x20 ∨ n.block = 0x30 ∨ n.block = 0x38))
    (h3 : n.block = 0x3C ∨ n.block = 0x40 ∨ n.block = 0x48 ∨ n.block = 0x50 ∨ n.block = 0xF0) :
    ruleOf e n x d = ruleOps e n x d := by
  simp only [ruleOf, h0, h1, h2, h3, if_true, if_false]

theorem actOf_ops (h0 : ¬(n.block ≤ 5 ∨ n = .CAL_CTL))
    (h1 : ¬(n.block = 0x10 ∨ n.block = 0x80))
    (h2 : ¬(n.block = 0x20 ∨ n.block = 0x30 ∨ n.block = 0x38))
    (h3 : n.block = 0x3C ∨ n.block = 0x40 ∨ n.block = 0x48 ∨ n.block = 0x50 ∨ n.block = 0xF0) :
    actOf e n x o d = actOps e n x o d := by
  simp only [actOf, h0, h1, h2, h3, if_true, if_false]

theorem ruleOf_system (h0 : ¬(n.block ≤ 5 ∨ n = .CAL_CTL))
    (h1 : ¬(n.block = 0x10 ∨ n.block = 0x80))
    (h2 : ¬(n.block = 0x20 ∨ n.block = 0x30 ∨ n.block = 0x38))
    (h3 : ¬(n.block = 0x3C ∨ n.block = 0x40 ∨ n.block = 0x48 ∨ n.block = 0x50 ∨ n.block = 0xF0)) :
    ruleOf e n x d = ruleSystem n x d := by
  simp only [ruleOf, h0, h1, h2, h3, if_false]

theorem actOf_system (h0 : ¬(n.block ≤ 5 ∨ n = .CAL_CTL))
    (h1 : ¬(n.block = 0x10 ∨ n.block = 0x80))
    (h2 : ¬(n.block = 0x20 ∨ n.block = 0x30 ∨ n.block = 0x38))
    (h3 : ¬(n.block = 0x3C ∨ n.block = 0x40 ∨ n.block = 0x48 ∨ n.block = 0x50 ∨ n.block = 0xF0)) :
    actOf e n x o d = actSystem e n x o d := by
  simp only [actOf, h0, h1, h2, h3, if_false]

end

/-! ### Storing a word -/

section
variable (r : Reg) (w : Word) (d : Dev)

/-- Storing a word changes the register file alone. -/
theorem storeWord_regs : ∃ l, storeWord r w d = { d with regs := l } := by
  unfold storeWord
  split
  · exact ⟨d.regs, rfl⟩
  · exact ⟨_, rfl⟩

@[simp] theorem storeWord_slice (k : Nat) : (storeWord r w d).slice k = d.slice k := by
  obtain ⟨l, h⟩ := storeWord_regs r w d; rw [h]; rfl
@[simp] theorem storeWord_loop (k : Nat) : (storeWord r w d).loop k = d.loop k := by
  obtain ⟨l, h⟩ := storeWord_regs r w d; rw [h]; rfl
@[simp] theorem storeWord_chan (k : Nat) : (storeWord r w d).chan k = d.chan k := by
  obtain ⟨l, h⟩ := storeWord_regs r w d; rw [h]; rfl
@[simp] theorem storeWord_canc (k : Nat) : (storeWord r w d).canc k = d.canc k := by
  obtain ⟨l, h⟩ := storeWord_regs r w d; rw [h]; rfl
@[simp] theorem storeWord_rffeM (k : Nat) : (storeWord r w d).rffeM k = d.rffeM k := by
  obtain ⟨l, h⟩ := storeWord_regs r w d; rw [h]; rfl
@[simp] theorem storeWord_group (k : Nat) : (storeWord r w d).group k = d.group k := by
  obtain ⟨l, h⟩ := storeWord_regs r w d; rw [h]; rfl
@[simp] theorem storeWord_synth (k : Nat) : (storeWord r w d).synth k = d.synth k := by
  obtain ⟨l, h⟩ := storeWord_regs r w d; rw [h]; rfl
@[simp] theorem storeWord_pin (k : Nat) : (storeWord r w d).pin k = d.pin k := by
  obtain ⟨l, h⟩ := storeWord_regs r w d; rw [h]; rfl
@[simp] theorem storeWord_dom (k : Nat) : (storeWord r w d).dom k = d.dom k := by
  obtain ⟨l, h⟩ := storeWord_regs r w d; rw [h]; rfl
@[simp] theorem storeWord_stencil (k : Nat) : (storeWord r w d).stencil k = d.stencil k := by
  obtain ⟨l, h⟩ := storeWord_regs r w d; rw [h]; rfl
@[simp] theorem storeWord_auth : (storeWord r w d).auth = d.auth := by
  obtain ⟨l, h⟩ := storeWord_regs r w d; rw [h]
@[simp] theorem storeWord_authBlocks : (storeWord r w d).authBlocks = d.authBlocks := by
  obtain ⟨l, h⟩ := storeWord_regs r w d; rw [h]
@[simp] theorem storeWord_sup : (storeWord r w d).sup = d.sup := by
  obtain ⟨l, h⟩ := storeWord_regs r w d; rw [h]
@[simp] theorem storeWord_rcd : (storeWord r w d).rcd = d.rcd := by
  obtain ⟨l, h⟩ := storeWord_regs r w d; rw [h]
@[simp] theorem storeWord_pwr : (storeWord r w d).pwr = d.pwr := by
  obtain ⟨l, h⟩ := storeWord_regs r w d; rw [h]
@[simp] theorem storeWord_flt : (storeWord r w d).flt = d.flt := by
  obtain ⟨l, h⟩ := storeWord_regs r w d; rw [h]
@[simp] theorem storeWord_boot : (storeWord r w d).boot = d.boot := by
  obtain ⟨l, h⟩ := storeWord_regs r w d; rw [h]
@[simp] theorem storeWord_prb : (storeWord r w d).prb = d.prb := by
  obtain ⟨l, h⟩ := storeWord_regs r w d; rw [h]
@[simp] theorem storeWord_ret : (storeWord r w d).ret = d.ret := by
  obtain ⟨l, h⟩ := storeWord_regs r w d; rw [h]
@[simp] theorem storeWord_tow : (storeWord r w d).tow = d.tow := by
  obtain ⟨l, h⟩ := storeWord_regs r w d; rw [h]
@[simp] theorem storeWord_ptl : (storeWord r w d).ptl = d.ptl := by
  obtain ⟨l, h⟩ := storeWord_regs r w d; rw [h]
@[simp] theorem storeWord_clk : (storeWord r w d).clk = d.clk := by
  obtain ⟨l, h⟩ := storeWord_regs r w d; rw [h]
@[simp] theorem storeWord_pool : (storeWord r w d).pool = d.pool := by
  obtain ⟨l, h⟩ := storeWord_regs r w d; rw [h]
@[simp] theorem storeWord_eng : (storeWord r w d).eng = d.eng := by
  obtain ⟨l, h⟩ := storeWord_regs r w d; rw [h]
@[simp] theorem storeWord_crv : (storeWord r w d).crv = d.crv := by
  obtain ⟨l, h⟩ := storeWord_regs r w d; rw [h]
@[simp] theorem storeWord_src : (storeWord r w d).src = d.src := by
  obtain ⟨l, h⟩ := storeWord_regs r w d; rw [h]
@[simp] theorem storeWord_bdac : (storeWord r w d).bdac = d.bdac := by
  obtain ⟨l, h⟩ := storeWord_regs r w d; rw [h]

end

/-! ### A word that reaches its register -/

section
variable (s : State) (b : By) (n : RegName) (i j : Nat) (w : Word)

/-- A word that reaches its register is judged there, as a batch of its own. -/
theorem hostWrite_reaches (h : Reaches s b n i j) :
    hostWrite s.env b (n.addr i j) w s.dev = closeBatch s.env b (writeReg s.env b ⟨n, i, j⟩ w s.dev).d := by
  obtain ⟨_, ht, hp, hb, hg⟩ := h
  simp [hostWrite, writeWord, addr_mod_four, ht, hp, hb, hg]

/-- A word that R500 lets through and the register's own rules take. -/
theorem hostWrite_accepted (act : Dev → Dev) (hf : n.fields.isEmpty = false) (h : Accepts s b n i j w)
    (hr : ruleOf s.env n { by_ := b, i := i, j := j, w := w } s.dev = .take)
    (ha : actOf s.env n { by_ := b, i := i, j := j, w := w } (s.dev.reg n i j) (storeWord ⟨n, i, j⟩ w s.dev) =
      act (storeWord ⟨n, i, j⟩ w s.dev)) :
    hostWrite s.env b (n.addr i j) w s.dev = written s.env b n i j w act s.dev := by
  obtain ⟨hR, h1, h2, h3, h4, h5⟩ := h
  rw [hostWrite_reaches s b n i j w hR]
  simp [writeReg, hf, h1, h2, h3, h4, h5, countFail, hr, takeWord, written, ha]

/-- A word that R500 lets through and the register's own rules refuse. -/
theorem hostWrite_refused (d2 : Dev) (hf : n.fields.isEmpty = false) (h : Accepts s b n i j w)
    (hr : ruleOf s.env n { by_ := b, i := i, j := j, w := w } s.dev = .refuse d2) :
    hostWrite s.env b (n.addr i j) w s.dev = closeBatch s.env b d2 := by
  obtain ⟨hR, h1, _, h3, h4, h5⟩ := h
  rw [hostWrite_reaches s b n i j w hR]
  simp [writeReg, hf, h1, h3, h4, h5, countFail, hr]

/-- A lifted write that is accepted. -/
theorem liftWrite_accepted (act : Dev → Dev) (hf : n.fields.isEmpty = false) (h : Accepts s b n i j w)
    (hr : ruleOf s.env n { by_ := b, i := i, j := j, w := w } s.dev = .take)
    (ha : actOf s.env n { by_ := b, i := i, j := j, w := w } (s.dev.reg n i j) (storeWord ⟨n, i, j⟩ w s.dev) =
      act (storeWord ⟨n, i, j⟩ w s.dev)) :
    liftWrite b n i j w s = .next (s.written b n i j w act) :=
  lift_eq s _ _ h.1.1 (hostWrite_accepted s b n i j w act hf h hr ha)

/-- A lifted write that the register's own rules refuse. -/
theorem liftWrite_refused (d2 : Dev) (hf : n.fields.isEmpty = false) (h : Accepts s b n i j w)
    (hr : ruleOf s.env n { by_ := b, i := i, j := j, w := w } s.dev = .refuse d2) :
    liftWrite b n i j w s = .next (s.then_ (closeBatch s.env b d2)) :=
  lift_eq s _ _ h.1.1 (hostWrite_refused s b n i j w d2 hf h hr)

/-- An accepted write inside a period. -/
theorem liftWrite_accepted_at (ofs : Nat) (act : Dev → Dev) (hf : n.fields.isEmpty = false)
    (h : Accepts { s with dev := s.dev.atOfs ofs } b n 0 0 w)
    (hr : ruleOf s.env n { by_ := b, i := 0, j := 0, w := w } (s.dev.atOfs ofs) = .take)
    (ha : actOf s.env n { by_ := b, i := 0, j := 0, w := w } ((s.dev.atOfs ofs).reg n 0 0)
      (storeWord ⟨n, 0, 0⟩ w (s.dev.atOfs ofs)) = act (storeWord ⟨n, 0, 0⟩ w (s.dev.atOfs ofs))) :
    lift (fun e d => hostWrite e b (n.addr 0 0) w (d.atOfs ofs)) s =
      .next (State.written { s with dev := s.dev.atOfs ofs } b n 0 0 w act) :=
  lift_eq s _ _ h.1.1 (hostWrite_accepted { s with dev := s.dev.atOfs ofs } b n 0 0 w act hf h hr ha)

end

end Sys2Proof.Machine
end

