-- ==== Sys2Proof/Machine/Flags.lean ====
section
/-! DEFINITION. The levels of the block's digital output pins (chapter 20), as its state or the boundary scan drives them. -/
namespace Sys2Proof.Machine

/-- A Tow transmitter: what the port sends between frames, or the level that EXTEST drives. -/
inductive TowTx where
  | line (l : LineSt)
  | level (high : Bool)
deriving DecidableEq, Repr

/-- What the digital outputs of the package show. IRQ_N and PAIR_TOKEN are open drain: true is driven low. A TGPIO that is not
driven is none. -/
structure Pins where
  irqLow : Bool
  alive : Bool
  mainEn : Bool
  frameOut : Bool
  pairLow : Bool
  tgpio : List (Option Bool)
  prmSck : Bool
  prmCsN : Bool
  /-- PRM_IO0 to PRM_IO3 and SVC_MISO; none is high-impedance. -/
  prmIo : List (Option Bool)
  svcMiso : Option Bool
  /-- SCLK and SDATA of each RFFE master; none while the master is enabled and its sequences move them. -/
  rffe : List (Option (Bool × Bool))
  /-- The transmitters of TOW_UP and TOW_DN. -/
  towTx : List TowTx
deriving DecidableEq, Repr

/-- A Tow transmitter is off in reset and until firmware runs after a cold start, while its port is disabled, and at the head's TOW_UP (R411,
R450). DEDUCED (log 231): it is on from the firmware on, with which HELLOs begin (R421). -/
def txLine (d : Dev) (dn : Bool) : LineSt :=
  if !coreRuns d || !d.flag TOW_PORT_CFG.EN (portNo dn) || !(firmwareUp d || d.boot.warm) || (!dn && isHead d) then .off else lineNow d dn

/-- The output pins as the device drives them (R41, R85, R86, R294, R296, R431, R450, R454). DEDUCED (log 231): between the commands of this model no
transfer of the Primer port or the service SPI is under way, so their pins rest as in reset. -/
def pinsRun (d : Dev) : Pins :=
  { irqLow := irqLow d, alive := d.flt.alive, mainEn := d.pwr.mainEn, frameOut := d.src.out, pairLow := d.tow.tok.hold
    tgpio := (List.range 32).map fun n => (d.pin n).drive, prmSck := false, prmCsN := true, prmIo := List.replicate 4 none, svcMiso := none
    rffe := (List.range 4).map fun m => if coreRuns d && d.flag SYN_RFFE_CFG.EN m then none else some (false, false)
    towTx := [.line (txLine d false), .line (txLine d true)] }

/-- The output pins as EXTEST drives them from its cells (R13). -/
def pinsScan (cells : List Bool) : Pins :=
  let l := scanLevel cells
  { irqLow := !l .irqN, alive := l .alive, mainEn := l .mainEn, frameOut := l .frameOut, pairLow := !l .pairToken
    tgpio := (List.finRange 32).map fun n => some (l (.tgpio n)), prmSck := l .prmSck, prmCsN := l .prmCsN
    prmIo := (List.finRange 4).map fun k => some (l (.prmIo k)), svcMiso := some (l .svcMiso)
    rffe := (List.finRange 4).map fun m => some (l (.rffeSclk m), l (.rffeSdata m))
    towTx := [.level (l (.towTx false)), .level (l (.towTx true))] }

/-- The output pins: EXTEST takes them over while it is in effect (R13). -/
def pinsOf (d : Dev) : Pins :=
  match d.jtag.drive with
  | some cells => pinsScan cells
  | none => pinsRun d

end Sys2Proof.Machine
end

