-- ==== Sys2Proof/Tests/Slice0.lean ====
section
/-! SUPPORT. Tests: a witness for every clause of the obligations that has hypotheses, the ill-formed terms that
WellFormed refuses, and single steps with results worked out from the manual. -/
namespace Sys2Proof.Tests
open Sys2Proof Sys2Proof.Machine
set_option Elab.async false

/-- A device in the RUN phase of its start, with everything else as after reset. -/
def dev0 : Dev := { pwr := { mainEn := true, pwrGood := true, inReset := false }, boot := { phase := .run } }

/-- The state of that device. -/
def run0 : State := { State.reset with dev := dev0 }

/-- That state with a change of the device. -/
def on (f : Dev → Dev) : State := { run0 with dev := f dev0 }

/-- The same device strapped as head of its chain. -/
def head0 : Dev := { dev0 with boot := { phase := .run, straps := 1 } }

/-- A public key of the tests. -/
def pubkey0 : List Nat :=
  beBytes 32 0x60fed4ba255a9d31c961eb74c6356d68c049b8923b61fa6ce669622e60f29fb6 ++
    beBytes 32 0x7903fe1008b8bc99a41ae9e95628bc64f2f1b20c2d7e9f5177a3c294d4462299

/-- A Fixative with a minimum isolation margin of 30 dB that allows the whole downlink range. -/
def fix0 : Fix :=
  { version := 1, pmax := List.replicate 8 3000, gmaxDl := 9000, gmaxUl := 9000, margin := 300, noiseMax := 0, duty := 1000, oorMax := 0, dl := [(400000, 7200000)], ul := [],
    keyF := 0x59e6ec7e68de7735b98c29e3c45700077cce4c55b6145a3acb40a844273ec2d6, keyO := 0, keyI := 0 }

/-- That state with this Fixative in force and a change of the device. -/
def onFix (f : Dev → Dev) : State := { on f with env := { run0.env with fix := some fix0 } }

/-- A device whose slice 191 may be enabled: 20 MHz from RX port 0 to TX port 4, both at 1.83 GHz. -/
def ready191 (d : Dev) : Dev :=
  ((d.setReg .SLC_CFG0 191 0 (SLC_CFG0.SINK.into 4 (SLC_CFG0.CLASS.into 4 0#32))).setReg .SYN_LO_FREQ 0 0 200000000#32).setReg
    .SYN_LO_FREQ 3 0 200000000#32

/-- A device whose template 63 may be enabled: one TGPIO action with an inverse, a window of 100 cycles. -/
def tpl63 (d : Dev) : Dev :=
  (((d.setReg .CRV_TPL_WIN 63 0 (CRV_TPL_WIN.W_CLOSE.into 100 0#32)).setReg .CRV_TPL_AUX 63 0 (CRV_TPL_AUX.FALL_N.into 1 0#32)).setReg
    .CRV_ACT_A 1023 0 (CRV_ACT_A.HAS_INV.into 1 0#32))

/-- A device whose direct-action registers spell a TGPIO action 30000 cycles ahead. -/
def dir0 (d : Dev) : Dev := (d.put CRV_CTL.EN 0 1).setReg .CRV_DIR_TIME 0 0 (CRV_DIR_TIME.CYCLE.into 30000 0#32)

theorem take_of {v : Verdict} (h : (match v with | .take => true | _ => false) = true) : v = .take := by
  cases v <;> simp_all

/-- A latch entry of a DEVICE fault that is no longer live. -/
def lat0 : Latch := { code := Ev.THM_CRITICAL, inst := 0, cls := .device, live := false, first := 0, last := 0 }

/-- The head with a change of the device. -/
def onHead (f : Dev → Dev) : State := { run0 with dev := f head0 }

/-- A device strapped for a pair, with a token. -/
def onPair (f : Token → Token) : State := { run0 with dev := modTok f { dev0 with boot := { phase := .run, straps := 8 } } }

/-- A record of the recorder. -/
def rec0 : Record :=
  { seq := 1, opt := 0, pwrcyc := 0, code := Ev.FT_STEP, cls := .minor, conseq := false, overflow := false, backward := false,
    more := false, varnish := false, origin := 0, role := 0, addr := 0, parent := 0, body := .event 1 0 [] 0 0 0 }

/-- A retained configuration with nothing in it. -/
def ret0 : RetCfg :=
  { seq := 1, configId := 0, outs := [], mutes := [], dl := [], ul := [], stops := [], liveB := [], bankCrc := [], lutCrc := [],
    tplCrc := [], snapCrc := [], runs := [] }

/-- A device that may calibrate RX chain 7 in a gap: its group transmits, its learned pattern leaves a long gap. -/
def gap7 (d : Dev) : Dev :=
  ((((d.put CAL_CTL.BG_RX_EN 0 128).setRxChain 7 { cal := .done }).setGroup 1 { state := .tx, target := .tx }).setStencil 31
    { st := .armed, edges := [(true, 153599)] }).setReg .SLC_CFG0 0 0 (SLC_CFG0.SRC.into 7 0#32)

/-- A received frame with the CRC of its header and payload. -/
def goodFrame (type : Nat) (f : RxFrame) : RxFrame := { f with crc := BitVec.ofNat 32 (frameCrc f.len (rxFrame type f)) }

theorem acts_on {x : Dev × Got} {g : Frame} (h : (match x.2 with | .act f => some f | .drop => none) = some g) : x = (x.1, .act g) := by
  obtain ⟨d, _ | _⟩ := x <;> simp_all

/-- A host on the SPI port. -/
def spi : Src := { origin := .spi }

theorem witness_OnlyFiveTouchTheEnvironment :
    (∃ (c : Instr) (s t : State), exec c s = .next t ∧ (∀ x, c ≠ .coldStart x) ∧ (∀ x, c ≠ .warmRestart x) ∧ c ≠ .fixativeTakeEffect) ∧
    (∃ (c : Instr) (s t : State), exec c s = .next t ∧ (∀ x, c ≠ .coldStart x) ∧ (∀ x, c ≠ .warmRestart x) ∧
      c ≠ .fixativeTakeEffect ∧ c ≠ .operatingTimeTick ∧ c ≠ .authFixative) :=
  ⟨⟨.operatingTimeTick, run0, _, rfl, nofun, nofun, nofun⟩, ⟨.frameOutPulseEnd, run0, _, rfl, nofun, nofun, nofun, nofun, nofun⟩⟩

theorem witness_OperatingTimeBound : ∃ (s t : State), s.env.opt < 2 ^ 48 ∧ step s = .next t :=
  ⟨{ run0 with env := { run0.env with opt := 2 ^ 48 - 1 }, pending := [.operatingTimeTick] }, _, by decide, rfl⟩

theorem witness_OperatingTimeNeverFalls :
    (∃ (c : Instr) (s t : State), s.env.opt < 2 ^ 48 ∧ exec c s = .next t ∧ (∀ x, c ≠ .coldStart x) ∧ c ≠ .operatingTimeTick) ∧
    (∃ (s : State), (s.dev.pwr.xtalOk || s.dev.pwr.mainEn) = true ∧ s.env.opt < 2 ^ 48 - 1) :=
  ⟨⟨.frameOutPulseEnd, run0, _, by decide, rfl, nofun, nofun⟩,
   ⟨{ run0 with env := { run0.env with opt := 2 ^ 48 - 2 } }, by decide⟩⟩





theorem witness_NothingWithoutTheCore :
    (∃ (c : Instr) (s : State), c.lodgeSide = false ∧ coreRuns s.dev = false) :=
  ⟨.controlPeriodBoundary {}, { run0 with dev := { dev0 with pwr := { dev0.pwr with inReset := true } } }, by decide +kernel⟩

theorem witness_AddressesNameOneRegister :
    (∃ (n : RegName) (i : Nat) (j : Nat), i < n.place.n ∧ j < n.place.n2) :=
  ⟨.SLC_COEF_B, 191, 63, by decide +kernel⟩

theorem witness_StoreTouchesOneWord :
    (∃ (n : RegName) (m : RegName) (i : Nat) (j : Nat) (k : Nat) (l : Nat), i < n.place.n ∧ j < n.place.n2 ∧ k < m.place.n ∧ l < m.place.n2) ∧
    (∃ (n : RegName) (m : RegName) (i : Nat) (j : Nat) (k : Nat) (l : Nat), i < n.place.n ∧ j < n.place.n2 ∧ k < m.place.n ∧ l < m.place.n2 ∧ (⟨n, i, j⟩ : Reg) ≠ ⟨m, k, l⟩) :=
  ⟨⟨.SLC_COEF_A, .SLC_COEF_A, 191, 63, 191, 62, by decide +kernel⟩,
   ⟨.SLC_COEF_A, .SLC_COEF_A, 191, 63, 191, 62, by decide +kernel⟩⟩

theorem witness_ResetRegisters :
    (∃ (i : Nat), i < 192) ∧
    (∃ (i : Nat), 192 ≤ i ∧ i < 200) ∧
    (∃ (i : Nat), 200 ≤ i ∧ i < 256) :=
  ⟨⟨191, by decide +kernel⟩,
   ⟨199, by decide +kernel⟩,
   ⟨255, by decide +kernel⟩⟩

theorem witness_AcceptedWrite :
    (∃ (s : State) (src : Src) (a : Word) (w : Word) (n : RegName) (i : Nat) (j : Nat), a.toNat = n.addr i j ∧ a.toNat % 4 = 0 ∧ n.fields.isEmpty = false ∧ Accepts s src.plain n i j w ∧ ruleOf s.env n { by_ := src.plain, i := i, j := j, w := w } s.dev = .take) :=
  ⟨run0, spi, BitVec.ofNat 32 (RegName.SLC_COEF_A.addr 191 63), 0x7FFF#32, .SLC_COEF_A, 191, 63, by unfold Accepts Reaches Unrefused Running; and_intros <;> first | decide +kernel | exact take_of (by decide +kernel)⟩

theorem witness_DiscardedWrites :
    (∃ (s : State) (src : Src) (a : Word), Running s ∧ a.toNat % 4 = 0 ∧ writeTarget s.env s.dev src.plain a.toNat = none) ∧
    (∃ (s : State) (a : Word), Running s ∧ a.toNat % 4 ≠ 0) ∧
    (∃ (s : State) (src : Src) (a : Word) (r : Reg), Running s ∧ a.toNat % 4 = 0 ∧
      writeTarget s.env s.dev src.plain a.toNat = some r ∧ phaseOpen s.dev src.plain = false) ∧
    (∃ (s : State) (src : Src) (a : Word) (r : Reg), Running s ∧ a.toNat % 4 = 0 ∧
      writeTarget s.env s.dev src.plain a.toNat = some r ∧ phaseOpen s.dev src.plain = true ∧ pairBusy s.dev r.name src.plain = true) ∧
    (∃ (s : State) (src : Src) (a : Word) (r : Reg), Running s ∧ a.toNat % 4 = 0 ∧
      writeTarget s.env s.dev src.plain a.toNat = some r ∧ phaseOpen s.dev src.plain = true ∧
      pairBusy s.dev r.name src.plain = false ∧ gated s.dev r.name src.plain = true) :=
  ⟨⟨run0, spi, 0xFFFFFFFC#32, by unfold Running; decide +kernel⟩,
   ⟨run0, 0x3#32, by unfold Running; decide +kernel⟩,
   ⟨{ run0 with dev := { dev0 with boot := { phase := .rom } } }, spi, BitVec.ofNat 32 (RegName.LOOP_SP.addr 255 0),
    ⟨.LOOP_SP, 255, 0⟩, by unfold Running; decide +kernel⟩,
   ⟨on fun d => d.modSup fun x => { x with frozen := true }, { origin := .firmware },
    BitVec.ofNat 32 (RegName.LOOP_SP.addr 255 0), ⟨.LOOP_SP, 255, 0⟩, by unfold Running; decide +kernel⟩,
   ⟨on fun d => d.setReg .SUP_WR_EN 0 0 0#32, spi, BitVec.ofNat 32 (RegName.LOOP_SP.addr 255 0), ⟨.LOOP_SP, 255, 0⟩,
    by unfold Running; decide +kernel⟩⟩

theorem witness_PlainWriteOfAuthorisedAction :
    (∃ (s : State) (src : Src) (w : Word), Reaches s src.plain .SUP_CTL 0 0 ∧ SUP_CTL.WARM.bit w = true) ∧
    (∃ (s : State) (src : Src) (w : Word), Reaches s src.plain .SUP_HO_CTL 0 0 ∧ SUP_HO_CTL.GO.bit w = true) ∧
    (∃ (s : State) (src : Src) (w : Word), Reaches s src.plain .PTL_REL 0 0 ∧ (PTL_REL.REL_STOP.bit w || PTL_REL.REL_DL.bit w || PTL_REL.REL_UL.bit w) = true) :=
  ⟨⟨run0, spi, SUP_CTL.WARM.into 1 0#32, by unfold Reaches Running; decide +kernel⟩,
   ⟨run0, spi, SUP_HO_CTL.GO.into 1 0#32, by unfold Reaches Running; decide +kernel⟩,
   ⟨run0, spi, PTL_REL.REL_UL.into 1 0#32, by unfold Reaches Running; decide +kernel⟩⟩

theorem witness_LockAndTimeWrites :
    (∃ (s : State) (src : Src) (w : Word), Accepts s src.plain .GLB_LOCK 0 0 w ∧ GLB_LOCK.LOCK.bit w = true) ∧
    (∃ (s : State) (src : Src) (w : Word), Accepts s src.plain .SYN_FT_CFG 0 0 w ∧ ftCfgOk w = true) ∧
    (∃ (s : State) (src : Src) (w : Word) (k : Fin 5), k.val ≠ 0 ∧ Accepts s src.plain .SYN_FT_OFS (k.val - 1) 0 w ∧ SYN_FT_OFS.OFS.of w < frameCycles) ∧
    (∃ (s : State) (src : Src) (w : Word) (n : Fin 8), Accepts s src.plain .SYN_TD_CFG n.val 0 w ∧ tdCfgOk s.dev w = true) ∧
    (∃ (s : State) (src : Src) (w : Word), Accepts s src.plain .SYN_FT_CFG 0 0 w ∧ ftCfgOk w = false) ∧
    (∃ (s : State) (src : Src) (w : Word) (k : Fin 5), k.val ≠ 0 ∧ Accepts s src.plain .SYN_FT_OFS (k.val - 1) 0 w ∧ frameCycles ≤ SYN_FT_OFS.OFS.of w) :=
  ⟨⟨run0, spi, GLB_LOCK.LOCK.into 1 0#32, by unfold Accepts Reaches Unrefused Running; decide +kernel⟩,
   ⟨run0, spi, 0x0A4008D1#32, by unfold Accepts Reaches Unrefused Running; decide +kernel⟩,
   ⟨run0, spi, SYN_FT_OFS.OFS.into 9830399 0#32, 4, by unfold Accepts Reaches Unrefused Running; decide +kernel⟩,
   ⟨on fun d => d.put SLC_CFG0.CLASS 191 4, spi, SYN_TD_CFG.SLICE.into 191 0#32, 7, by unfold Accepts Reaches Unrefused Running; decide +kernel⟩,
   ⟨run0, spi, 0x00000009#32, by unfold Accepts Reaches Unrefused Running; decide +kernel⟩,
   ⟨run0, spi, SYN_FT_OFS.OFS.into 9830400 0#32, 4, by unfold Accepts Reaches Unrefused Running; decide +kernel⟩⟩

theorem witness_GroupAndSynthWrites :
    (∃ (s : State) (src : Src) (w : Word) (g : Fin 2), Accepts s src.plain .SYN_GRP_CTL g.val 0 w ∧ (GSt.ofCode (SYN_GRP_CTL.TARGET.of w)).isSome = true ∧ maskBarred { by_ := src.plain, i := g.val, j := 0, w := w } s.dev = false) ∧
    (∃ (s : State) (src : Src) (w : Word) (n : Fin 4), Accepts s src.plain .SYN_LO_FREQ n.val 0 w ∧ freqOk w.toNat = true) ∧
    (∃ (s : State) (src : Src) (w : Word), Accepts s src.plain .CAL_CTL 0 0 w) :=
  ⟨⟨run0, spi, SYN_GRP_CTL.TARGET.into 5 (RegName.SYN_GRP_CTL.resetWord 1 0), 1, by unfold Accepts Reaches Unrefused Running; decide +kernel⟩,
   ⟨run0, spi, BitVec.ofNat 32 786432000, 3, by unfold Accepts Reaches Unrefused Running; decide +kernel⟩,
   ⟨run0, spi, CAL_CTL.REQ_D.into 1 0#32, by unfold Accepts Reaches Unrefused Running; decide +kernel⟩⟩

theorem witness_RffeCommandWrites :
    (∃ (s : State) (src : Src) (w : Word) (m : Fin 4), Accepts s src.plain .SYN_RFFE_CMD m.val 0 w ∧ SYN_RFFE_CMD.TYPE.of w = 0 ∧ rffeBad 0 (SYN_RFFE_CMD.BC.of w) (SYN_RFFE_CMD.USID.of w) (SYN_RFFE_CMD.ADDR.of w) = false ∧ (s.dev.rffeM m.val).fifo.length < 64) ∧
    (∃ (s : State) (src : Src) (w : Word) (m : Fin 4), Accepts s src.plain .SYN_RFFE_CMD m.val 0 w ∧ SYN_RFFE_CMD.TYPE.of w = 1 ∧ rffeBad 1 (SYN_RFFE_CMD.BC.of w) (SYN_RFFE_CMD.USID.of w) (SYN_RFFE_CMD.ADDR.of w) = false ∧ (s.dev.rffeM m.val).fifo.length < 64) ∧
    (∃ (s : State) (src : Src) (w : Word) (m : Fin 4), Accepts s src.plain .SYN_RFFE_CMD m.val 0 w ∧ SYN_RFFE_CMD.TYPE.of w = 2 ∧ rffeBad 2 (SYN_RFFE_CMD.BC.of w) (SYN_RFFE_CMD.USID.of w) (SYN_RFFE_CMD.ADDR.of w) = false ∧ (s.dev.rffeM m.val).fifo.length < 64) ∧
    (∃ (s : State) (src : Src) (w : Word) (m : Fin 4), Accepts s src.plain .SYN_RFFE_CMD m.val 0 w ∧ SYN_RFFE_CMD.TYPE.of w = 3 ∧ rffeBad 3 (SYN_RFFE_CMD.BC.of w) (SYN_RFFE_CMD.USID.of w) (SYN_RFFE_CMD.ADDR.of w) = false ∧ (s.dev.rffeM m.val).fifo.length < 64) ∧
    (∃ (s : State) (src : Src) (w : Word) (n : Fin 32), Accepts s src.plain .SYN_TGPIO_CFG n.val 0 w ∧ tgpioBad w = false) :=
  ⟨⟨run0, spi, SYN_RFFE_CMD.USID.into 1 (SYN_RFFE_CMD.TYPE.into 0 0#32), 3, by unfold Accepts Reaches Unrefused Running; decide +kernel⟩,
   ⟨run0, spi, SYN_RFFE_CMD.USID.into 1 (SYN_RFFE_CMD.TYPE.into 1 0#32), 3, by unfold Accepts Reaches Unrefused Running; decide +kernel⟩,
   ⟨run0, spi, SYN_RFFE_CMD.USID.into 1 (SYN_RFFE_CMD.TYPE.into 2 0#32), 3, by unfold Accepts Reaches Unrefused Running; decide +kernel⟩,
   ⟨run0, spi, SYN_RFFE_CMD.USID.into 1 (SYN_RFFE_CMD.TYPE.into 3 0#32), 3, by unfold Accepts Reaches Unrefused Running; decide +kernel⟩,
   ⟨run0, spi, RegName.SYN_TGPIO_CFG.resetWord 31 0, 31, by unfold Accepts Reaches Unrefused Running; decide +kernel⟩⟩

theorem witness_SliceWrites :
    (∃ (s : State) (src : Src) (w : Word) (n : Fin 192), Accepts s src.plain .SLC_CTL n.val 0 w ∧ SLC_CTL.EN.bit w = true ∧ (s.dev.slice n.val).st = .idle ∧ (enableChecks s.env n.val s.dev).2 = true) ∧
    (∃ (s : State) (src : Src) (w : Word) (n : Fin 192), Accepts s src.plain .SLC_CTL n.val 0 w ∧ SLC_CTL.EN.bit w = false) ∧
    (∃ (s : State) (src : Src) (w : Word) (n : Fin 192), Accepts s src.plain .SLC_CTL n.val 0 w ∧ SLC_CTL.EN.bit w = true ∧ SLC_CTL.FMUTE.bit w = true ∧ (s.dev.slice n.val).st ≠ .idle ∧ (s.dev.slice n.val).st ≠ .draining) ∧
    (∃ (s : State) (src : Src) (w : Word) (n : Fin 192), Accepts s src.plain .SLC_CFG0 n.val 0 w ∧ (s.dev.slice n.val).st = .idle ∧ SLC_CFG0.WIDTH.of w ≠ 3 ∧ SLC_CFG0.MSET.of w ≤ 191 ∧ routeOk (SLC_CFG0.DIR.bit w) (SLC_CFG0.SRC.of w) (SLC_CFG0.SINK.of w) = true) ∧
    (∃ (s : State) (src : Src) (w : Word) (n : Fin 192), Accepts s src.plain .SLC_CFG1 n.val 0 w ∧ (s.dev.slice n.val).st = .idle ∧ SLC_CFG1.FLEN.of w % 2 = 1) ∧
    (∃ (s : State) (src : Src) (w : Word) (n : Fin 192), Accepts s src.plain .SLC_NCO_RX n.val 0 w ∧ (s.dev.slice n.val).st = .idle) ∧
    (∃ (s : State) (src : Src) (w : Word) (n : Fin 192), Accepts s src.plain .SLC_NCO_TX n.val 0 w ∧ (s.dev.slice n.val).st = .idle) ∧
    (∃ (s : State) (src : Src) (w : Word) (n : Fin 192), Accepts s src.plain .SLC_GAIN n.val 0 w ∧ -3000 ≤ SLC_GAIN.GAIN.int w ∧ SLC_GAIN.GAIN.int w ≤ 6000) ∧
    (∃ (s : State) (src : Src) (w : Word) (n : Fin 192) (k : Fin 64), Accepts s src.plain .SLC_COEF_A n.val k.val w ∧ bankOpen s.dev n.val false = true) ∧
    (∃ (s : State) (src : Src) (w : Word) (n : Fin 192) (k : Fin 64), Accepts s src.plain .SLC_COEF_B n.val k.val w ∧ bankOpen s.dev n.val true = true) :=
  ⟨⟨onFix ready191, spi, SLC_CTL.EN.into 1 0#32, 191, by unfold Accepts Reaches Unrefused Running; decide +kernel⟩,
   ⟨run0, spi, 0#32, 191, by unfold Accepts Reaches Unrefused Running; decide +kernel⟩,
   ⟨on fun d => d.setSlice 191 { st := .active }, spi, SLC_CTL.EN.into 1 (SLC_CTL.FMUTE.into 1 0#32), 191, by unfold Accepts Reaches Unrefused Running; decide +kernel⟩,
   ⟨run0, spi, SLC_CFG0.MSET.into 191 (SLC_CFG0.SINK.into 4 0#32), 191, by unfold Accepts Reaches Unrefused Running; decide +kernel⟩,
   ⟨run0, spi, SLC_CFG1.FLEN.into 1 0#32, 191, by unfold Accepts Reaches Unrefused Running; decide +kernel⟩,
   ⟨run0, spi, 0xFFFFFFFF#32, 191, by unfold Accepts Reaches Unrefused Running; decide +kernel⟩,
   ⟨run0, spi, 0xFFFFFFFF#32, 191, by unfold Accepts Reaches Unrefused Running; decide +kernel⟩,
   ⟨run0, spi, SLC_GAIN.GAIN.into 6000 0#32, 191, by unfold Accepts Reaches Unrefused Running; decide +kernel⟩,
   ⟨run0, spi, 0x7FFF#32, 191, 63, by unfold Accepts Reaches Unrefused Running; decide +kernel⟩,
   ⟨on fun d => d.setSlice 191 { gz := { live := false } }, spi, 0x8000#32, 191, 63, by unfold Accepts Reaches Unrefused Running; decide +kernel⟩⟩

theorem witness_PoolAndGlazeWrites :
    (∃ (s : State) (src : Src) (w : Word), Accepts s src.plain .POOL_CAP_CFG 0 0 w ∧ POOL_CAP_CFG.ARM.bit w = true ∧ ruleCapture s.env { by_ := src.plain, i := 0, j := 0, w := w } s.dev = .take) ∧
    (∃ (s : State) (src : Src) (w : Word), Accepts s src.plain .POOL_CAP_CFG 0 0 w ∧ POOL_CAP_CFG.ARM.bit w = false ∧ POOL_CAP_CFG.REL.bit w = true ∧ POOL_CAP_CFG.POINT.of w ≠ 3 ∧ POOL_CAP_CFG.TRIG.of w ≠ 3) ∧
    (∃ (s : State) (src : Src) (w : Word) (ul : Bool), Accepts s src.plain .SLC_LAT (if ul then 1 else 0) 0 w ∧ ruleLat s.env { by_ := src.plain, i := if ul then 1 else 0, j := 0, w := w } s.dev = .take) ∧
    (∃ (s : State) (src : Src) (w : Word) (n : Fin 192), Accepts s src.plain .SLC_GLZ_CTL n.val 0 w ∧ SLC_GLZ_CTL.SWAP.bit w = true ∧ SLC_GLZ_CTL.SET.bit w = false ∧ 64 ≤ SLC_GLZ_CTL.LEN.of w ∧ SLC_GLZ_CTL.LEN.of w ≤ 4096) ∧
    (∃ (s : State) (src : Src) (w : Word) (n : Fin 192), Accepts s src.plain .SLC_GLZ_CTL n.val 0 w ∧ SLC_GLZ_CTL.SWAP.bit w = true ∧ SLC_GLZ_CTL.SET.bit w = true ∧ 64 ≤ SLC_GLZ_CTL.LEN.of w ∧ SLC_GLZ_CTL.LEN.of w ≤ 4096) ∧
    (∃ (s : State) (src : Src) (w : Word), Accepts s src.plain .SLC_SPARE_CTL 0 0 w ∧ SLC_SPARE_CTL.GO.bit w = true ∧ SLC_SPARE_CTL.RET.bit w = false ∧ ruleOf s.env .SLC_SPARE_CTL { by_ := src.plain, i := 0, j := 0, w := w } s.dev = .take) ∧
    (∃ (s : State) (src : Src) (w : Word), Accepts s src.plain .SLC_SPARE_CTL 0 0 w ∧ SLC_SPARE_CTL.GO.bit w = true ∧ SLC_SPARE_CTL.RET.bit w = true ∧ ruleOf s.env .SLC_SPARE_CTL { by_ := src.plain, i := 0, j := 0, w := w } s.dev = .take) :=
  ⟨⟨run0, spi, POOL_CAP_CFG.ARM.into 1 (POOL_CAP_CFG.BLOCKS.into 1 0#32), by unfold Accepts Reaches Unrefused Running; and_intros <;> first | decide +kernel | exact take_of (by decide +kernel)⟩,
   ⟨run0, spi, POOL_CAP_CFG.REL.into 1 0#32, by unfold Accepts Reaches Unrefused Running; decide +kernel⟩,
   ⟨run0, spi, RegName.SLC_LAT.resetWord 1 0, true, by unfold Accepts Reaches Unrefused Running; and_intros <;> first | decide +kernel | exact take_of (by decide +kernel)⟩,
   ⟨run0, spi, SLC_GLZ_CTL.SWAP.into 1 (SLC_GLZ_CTL.LEN.into 4096 0#32), 191, by unfold Accepts Reaches Unrefused Running; decide +kernel⟩,
   ⟨run0, spi, SLC_GLZ_CTL.SWAP.into 1 (SLC_GLZ_CTL.SET.into 1 (SLC_GLZ_CTL.LEN.into 64 0#32)), 191, by unfold Accepts Reaches Unrefused Running; decide +kernel⟩,
   ⟨on fun d => d.setSlice 191 { st := .active }, spi, SLC_SPARE_CTL.GO.into 1 (SLC_SPARE_CTL.SLICE.into 191 0#32), by unfold Accepts Reaches Unrefused Running; and_intros <;> first | decide +kernel | exact take_of (by decide +kernel)⟩,
   ⟨on fun d => (d.setSlice 191 { st := .active, phys := some 192 }).modSpr fun x => { x with parked := [191] }, spi, SLC_SPARE_CTL.GO.into 1 (SLC_SPARE_CTL.RET.into 1 (SLC_SPARE_CTL.SLICE.into 191 0#32)), by unfold Accepts Reaches Unrefused Running; and_intros <;> first | decide +kernel | exact take_of (by decide +kernel)⟩⟩

theorem witness_CancellerWrites :
    (∃ (s : State) (src : Src) (w : Word) (n : Fin 192), Accepts s src.plain .CNL_CFG n.val 0 w ∧ ruleCnlCfg s.env { by_ := src.plain, i := n.val, j := 0, w := w } s.dev = .take) ∧
    (∃ (s : State) (src : Src) (w : Word) (n : Fin 192), Accepts s src.plain .CNL_BULK n.val 0 w) ∧
    (∃ (s : State) (src : Src) (w : Word) (n : Fin 192), Accepts s src.plain .CNL_CTL n.val 0 w ∧ CNL_CTL.CLR.bit w = false ∧ CNL_CTL.FREEZE.of w = CNL_CTL.FREEZE.of (s.dev.reg .CNL_CTL n.val 0) ∧ CNL_CTL.HOLD_T.of w ≠ 0 ∧ fixMargin s.env ≤ 10 * (CNL_CTL.MARGIN.of w : Int)) ∧
    (∃ (s : State) (src : Src) (w : Word) (n : Fin 192), Accepts s src.plain .CNL_CTL n.val 0 w ∧ CNL_CTL.CLR.bit w = true ∧ CNL_CTL.FREEZE.of w = CNL_CTL.FREEZE.of (s.dev.reg .CNL_CTL n.val 0) ∧ (s.dev.canc n.val).st ≠ .off ∧ CNL_CTL.HOLD_T.of w ≠ 0 ∧ fixMargin s.env ≤ 10 * (CNL_CTL.MARGIN.of w : Int)) ∧
    (∃ (s : State) (src : Src) (w : Word) (n : Fin 192), Accepts s src.plain .CNL_CTL n.val 0 w ∧ CNL_CTL.CLR.bit w = false ∧ CNL_CTL.FREEZE.of w ≠ CNL_CTL.FREEZE.of (s.dev.reg .CNL_CTL n.val 0) ∧ CNL_CTL.HOLD_T.of w ≠ 0 ∧ fixMargin s.env ≤ 10 * (CNL_CTL.MARGIN.of w : Int)) ∧
    (∃ (s : State) (src : Src) (w : Word), Accepts s src.plain .CNL_PRB_CTL 0 0 w ∧ CNL_PRB_CTL.START.bit w = true ∧ CNL_PRB_CTL.ABORT.bit w = false ∧ CNL_PRB_CTL.INTERVAL.of w ≠ 0) ∧
    (∃ (s : State) (src : Src) (w : Word), Accepts s src.plain .CNL_PRB_CTL 0 0 w ∧ CNL_PRB_CTL.START.bit w = false ∧ CNL_PRB_CTL.ABORT.bit w = true ∧ CNL_PRB_CTL.INTERVAL.of w ≠ 0) ∧
    (∃ (s : State) (src : Src) (w : Word) (n : Fin 192), Accepts s src.plain .CNL_CTL n.val 0 w ∧ CNL_CTL.HOLD_T.of w ≠ 0 ∧ 10 * (CNL_CTL.MARGIN.of w : Int) < fixMargin s.env) :=
  ⟨⟨run0, spi, RegName.CNL_CFG.resetWord 191 0, 191, by unfold Accepts Reaches Unrefused Running; and_intros <;> first | decide +kernel | exact take_of (by decide +kernel)⟩,
   ⟨run0, spi, RegName.CNL_BULK.resetWord 191 0, 191, by unfold Accepts Reaches Unrefused Running; decide +kernel⟩,
   ⟨run0, spi, RegName.CNL_CTL.resetWord 191 0, 191, by unfold Accepts Reaches Unrefused Running; decide +kernel⟩,
   ⟨on fun d => d.setCanc 191 { st := .track }, spi, CNL_CTL.CLR.into 1 (RegName.CNL_CTL.resetWord 191 0), 191, by unfold Accepts Reaches Unrefused Running; decide +kernel⟩,
   ⟨run0, spi, CNL_CTL.FREEZE.into 1 (RegName.CNL_CTL.resetWord 191 0), 191, by unfold Accepts Reaches Unrefused Running; decide +kernel⟩,
   ⟨run0, spi, CNL_PRB_CTL.START.into 1 (RegName.CNL_PRB_CTL.resetWord 0 0), by unfold Accepts Reaches Unrefused Running; decide +kernel⟩,
   ⟨run0, spi, CNL_PRB_CTL.ABORT.into 1 (RegName.CNL_PRB_CTL.resetWord 0 0), by unfold Accepts Reaches Unrefused Running; decide +kernel⟩,
   ⟨onFix id, spi, CNL_CTL.MARGIN.into 0 (RegName.CNL_CTL.resetWord 191 0), 191, by unfold Accepts Reaches Unrefused Running; decide +kernel⟩⟩

theorem witness_LoopAndStencilWrites :
    (∃ (s : State) (src : Src) (w : Word) (i : Fin 256), Accepts s src.plain .LOOP_CTL i.val 0 w ∧ loopModeBad s.dev i.val w = false) ∧
    (∃ (s : State) (src : Src) (w : Word), Accepts s src.plain .LOOP_GCTL 0 0 w ∧ LOOP_GCTL.REARM_OVR.bit w = true ∧ s.dev.eng.ovrRun = 0) ∧
    (∃ (s : State) (src : Src) (w : Word) (t : Fin 32) (k : Fin 64), Accepts s src.plain .LOOP_LUT t.val k.val w) ∧
    (∃ (s : State) (src : Src) (w : Word) (i : Fin 256), Accepts s src.plain .LOOP_SP i.val 0 w) ∧
    (∃ (s : State) (src : Src) (w : Word) (n : Fin 32), Accepts s src.plain .STN_CFG n.val 0 w ∧ STN_CFG.EN.bit w = true ∧ s.dev.flag STN_CFG.EN n.val = false ∧ (stencilAttach s.env n.val (STN_CFG.SLICE.of w) (STN_CFG.NP.of w) s.dev).2 = true) ∧
    (∃ (s : State) (src : Src) (w : Word) (n : Fin 32), Accepts s src.plain .STN_CFG n.val 0 w ∧ STN_CFG.EN.bit w = false ∧ s.dev.flag STN_CFG.EN n.val = true ∧ ({ by_ := src.plain, i := n.val, j := 0, w := w } : Wr).changes s.dev STN_CFG.SLICE = false ∧ ({ by_ := src.plain, i := n.val, j := 0, w := w } : Wr).changes s.dev STN_CFG.NP = false) ∧
    (∃ (s : State) (src : Src) (w : Word) (n : Fin 32), Accepts s src.plain .STN_CTL n.val 0 w ∧ STN_CTL.RESTART.bit w = true ∧ stnCtlOk w = true) :=
  ⟨⟨run0, spi, RegName.LOOP_CTL.resetWord 255 0, 255, by unfold Accepts Reaches Unrefused Running; decide +kernel⟩,
   ⟨run0, spi, LOOP_GCTL.REARM_OVR.into 1 (RegName.LOOP_GCTL.resetWord 0 0), by unfold Accepts Reaches Unrefused Running; decide +kernel⟩,
   ⟨run0, spi, 0x7FFF#32, 31, 63, by unfold Accepts Reaches Unrefused Running; decide +kernel⟩,
   ⟨run0, spi, 0x7FFF#32, 255, by unfold Accepts Reaches Unrefused Running; decide +kernel⟩,
   ⟨on fun d => d.setReg .SLC_CFG0 191 0 (SLC_CFG0.SINK.into 4 0#32), spi, STN_CFG.EN.into 1 (STN_CFG.SLICE.into 191 (RegName.STN_CFG.resetWord 23 0)), 23, by unfold Accepts Reaches Unrefused Running; decide +kernel⟩,
   ⟨on fun d => d.put STN_CFG.EN 23 1, spi, RegName.STN_CFG.resetWord 23 0, 23, by unfold Accepts Reaches Unrefused Running; decide +kernel⟩,
   ⟨run0, spi, STN_CTL.RESTART.into 1 (RegName.STN_CTL.resetWord 23 0), 23, by unfold Accepts Reaches Unrefused Running; decide +kernel⟩⟩

theorem witness_CarveWrites :
    (∃ (s : State) (src : Src) (w : Word), Accepts s src.plain .CRV_CTL 0 0 w ∧ CRV_CTL.FLUSH.bit w = true ∧ 4 ≤ CRV_CTL.HORIZON.of w ∧ CRV_CTL.HORIZON.of w ≤ 640) ∧
    (∃ (s : State) (src : Src) (w : Word), Accepts s src.plain .CRV_CTL 0 0 w ∧ CRV_CTL.EN.bit w = false ∧ 4 ≤ CRV_CTL.HORIZON.of w ∧ CRV_CTL.HORIZON.of w ≤ 640) ∧
    (∃ (s : State) (src : Src) (w : Word) (m : Fin 64), Accepts s src.plain .CRV_TPL_CFG m.val 0 w ∧ CRV_TPL_CFG.EN.bit w = true ∧ ruleTemplate { by_ := src.plain, i := m.val, j := 0, w := w } s.dev = .take) ∧
    (∃ (s : State) (src : Src) (w : Word) (m : Fin 64), Accepts s src.plain .CRV_TPL_CFG m.val 0 w ∧ CRV_TPL_CFG.EN.bit w = false) ∧
    (∃ (s : State) (src : Src) (w : Word) (ofs : Nat), Accepts { s with dev := s.dev.atOfs ofs } src.plain .CRV_DIR_GO 0 0 w ∧ CRV_DIR_GO.GO.bit w = true ∧ ruleDirect s.env { by_ := src.plain, i := 0, j := 0, w := w } (s.dev.atOfs ofs) = .take) :=
  ⟨⟨run0, spi, CRV_CTL.FLUSH.into 1 (CRV_CTL.HORIZON.into 640 (RegName.CRV_CTL.resetWord 0 0)), by unfold Accepts Reaches Unrefused Running; decide +kernel⟩,
   ⟨run0, spi, CRV_CTL.HORIZON.into 4 0#32, by unfold Accepts Reaches Unrefused Running; decide +kernel⟩,
   ⟨on tpl63, spi, CRV_TPL_CFG.EN.into 1 (CRV_TPL_CFG.FIRST.into 1023 0#32), 63, by unfold Accepts Reaches Unrefused Running; and_intros <;> first | decide +kernel | exact take_of (by decide +kernel)⟩,
   ⟨run0, spi, RegName.CRV_TPL_CFG.resetWord 63 0, 63, by unfold Accepts Reaches Unrefused Running; decide +kernel⟩,
   ⟨on dir0, spi, CRV_DIR_GO.GO.into 1 0#32, 0, by unfold Accepts Reaches Unrefused Running; and_intros <;> first | decide +kernel | exact take_of (by decide +kernel)⟩⟩

theorem witness_PatrolWrites :
    (∃ (s : State) (src : Src) (w : Word) (r : PtlCfg), Accepts s src.plain (ptlRegOf r) 0 0 w ∧ ptlCfgOk s.env (ptlRegOf r) w = true) ∧
    (∃ (s : State) (src : Src) (w : Word) (r : PtlCfg), Accepts s src.plain (ptlRegOf r) 0 0 w ∧ ptlCfgOk s.env (ptlRegOf r) w = false) ∧
    (∃ (s : State) (src : Src) (w : Word), Accepts s src.plain .PTL_CTL 0 0 w ∧ PTL_CTL.STOP.bit w = true ∧ PTL_CTL.SREL.bit w = false) ∧
    (∃ (s : State) (src : Src) (w : Word), Accepts s src.plain .PTL_CTL 0 0 w ∧ PTL_CTL.STOP.bit w = false ∧ PTL_CTL.SREL.bit w = true ∧ PTL_CTL.SLICE.of w ≤ 191) ∧
    (∃ (s : State) (src : Src) (w : Word) (role : Role), Accepts s (src.auth role) .PTL_REL 0 0 w ∧ PTL_REL.REL_STOP.bit w = true ∧ PTL_REL.REL_DL.bit w = false ∧ PTL_REL.REL_UL.bit w = false) ∧
    (∃ (s : State) (src : Src) (w : Word) (role : Role), Accepts s (src.auth role) .PTL_REL 0 0 w ∧ PTL_REL.REL_STOP.bit w = false ∧ PTL_REL.REL_DL.bit w = true ∧ PTL_REL.REL_UL.bit w = false) ∧
    (∃ (s : State) (src : Src) (w : Word) (role : Role), Accepts s (src.auth role) .PTL_REL 0 0 w ∧ PTL_REL.REL_STOP.bit w = false ∧ PTL_REL.REL_DL.bit w = false ∧ PTL_REL.REL_UL.bit w = true) :=
  ⟨⟨run0, spi, RegName.PTL_CFG.resetWord 0 0, .cfg, by unfold Accepts Reaches Unrefused Running; decide +kernel⟩,
   ⟨run0, spi, 0#32, .time, by unfold Accepts Reaches Unrefused Running; decide +kernel⟩,
   ⟨run0, spi, PTL_CTL.STOP.into 1 (PTL_CTL.SLICE.into 191 0#32), by unfold Accepts Reaches Unrefused Running; decide +kernel⟩,
   ⟨run0, spi, PTL_CTL.SREL.into 1 (PTL_CTL.SLICE.into 191 0#32), by unfold Accepts Reaches Unrefused Running; decide +kernel⟩,
   ⟨run0, spi, PTL_REL.REL_STOP.into 1 0#32, .factory, by unfold Accepts Reaches Unrefused Running; decide +kernel⟩,
   ⟨run0, spi, PTL_REL.REL_DL.into 1 0#32, .factory, by unfold Accepts Reaches Unrefused Running; decide +kernel⟩,
   ⟨run0, spi, PTL_REL.REL_UL.into 1 0#32, .factory, by unfold Accepts Reaches Unrefused Running; decide +kernel⟩⟩

theorem witness_FaultWrites :
    (∃ (s : State) (src : Src) (w : Word), Accepts s src.plain .FLT_CLAIM 0 0 w ∧ FLT_CLAIM.CLAIM.bit w = true ∧ (claimTry (FLT_CLAIM.IDX.of w) s.dev).2 = true) ∧
    (∃ (s : State) (src : Src) (w : Word) (z : State) (same : List (Fin 128)), z = s.withSame (same.map (·.val)) ∧ Accepts z src.plain .FLT_ACK 0 0 w ∧ FLT_ACK.ACK.bit w = true ∧ FLT_ACK.ALL.bit w = false ∧ (ackTry false (FLT_ACK.IDX.of w) z.dev).2 = true) ∧
    (∃ (s : State) (src : Src) (w : Word) (z : State) (same : List (Fin 128)), z = s.withSame (same.map (·.val)) ∧ Accepts z src.plain .FLT_ACK 0 0 w ∧ FLT_ACK.ACK.bit w = false ∧ FLT_ACK.ALL.bit w = true) ∧
    (∃ (s : State) (src : Src) (w : Word) (role : Role) (z : State) (same : List (Fin 128)), z = s.withSame (same.map (·.val)) ∧ Accepts z (src.auth role) .FLT_ACKA 0 0 w ∧ FLT_ACKA.ACK.bit w = true ∧ (ackTry true (FLT_ACKA.IDX.of w) z.dev).2 = true) ∧
    (∃ (s : State) (src : Src) (w : Word), Accepts s src.plain .FLT_HB 0 0 w ∧ src.origin = .firmware) ∧
    (∃ (s : State) (src : Src) (w : Word), Accepts s src.plain .TST_FINJ 0 0 w ∧ TST_FINJ.GO.bit w = true ∧ TST_FINJ.MODE.of w = 0 ∧ Ev.isIdentity (TST_FINJ.CODE.of w) = true) ∧
    (∃ (s : State) (src : Src) (w : Word), Accepts s src.plain .TST_FINJ 0 0 w ∧ TST_FINJ.GO.bit w = true ∧ TST_FINJ.MODE.of w = 1 ∧ Ev.isIdentity (TST_FINJ.CODE.of w) = true) ∧
    (∃ (s : State) (src : Src) (w : Word), Accepts s src.plain .TST_FINJ 0 0 w ∧ TST_FINJ.GO.bit w = true ∧ TST_FINJ.MODE.of w = 2 ∧ Ev.isIdentity (TST_FINJ.CODE.of w) = true) :=
  ⟨⟨on fun d => (d.put FLT_CLAIMEXT.DEVICE 0 1).setLatch 127 { lat0 with live := true, run := .runout }, spi, FLT_CLAIM.CLAIM.into 1 (FLT_CLAIM.IDX.into 127 0#32), by unfold Accepts Reaches Unrefused Running; decide +kernel⟩,
   ⟨on fun d => d.setLatch 127 lat0, spi, FLT_ACK.ACK.into 1 (FLT_ACK.IDX.into 127 0#32), (on fun d => d.setLatch 127 lat0).withSame [5], [5], by unfold Accepts Reaches Unrefused Running; refine ⟨rfl, ?_⟩; and_intros <;> decide +kernel⟩,
   ⟨run0, spi, FLT_ACK.ALL.into 1 0#32, (run0).withSame [5], [5], by unfold Accepts Reaches Unrefused Running; refine ⟨rfl, ?_⟩; and_intros <;> decide +kernel⟩,
   ⟨on fun d => d.setLatch 127 { lat0 with cls := .safety }, spi, FLT_ACKA.ACK.into 1 (FLT_ACKA.IDX.into 127 0#32), .factory, (on fun d => d.setLatch 127 { lat0 with cls := .safety }).withSame [5], [5], by unfold Accepts Reaches Unrefused Running; refine ⟨rfl, ?_⟩; and_intros <;> decide +kernel⟩,
   ⟨run0, { origin := .firmware }, 0xFFFFFFFF#32, by unfold Accepts Reaches Unrefused Running; decide +kernel⟩,
   ⟨{ run0 with env := { run0.env with factory := true } }, { origin := .debug }, TST_FINJ.GO.into 1 (TST_FINJ.MODE.into 0 (TST_FINJ.CODE.into Ev.RFFE_PARITY 0#32)), by unfold Accepts Reaches Unrefused Running; decide +kernel⟩,
   ⟨{ run0 with env := { run0.env with factory := true } }, { origin := .debug }, TST_FINJ.GO.into 1 (TST_FINJ.MODE.into 1 (TST_FINJ.CODE.into Ev.RFFE_PARITY 0#32)), by unfold Accepts Reaches Unrefused Running; decide +kernel⟩,
   ⟨{ run0 with env := { run0.env with factory := true } }, { origin := .debug }, TST_FINJ.GO.into 1 (TST_FINJ.MODE.into 2 (TST_FINJ.CODE.into Ev.RFFE_PARITY 0#32)), by unfold Accepts Reaches Unrefused Running; decide +kernel⟩⟩

theorem witness_RecorderWrites :
    (∃ (s : State) (src : Src) (w : Word), Accepts s src.plain .REC_CTL 0 0 w ∧ REC_CTL.FLUSH.bit w = true) ∧
    (∃ (s : State) (src : Src) (w : Word), Accepts s src.plain .REC_MARK_GO 0 0 w ∧ REC_MARK_GO.GO.bit w = true) ∧
    (∃ (s : State) (src : Src) (w : Word), Accepts s (src.auth .factory) .REC_CLR 0 0 w ∧ REC_CLR.CLR_V.bit w = true ∧ REC_CLR.CLR_P.bit w = false ∧ s.dev.rcd.clrBusy = []) ∧
    (∃ (s : State) (src : Src) (w : Word) (role : Role), Accepts s (src.auth role) .REC_CLR 0 0 w ∧ REC_CLR.CLR_V.bit w = false ∧ REC_CLR.CLR_P.bit w = true ∧ s.dev.rcd.clrBusy = []) :=
  ⟨⟨run0, spi, REC_CTL.FLUSH.into 1 0#32, by unfold Accepts Reaches Unrefused Running; decide +kernel⟩,
   ⟨run0, spi, REC_MARK_GO.GO.into 1 0#32, by unfold Accepts Reaches Unrefused Running; decide +kernel⟩,
   ⟨run0, spi, REC_CLR.CLR_V.into 1 0#32, by unfold Accepts Reaches Unrefused Running; decide +kernel⟩,
   ⟨run0, spi, REC_CLR.CLR_P.into 1 0#32, .operator, by unfold Accepts Reaches Unrefused Running; decide +kernel⟩⟩

theorem witness_BdacWrites :
    (∃ (s : State) (src : Src) (w : Word) (c : Fin 48), Accepts s src.plain .BDAC_CFG c.val 0 w ∧ BDAC_CFG.EN.bit w = true ∧ ruleSystem .BDAC_CFG { by_ := src.plain, i := c.val, j := 0, w := w } s.dev = .take) ∧
    (∃ (s : State) (src : Src) (w : Word) (c : Fin 48), Accepts s src.plain .BDAC_CFG c.val 0 w ∧ BDAC_CFG.EN.bit w = false ∧ ruleSystem .BDAC_CFG { by_ := src.plain, i := c.val, j := 0, w := w } s.dev = .take) ∧
    (∃ (s : State) (src : Src) (w : Word) (c : Fin 48), Accepts s src.plain .BDAC_CODE c.val 0 w ∧ loopDriven s.dev c.val = false) ∧
    (∃ (s : State) (src : Src) (w : Word), Accepts s src.plain .BDAC_LOAD0 0 0 w) ∧
    (∃ (s : State) (src : Src) (w : Word), Accepts s src.plain .BDAC_LOAD1 0 0 w ∧ BDAC_LOAD1.ALL.bit w = false) ∧
    (∃ (s : State) (src : Src) (w : Word), Accepts s src.plain .BDAC_LOAD1 0 0 w ∧ BDAC_LOAD1.ALL.bit w = true) ∧
    (∃ (s : State) (src : Src) (w : Word) (ofs : Nat), Accepts { s with dev := s.dev.atOfs ofs } src.plain .BDAC_TT_CTL 0 0 w ∧ BDAC_TT_CTL.ARM.bit w = true ∧ towNow (s.dev.atOfs ofs) ≤ timerTime s.dev) ∧
    (∃ (s : State) (src : Src) (w : Word) (c : Fin 48), Accepts s src.plain .BDAC_SPAN c.val 0 w ∧ BDAC_SPAN.GO.bit w = true ∧ ruleSystem .BDAC_SPAN { by_ := src.plain, i := c.val, j := 0, w := w } s.dev = .take) ∧
    (∃ (s : State) (src : Src) (w : Word) (c : Fin 48), Accepts s src.plain .BDAC_SINE c.val 0 w ∧ BDAC_SINE.RUN.bit w = true ∧ probeOn s.dev c.val = false ∧ 1 ≤ BDAC_SINE.FREQ.of w ∧ BDAC_SINE.FREQ.of w ≤ 100000 ∧ s.dev.flag BDAC_CFG.MODE c.val = true ∧ (s.dev.chan c.val).pcause = [] ∧ (s.dev.chan c.val).st ≠ .parking ∧ (s.dev.chan c.val).st ≠ .parked ∧ (s.dev.chan c.val).st ≠ .span) ∧
    (∃ (s : State) (src : Src) (w : Word) (c : Fin 48), Accepts s src.plain .BDAC_SINE c.val 0 w ∧ BDAC_SINE.RUN.bit w = false ∧ probeOn s.dev c.val = false ∧ 1 ≤ BDAC_SINE.FREQ.of w ∧ BDAC_SINE.FREQ.of w ≤ 100000 ∧ (s.dev.chan c.val).sineOn = true) :=
  ⟨⟨run0, spi, BDAC_CFG.EN.into 1 (RegName.BDAC_CFG.resetWord 47 0), 47, by unfold Accepts Reaches Unrefused Running; and_intros <;> first | decide +kernel | exact take_of (by decide +kernel)⟩,
   ⟨run0, spi, RegName.BDAC_CFG.resetWord 47 0, 47, by unfold Accepts Reaches Unrefused Running; and_intros <;> first | decide +kernel | exact take_of (by decide +kernel)⟩,
   ⟨run0, spi, 0xFFF#32, 47, by unfold Accepts Reaches Unrefused Running; decide +kernel⟩,
   ⟨run0, spi, 0xFFFFFFFF#32, by unfold Accepts Reaches Unrefused Running; decide +kernel⟩,
   ⟨run0, spi, BDAC_LOAD1.ALL.into 0 0xFFFF#32, by unfold Accepts Reaches Unrefused Running; decide +kernel⟩,
   ⟨run0, spi, BDAC_LOAD1.ALL.into 1 0#32, by unfold Accepts Reaches Unrefused Running; decide +kernel⟩,
   ⟨run0, spi, BDAC_TT_CTL.ARM.into 1 0#32, 0, by unfold Accepts Reaches Unrefused Running; decide +kernel⟩,
   ⟨run0, spi, BDAC_SPAN.GO.into 1 0#32, 47, by unfold Accepts Reaches Unrefused Running; and_intros <;> first | decide +kernel | exact take_of (by decide +kernel)⟩,
   ⟨on fun d => d.put BDAC_CFG.MODE 47 1, spi, BDAC_SINE.RUN.into 1 (BDAC_SINE.FREQ.into 100000 0#32), 47, by unfold Accepts Reaches Unrefused Running; decide +kernel⟩,
   ⟨on fun d => d.setChan 47 { sineOn := true }, spi, BDAC_SINE.FREQ.into 1 0#32, 47, by unfold Accepts Reaches Unrefused Running; decide +kernel⟩⟩

theorem witness_SystemWrites :
    (∃ (s : State) (src : Src) (w : Word), Accepts s src.plain .THM_CFG 0 0 w ∧ thmCfgOk w = true) ∧
    (∃ (s : State) (src : Src) (w : Word), Accepts s src.plain .PWR_CTL 0 0 w ∧ PWR_CTL.SLEEP.bit w = true ∧ s.dev.rcd.clrBusy = [] ∧ bitOf s.dev.boot.straps 4 = false ∧ noWake s.dev = false) ∧
    (∃ (s : State) (src : Src) (w : Word) (role : Role), Accepts s (src.auth role) .SUP_CTL 0 0 w ∧ SUP_CTL.WARM.bit w = true) ∧
    (∃ (s : State) (src : Src) (w : Word), Accepts s src.plain .CAL_RET_CTL 0 0 w ∧ CAL_RET_CTL.COMMIT.bit w = true ∧ CAL_RET_CTL.DISCARD.bit w = false ∧ 4 ≤ CAL_RET_CTL.COMMIT_INT.of w) ∧
    (∃ (s : State) (src : Src) (w : Word) (role : Role), Accepts s (src.auth role) .CAL_RET_CTL 0 0 w ∧ CAL_RET_CTL.DISCARD.bit w = true ∧ CAL_RET_CTL.COMMIT.bit w = false ∧ 4 ≤ CAL_RET_CTL.COMMIT_INT.of w) ∧
    (∃ (s : State) (src : Src) (w : Word) (role : Role) (ofs : Nat), Accepts { s with dev := s.dev.atOfs ofs } (src.auth role) .SUP_HO_CTL 0 0 w ∧ SUP_HO_CTL.GO.bit w = true ∧ (pairIn s.dev .ready).isSome = true ∧ s.dev.sup.pend = false) ∧
    (∃ (s : State) (src : Src) (w : Word), Accepts s src.plain .SUP_AUTH_CTL 0 0 w ∧ SUP_AUTH_CTL.OPEN.bit w = true ∧ SUP_AUTH_CTL.SUBMIT.bit w = false ∧ SUP_AUTH_CTL.ABORT.bit w = false ∧ 1 ≤ SUP_AUTH_CTL.LEN.of w ∧ SUP_AUTH_CTL.LEN.of w ≤ 160 ∧ s.dev.authBlocks = 0 ∧ s.dev.auth.submit = none) ∧
    (∃ (s : State) (src : Src) (w : Word), Accepts s src.plain .SUP_AUTH_CTL 0 0 w ∧ SUP_AUTH_CTL.OPEN.bit w = false ∧ SUP_AUTH_CTL.SUBMIT.bit w = false ∧ SUP_AUTH_CTL.ABORT.bit w = true ∧ s.dev.auth.submit = none) :=
  ⟨⟨run0, spi, RegName.THM_CFG.resetWord 0 0, by unfold Accepts Reaches Unrefused Running; decide +kernel⟩,
   ⟨run0, spi, PWR_CTL.SLEEP.into 1 0#32, by unfold Accepts Reaches Unrefused Running; decide +kernel⟩,
   ⟨run0, spi, SUP_CTL.WARM.into 1 0#32, .operator, by unfold Accepts Reaches Unrefused Running; decide +kernel⟩,
   ⟨run0, spi, CAL_RET_CTL.COMMIT.into 1 0x4#32, by unfold Accepts Reaches Unrefused Running; decide +kernel⟩,
   ⟨run0, spi, CAL_RET_CTL.DISCARD.into 1 0x4#32, .operator, by unfold Accepts Reaches Unrefused Running; decide +kernel⟩,
   ⟨run0, spi, SUP_HO_CTL.GO.into 1 0#32, .factory, 0, by unfold Accepts Reaches Unrefused Running; decide +kernel⟩,
   ⟨run0, spi, SUP_AUTH_CTL.OPEN.into 1 (SUP_AUTH_CTL.LEN.into 160 0#32), by unfold Accepts Reaches Unrefused Running; decide +kernel⟩,
   ⟨run0, spi, SUP_AUTH_CTL.ABORT.into 1 0#32, by unfold Accepts Reaches Unrefused Running; decide +kernel⟩⟩

theorem witness_TowWrites :
    (∃ (s : State) (src : Src) (w : Word), Accepts s src.plain .TOW_HEAD_CTL 0 0 w ∧ TOW_HEAD_CTL.ENUM.bit w = true) ∧
    (∃ (s : State) (src : Src) (w : Word), Accepts s src.plain .TOW_HEAD_PROM 0 0 w ∧ TOW_HEAD_PROM.GO.bit w = true) ∧
    (∃ (s : State) (src : Src) (w : Word), Accepts s src.plain .TOW_HEAD_MBX 0 0 w ∧ TOW_HEAD_MBX.SEND.bit w = true ∧ TOW_HEAD_MBX.POP.bit w = false) ∧
    (∃ (s : State) (src : Src) (w : Word), Accepts s src.plain .TOW_HEAD_MBX 0 0 w ∧ TOW_HEAD_MBX.SEND.bit w = false ∧ TOW_HEAD_MBX.POP.bit w = true) ∧
    (∃ (s : State) (src : Src) (w : Word) (ofs : Nat), Accepts { s with dev := s.dev.atOfs ofs } src.plain .TOW_TIME_SET_GO 0 0 w ∧ TOW_TIME_SET_GO.GO.bit w = true) ∧
    (∃ (s : State) (src : Src) (w : Word), Accepts s src.plain .TOW_PAIR_CTL 0 0 w ∧ TOW_PAIR_CTL.REL.bit w = true) :=
  ⟨⟨{ run0 with dev := head0 }, spi, TOW_HEAD_CTL.ENUM.into 1 0#32, by unfold Accepts Reaches Unrefused Running; decide +kernel⟩,
   ⟨{ run0 with dev := head0 }, spi, TOW_HEAD_PROM.GO.into 1 0#32, by unfold Accepts Reaches Unrefused Running; decide +kernel⟩,
   ⟨{ run0 with dev := head0 }, spi, TOW_HEAD_MBX.SEND.into 1 0#32, by unfold Accepts Reaches Unrefused Running; decide +kernel⟩,
   ⟨{ run0 with dev := head0 }, spi, TOW_HEAD_MBX.POP.into 1 0#32, by unfold Accepts Reaches Unrefused Running; decide +kernel⟩,
   ⟨{ run0 with dev := head0 }, spi, TOW_TIME_SET_GO.GO.into 1 0#32, 0, by unfold Accepts Reaches Unrefused Running; decide +kernel⟩,
   ⟨run0, spi, TOW_PAIR_CTL.REL.into 1 0#32, by unfold Accepts Reaches Unrefused Running; decide +kernel⟩⟩

theorem witness_JtagPort :
    (∃ (s : State), s.dev.pwr.inReset = true) ∧
    (∃ (s : State) (pins : _), s.dev.pwr.inReset = true ∧ scanLevel pins (.strap 4) = false) ∧
    (∃ (s : State) (code : Fin 16) (tdi : TapIn), bypassCode s.dev tdi.testMode code.val = true) ∧
    (∃ (s : State) (x : ScanIn), scanOpen s.dev x.testMode = false) ∧
    (∃ (s : State) (pins : _), scanOpen s.dev (scanLevel pins (.strap 4)) = false) ∧
    (∃ (s : State), accessOpen s.dev = true ∧ s.dev.jtag.acc = none) ∧
    (∃ (s : State), accessOpen s.dev = true ∧ s.dev.jtag.acc.isSome = true) ∧
    (∃ (s : State), accessOpen s.dev = true) ∧
    (∃ (s : State) (a : _) (w : _), Running s ∧ s.dev.jtag.acc = some (true, a, w)) ∧
    (∃ (s : State) (a : _), Running s ∧ s.dev.jtag.acc = some (false, a, 0#32) ∧ a % 4 = 0) ∧
    (∃ (s : State) (a : _), Running s ∧ s.dev.jtag.acc = some (false, a, 0#32) ∧ a % 4 ≠ 0) :=
  ⟨⟨{ run0 with dev := { dev0 with pwr := { dev0.pwr with inReset := true } } }, by decide +kernel⟩,
   ⟨{ run0 with dev := { dev0 with pwr := { dev0.pwr with inReset := true } } }, [], by decide +kernel⟩,
   ⟨run0, 15, { tdi := true }, by decide +kernel⟩,
   ⟨run0, { cells := [], testMode := false }, by decide +kernel⟩,
   ⟨run0, [], by decide +kernel⟩,
   ⟨run0, by decide +kernel⟩,
   ⟨on fun d => { d with jtag := { d.jtag with acc := some (true, 16777215, 0#32) } }, by decide +kernel⟩,
   ⟨run0, by decide +kernel⟩,
   ⟨on fun d => { d with jtag := { d.jtag with acc := some (true, 16777215, 0#32) } }, 16777215, 0#32, by unfold Running; decide +kernel⟩,
   ⟨on fun d => { d with jtag := { d.jtag with acc := some (false, 16777212, 0#32) } }, 16777212, by unfold Running; decide +kernel⟩,
   ⟨on fun d => { d with jtag := { d.jtag with acc := some (false, 16777215, 0#32) } }, 16777215, by unfold Running; decide +kernel⟩⟩

theorem witness_ReadsChangeNothingElse :
    (∃ (e : Env) (d : Dev) (a : Nat), a % 4 = 0 ∧ occupant e d a = none) ∧
    (∃ (e : Env) (d : Dev) (a : Nat) (r : _), a % 4 = 0 ∧ occupant e d a = some r) ∧
    (∃ (e : Env) (d : Dev) (a : Nat) (r : _), a % 4 = 0 ∧ occupant e d a = some r ∧ r.name = .LDG_OPT_LO) ∧
    (∃ (e : Env) (d : Dev) (a : Nat) (r : _), a % 4 = 0 ∧ occupant e d a = some r ∧ r.name = .TOW_TIME_LO) ∧
    (∃ (e : Env) (d : Dev) (a : Nat) (r : _), a % 4 = 0 ∧ occupant e d a = some r ∧ r.name = .SYN_RFFE_RD) ∧
    (∃ (e : Env) (d : Dev) (a : Nat) (r : _), a % 4 = 0 ∧ occupant e d a = some r ∧ r.name = .POOL_CAP_WIN) ∧
    (∃ (e : Env) (d : Dev) (a : Nat) (r : _), a % 4 = 0 ∧ occupant e d a = some r ∧ r.name ≠ .LDG_OPT_LO ∧ r.name ≠ .TOW_TIME_LO ∧ r.name ≠ .SYN_RFFE_RD ∧ r.name ≠ .POOL_CAP_WIN) :=
  ⟨⟨{}, dev0, 16777212, by decide +kernel⟩,
   ⟨{}, dev0, RegName.LOOP_SP.addr 255 0, ⟨.LOOP_SP, 255, 0⟩, by decide +kernel⟩,
   ⟨{}, dev0, RegName.LDG_OPT_LO.addr 0 0, ⟨.LDG_OPT_LO, 0, 0⟩, by decide +kernel⟩,
   ⟨{}, dev0, RegName.TOW_TIME_LO.addr 0 0, ⟨.TOW_TIME_LO, 0, 0⟩, by decide +kernel⟩,
   ⟨{}, dev0, RegName.SYN_RFFE_RD.addr 3 0, ⟨.SYN_RFFE_RD, 3, 0⟩, by decide +kernel⟩,
   ⟨{}, dev0, RegName.POOL_CAP_WIN.addr 0 0, ⟨.POOL_CAP_WIN, 0, 0⟩, by decide +kernel⟩,
   ⟨{}, dev0, RegName.SLC_COEF_A.addr 191 63, ⟨.SLC_COEF_A, 191, 63⟩, by decide +kernel⟩⟩

theorem witness_ReadsAndSpi :
    (∃ (s : State) (a : Word), Running s ∧ a.toNat % 4 = 0 ∧ occupant s.env s.dev a.toNat = none) ∧
    (∃ (s : State), Running s ∧ occupant s.env s.dev (RegName.LDG_OPT_LO.addr 0 0) = some ⟨.LDG_OPT_LO, 0, 0⟩) ∧
    (∃ (s : State) (ofs : Nat), Running s ∧ occupant s.env (s.dev.atOfs ofs) (RegName.TOW_TIME_LO.addr 0 0) = some ⟨.TOW_TIME_LO, 0, 0⟩) ∧
    (∃ (s : State) (cmd : Word), Running s ∧ spiRd cmd = false ∧ spiAddr cmd % 4 = 0) ∧
    (∃ (s : State) (cmd : Word), Running s ∧ spiRd cmd = true ∧ spiAddr cmd % 4 = 0 ∧ handoverHolds s.dev = false ∧ firmwareUp s.dev = true) ∧
    (∃ (s : State) (cmd : Word), Running s ∧ spiRd cmd = true ∧ spiAddr cmd % 4 = 0 ∧ handoverHolds s.dev = false ∧ firmwareUp s.dev = false) ∧
    (∃ (s : State) (cmd : Word), Running s ∧ spiRd cmd = true ∧ spiAddr cmd % 4 = 0 ∧ handoverHolds s.dev = true) :=
  ⟨⟨run0, 0xFFFFFFFC#32, by unfold Running; decide +kernel⟩,
   ⟨run0, by unfold Running; decide +kernel⟩,
   ⟨run0, 15359, by unfold Running; decide +kernel⟩,
   ⟨run0, 0x00FFFFFC#32, by unfold Running; decide +kernel⟩,
   ⟨run0, 0x80000000#32, by unfold Running; decide +kernel⟩,
   ⟨{ run0 with dev := { dev0 with boot := { phase := .rom } } }, 0x80000000#32, by unfold Running; decide +kernel⟩,
   ⟨on fun d => d.modSup fun x => { x with waitBeat := some true }, 0x80000000#32, by unfold Running; decide +kernel⟩⟩

theorem witness_TimeSources :
    (∃ (s : State), Running s ∧ s.dev.src.open_ = true) ∧
    (∃ (s : State) (code : Fin 5) (t : _), Running s ∧ s.dev.src.since.lookup code.val = some t ∧ ftRevert s.dev ≠ 0 ∧ s.dev.src.active ≠ 0 ∧ rankOf s.dev code.val < rankOf s.dev s.dev.src.active ∧ srcValid s.dev code.val = true ∧ t + ftRevert s.dev * 800 ≤ s.dev.clk.periods) ∧
    (∃ (s : State), Running s ∧ (stepDue s.dev).isSome = true) ∧
    (∃ (s : State) (n : Fin 8) (nid : Fin 3) (st : _) (ofs : Nat), Running s ∧ tdWorks s.dev n.val = true ∧ (s.dev.det n.val).lock = true ∧ (s.dev.det n.val).nid = nid.val ∧ s.dev.get SYN_TD_CFG.NID2 n.val = 3 ∧ ((s.dev.det n.val).warm || st) = true ∧ tdSpaced (s.dev.det n.val).last (coreNow (s.dev.atOfs ofs)) = true) ∧
    (∃ (s : State) (n : Fin 8), Running s ∧ tdExpects s.dev n.val = true ∧ (s.dev.det n.val).missRun < 3) ∧
    (∃ (s : State) (n : Fin 8), Running s ∧ tdExpects s.dev n.val = true ∧ (s.dev.det n.val).missRun = 3) :=
  ⟨⟨on fun d => { d with src := { d.src with open_ := true } }, by unfold Running; decide +kernel⟩,
   ⟨on fun d => { d with src := { d.src with fs := { valid := true, run := 3, last := some 0 }, since := [(2, 0)], active := 3 }, clk := { d.clk with periods := 8000 } }, 2, 0, by unfold Running; decide +kernel⟩,
   ⟨on fun d => { d with src := { d.src with step := some 15359 } }, by unfold Running; decide +kernel⟩,
   ⟨on fun d => { (((d.put SYN_TD_CFG.EN 7 1).put SYN_TD_CFG.NID2 7 3).setSlice 0 { st := .active }).setDet 7 { lock := true, nid := 2, warm := true, last := 0 } with clk := { d.clk with core := 4915200 } }, 7, 2, false, 0, by unfold Running; decide +kernel⟩,
   ⟨on fun d => (((d.put SYN_TD_CFG.EN 7 1).setSlice 0 { st := .active }).setDet 7 { lock := true, missRun := 2 }), 7, by unfold Running; decide +kernel⟩,
   ⟨on fun d => (((d.put SYN_TD_CFG.EN 7 1).setSlice 0 { st := .draining }).setDet 7 { lock := true, missRun := 3 }), 7, by unfold Running; decide +kernel⟩⟩

theorem witness_FrameSyncValidity :
    (∃ (x : Edge) (t now : Nat), x.last = some t ∧ x.run ≤ 3 ∧ fsConforms (now - t) = true) ∧
    (∃ (x : Edge) (t now : Nat), x.last = some t ∧ x.run ≤ 3 ∧ fsConforms (now - t) = false ∧ x.valid = true) ∧
    (∃ (x : Edge) (t now : Nat), x.last = some t ∧ x.run ≤ 3 ∧ fsConforms (now - t) = false ∧ x.valid = false) ∧
    (∃ (x : Edge) (t n k : Nat), x.last = some t ∧ x.run ≤ 3 ∧ 1 ≤ n ∧ n ≤ 100 ∧ k ≤ 64) ∧
    (∃ (x : Edge) (t k : Nat), x.last = some t ∧ x.run ≤ 3 ∧ 64 < k ∧ k < 4915200) :=
  ⟨⟨{ run := 3, last := some 5 }, 5, 5 + 983040064, by decide⟩, ⟨{ run := 3, valid := true, last := some 5 }, 5, 70, by decide⟩,
   ⟨{ last := some 5 }, 5, 5, by decide⟩, ⟨{ last := some 5 }, 5, 100, 64, by decide⟩, ⟨{ last := some 5 }, 5, 65, by decide⟩⟩

theorem witness_GroupSteps :
    (∃ (s : State) (g : Fin 2), Running s ∧ (s.dev.group g.val).phase = .draining ∧ (s.dev.group g.val).reversing = false) ∧
    (∃ (s : State) (g : Fin 2), Running s ∧ (s.dev.group g.val).phase = .offing) ∧
    (∃ (s : State) (g : Fin 2), Running s ∧ (s.dev.group g.val).phase = .moving ∧ (s.dev.group g.val).step ≠ .synth) ∧
    (∃ (s : State) (g : Fin 2), Running s ∧ (s.dev.group g.val).txWait = true) ∧
    (∃ (s : State) (g : Fin 2), Running s ∧ (s.dev.group g.val).nominal = true ∧ (s.dev.group g.val).state = .standby ∧ (s.dev.synth (rxSyn g.val)).lock = false) :=
  ⟨⟨on fun d => d.setGroup 1 { phase := .draining }, 1, by unfold Running; decide +kernel⟩,
   ⟨on fun d => d.setGroup 1 { phase := .offing }, 1, by unfold Running; decide +kernel⟩,
   ⟨on fun d => d.setGroup 1 { phase := .moving, step := .duplex }, 1, by unfold Running; decide +kernel⟩,
   ⟨on fun d => d.setGroup 1 { txWait := true }, 1, by unfold Running; decide +kernel⟩,
   ⟨on fun d => d.setGroup 1 { nominal := true, state := .standby }, 1, by unfold Running; decide +kernel⟩⟩

theorem witness_SynthesiserLock :
    (∃ (s : State) (n : Fin 4), Running s ∧ (s.dev.synth n.val).on = true ∧ (s.dev.synth n.val).lock = false) ∧
    (∃ (s : State) (n : Fin 4), Running s ∧ (s.dev.synth n.val).lock = true ∧ (s.dev.group (n.val / 2)).state.code < 2) ∧
    (∃ (s : State) (n : Fin 4), Running s ∧ (s.dev.synth n.val).lock = true ∧ 2 ≤ (s.dev.group (n.val / 2)).state.code) ∧
    (∃ (s : State) (n : Fin 4), Running s ∧ (s.dev.synth n.val).retune = true ∧ (s.dev.synth n.val).lock = false) :=
  ⟨⟨on fun d => d.setSynth 3 { on := true }, 3, by unfold Running; decide +kernel⟩,
   ⟨on fun d => d.setSynth 3 { lock := true }, 3, by unfold Running; decide +kernel⟩,
   ⟨on fun d => (d.setSynth 3 { lock := true }).setGroup 1 { state := .synth }, 3, by unfold Running; decide +kernel⟩,
   ⟨on fun d => d.setSynth 3 { retune := true }, 3, by unfold Running; decide +kernel⟩⟩

theorem witness_RffeReads :
    (∃ (s : State) (m : Fin 4) (c : _), Running s ∧ (s.dev.rffeM m.val).bus = some c ∧ c.typ = 3) ∧
    (∃ (s : State) (m : Fin 4), Running s ∧ occupant s.env s.dev (RegName.SYN_RFFE_RD.addr m.val 0) = some ⟨.SYN_RFFE_RD, m.val, 0⟩) :=
  ⟨⟨on fun d => d.setRffe 3 { bus := some { typ := 3, usid := 15, addr := 255, data := [] } }, 3, { typ := 3, usid := 15, addr := 255, data := [] }, by unfold Running; decide +kernel⟩,
   ⟨run0, 3, by unfold Running; decide +kernel⟩⟩

theorem witness_RffeBusAndPins :
    (∃ (s : State) (m : Fin 4) (ofs : Nat) (c : _), Running s ∧ rffePick (s.dev.atOfs ofs) m.val = .fifo c) ∧
    (∃ (s : State) (m : Fin 4) (ofs : Nat) (x : _) (late : _), Running s ∧ rffePick (s.dev.atOfs ofs) m.val = .timed x late) ∧
    (∃ (s : State) (m : Fin 4) (c : _), Running s ∧ (s.dev.rffeM m.val).bus = some c ∧ c.typ ≠ 3) ∧
    (∃ (s : State) (n : Fin 32) (b : _) (rest : _), Running s ∧ (s.dev.pin n.val).edges = b :: rest ∧ (s.dev.pin n.val).hold = []) :=
  ⟨⟨on fun d => (d.put SYN_RFFE_CFG.EN 3 1).setRffe 3 { fifo := [{ typ := 0, usid := 15, addr := 255, data := [] }] }, 3, 0, { typ := 0, usid := 15, addr := 255, data := [] }, by unfold Running; decide +kernel⟩,
   ⟨on fun d => (d.put SYN_RFFE_CFG.EN 3 1).setRffe 3 { timed := [{ cmd := { typ := 0, usid := 15, addr := 255, data := [] }, at_ := 0, ord := 0, act := none }] }, 3, 0, { cmd := { typ := 0, usid := 15, addr := 255, data := [] }, at_ := 0, ord := 0, act := none }, 0, by unfold Running; decide +kernel⟩,
   ⟨on fun d => d.setRffe 3 { bus := some { typ := 2, usid := 15, addr := 255, data := [] } }, 3, { typ := 2, usid := 15, addr := 255, data := [] }, by unfold Running; decide +kernel⟩,
   ⟨on fun d => d.setPin 31 { edges := [true, false] }, 31, true, [false], by unfold Running; decide +kernel⟩⟩

theorem witness_CalibrationSteps :
    (∃ (s : State), Running s ∧ s.dev.cal.now = some .orxSelf) ∧
    (∃ (s : State) (c : Fin 8), Running s ∧ s.dev.cal.now = some (.tx c.val)) ∧
    (∃ (s : State) (c : Fin 8), Running s ∧ s.dev.cal.now = some (.txFlat c.val)) ∧
    (∃ (s : State) (g : Fin 2), Running s ∧ (gcal s.dev g.val).run = true ∧ (gcal s.dev g.val).rxFlat = false) ∧
    (∃ (s : State) (g : Fin 2), Running s ∧ (gcal s.dev g.val).run = true ∧ (gcal s.dev g.val).rxFlat = true) ∧
    (∃ (s : State) (g : Fin 2), Running s ∧ (gcal s.dev g.val).pend = true ∧ orxBusyWith s.dev g.val = false ∧ 2 ≤ (s.dev.group g.val).state.code ∧ (s.dev.group g.val).held = false) ∧
    (∃ (s : State) (c : Fin 8), Running s ∧ bgMay s.dev .rxGap c.val = true) ∧
    (∃ (s : State) (b : _), Running s ∧ s.dev.cal.bg = some b) ∧
    (∃ (s : State) (j : _), Running s ∧ s.dev.ucalJob = some j ∧ 1 < j.left ∧ nvBarred s.dev = false ∧ s.dev.pwr.failed = false) ∧
    (∃ (s : State) (j : _), Running s ∧ s.dev.ucalJob = some j ∧ j.left ≤ 1 ∧ nvBarred s.dev = false ∧ s.dev.pwr.failed = false) :=
  ⟨⟨on fun d => { d with cal := { d.cal with now := some .orxSelf } }, by unfold Running; decide +kernel⟩,
   ⟨on fun d => { d with cal := { d.cal with now := some (.tx 7) } }, 7, by unfold Running; decide +kernel⟩,
   ⟨on fun d => { d with cal := { d.cal with now := some (.txFlat 7) } }, 7, by unfold Running; decide +kernel⟩,
   ⟨on fun d => (setGcal 1 { run := true } d), 1, by unfold Running; decide +kernel⟩,
   ⟨on fun d => (setGcal 1 { run := true, rxFlat := true } d), 1, by unfold Running; decide +kernel⟩,
   ⟨on fun d => (setGcal 1 { pend := true } d).setGroup 1 { state := .duplex }, 1, by unfold Running; decide +kernel⟩,
   ⟨on gap7, 7, by unfold Running; decide +kernel⟩,
   ⟨on fun d => { d with cal := { d.cal with bg := some (.txTrack, 7) } }, (.txTrack, 7), by unfold Running; decide +kernel⟩,
   ⟨on fun d => { d with ucalJob := some { image := {}, crc := 0, len := 4, left := 2, by_ := { origin := .spi } } }, { image := {}, crc := 0, len := 4, left := 2, by_ := { origin := .spi } }, by unfold Running; decide +kernel⟩,
   ⟨on fun d => { d with ucalJob := some { image := {}, crc := 0, len := 4, left := 1, by_ := { origin := .spi } } }, { image := {}, crc := 0, len := 4, left := 1, by_ := { origin := .spi } }, by unfold Running; decide +kernel⟩⟩

theorem witness_SliceEvents :
    (∃ (s : State) (n : Fin 192), Running s ∧ ((s.dev.slice n.val).mute = .closed ∨ (s.dev.slice n.val).suppressed = true ∨ (s.dev.psl n.val).mutes ≠ [])) ∧
    (∃ (s : State) (c : Fin 8), Running s ∧ (s.dev.thm.sd = true ∨ dirOpen s.dev (txUl c.val) = false ∨ calGate s.dev c.val = false ∨ lockGate s.dev (c.val / 4) = false ∨ pairGate s.dev = false)) ∧
    (∃ (s : State) (n : Fin 192) (pw : Rat) (ofs : Nat), Running s ∧ (s.dev.slice n.val).st = .active ∧ presenceSignal (s.dev.atOfs ofs) n.val pw = false) ∧
    (∃ (s : State) (n : Fin 192) (pw : Rat) (ofs : Nat), Running s ∧ (s.dev.slice n.val).st = .active ∧ presenceSignal (s.dev.atOfs ofs) n.val pw = true) ∧
    (∃ (s : State) (n : Fin 192), Running s ∧ (s.dev.slice n.val).pres = false ∧ (s.dev.slice n.val).mute = .open_) ∧
    (∃ (s : State) (n : Fin 192), Running s ∧ (s.dev.slice n.val).mute = .opening) ∧
    (∃ (s : State) (n : Fin 192), Running s ∧ (s.dev.slice n.val).mute = .closing) ∧
    (∃ (s : State) (n : Fin 192), Running s ∧ (s.dev.slice n.val).st = .draining ∧ (s.dev.slice n.val).forShed = false) ∧
    (∃ (s : State) (n : Fin 192), Running s ∧ (s.dev.slice n.val).st = .draining ∧ (s.dev.slice n.val).forShed = true ∧ enabled s.dev n.val = true) ∧
    (∃ (s : State) (n : Fin 192) (ofs : Nat), Running s ∧ (s.dev.slice n.val).st = .settling ∧ (s.dev.slice n.val).await = .counting ∧ setOk (s.dev.atOfs ofs) (msetOf (s.dev.atOfs ofs) n.val) = true ∧ rangeOk s.env (s.dev.atOfs ofs) (isUl (s.dev.atOfs ofs) n.val) (s.dev.slice n.val).eff = true) ∧
    (∃ (s : State) (n : Fin 192) (len : _), Running s ∧ (s.dev.slice n.val).gz.fade = some len ∧ (s.dev.slice n.val).gz.pend = none) ∧
    (∃ (s : State) (n : Fin 192) (len : _) (next : _), Running s ∧ (s.dev.slice n.val).gz.fade = some len ∧ (s.dev.slice n.val).gz.pend = some next) :=
  ⟨⟨on fun d => d.setSlice 191 { mute := .closed }, 191, by unfold Running; decide +kernel⟩,
   ⟨on fun d => { d with thm := { d.thm with sd := true } }, 7, by unfold Running; decide +kernel⟩,
   ⟨on fun d => d.setSlice 191 { st := .active }, 191, 0, 0, by unfold Running; decide +kernel⟩,
   ⟨on fun d => (((d.setGroup 0 { state := .rx }).put SYN_GRP_CTL.RX_MASK 0 1).setRxChain 0 { cal := .done }).setSlice 191 { st := .active }, 191, 1000000, 0, by unfold Running; decide +kernel⟩,
   ⟨on fun d => d.setSlice 191 { mute := .open_ }, 191, by unfold Running; decide +kernel⟩,
   ⟨on fun d => d.setSlice 191 { mute := .opening }, 191, by unfold Running; decide +kernel⟩,
   ⟨on fun d => d.setSlice 191 { mute := .closing }, 191, by unfold Running; decide +kernel⟩,
   ⟨on fun d => d.setSlice 191 { st := .draining }, 191, by unfold Running; decide +kernel⟩,
   ⟨on fun d => (d.setSlice 191 { st := .draining, forShed := true }).put SLC_CTL.EN 191 1, 191, by unfold Running; decide +kernel⟩,
   ⟨onFix fun d => (ready191 d).setSlice 191 { st := .settling, await := .counting, eff := { cls := 4, sink := 4 } }, 191, 15359, by unfold Running; decide +kernel⟩,
   ⟨on fun d => d.setSlice 191 { gz := { fade := some 4096 } }, 191, 4096, by unfold Running; decide +kernel⟩,
   ⟨on fun d => d.setSlice 191 { gz := { fade := some 64, pend := some 4096 } }, 191, 64, 4096, by unfold Running; decide +kernel⟩⟩

theorem witness_ChecksAndCaptures :
    (∃ (s : State) (p : Fin 200) (n : _), Running s ∧ carriedBy s.dev p.val = some n) ∧
    (∃ (s : State), Running s ∧ s.dev.pool.cap.armed = true) ∧
    (∃ (s : State), Running s ∧ s.dev.pool.cap.running = true) ∧
    (∃ (s : State) (n : Fin 192), Running s ∧ (s.dev.canc n.val).st ≠ .off) :=
  ⟨⟨on fun d => d.setSlice 191 { st := .active, phys := some 199 }, 199, 191, by unfold Running; decide +kernel⟩,
   ⟨on fun d => { d with pool := { d.pool with cap := { armed := true } } }, by unfold Running; decide +kernel⟩,
   ⟨on fun d => { d with pool := { d.pool with cap := { running := true } } }, by unfold Running; decide +kernel⟩,
   ⟨on fun d => d.setCanc 191 { st := .frozen }, 191, by unfold Running; decide +kernel⟩⟩

theorem witness_ProbeLoopsStencils :
    (∃ (s : State) (k : _), Running s ∧ s.dev.flag CNL_PRB_CFG.AUTO = true ∧ s.dev.prb.run = none ∧ s.dev.get CNL_PRB_CTL.INTERVAL ≤ s.dev.prb.wait ∧ (List.range 192).find? (fun k => (s.dev.slice ((s.dev.prb.next + k) % 192)).st = .active) = some k) ∧
    (∃ (s : State) (r : _), Running s ∧ s.dev.prb.run = some r ∧ r.started = true ∧ s.dev.get CNL_PRB_CFG.DUR < r.frames ∧ 4 * r.good < r.bins) ∧
    (∃ (s : State) (p : Int) (r : _) (po : Int), Running s ∧ s.dev.prb.run = some r ∧ r.started = true ∧ r.dac = false ∧ s.dev.get CNL_PRB_CFG.DUR < r.frames ∧ r.bins ≤ 4 * r.good ∧ probeOut s.dev r p = some po) ∧
    (∃ (s : State) (px : Int) (r : _) (po : Int), Running s ∧ s.dev.prb.run = some r ∧ r.started = true ∧ r.dac = true ∧ s.dev.get CNL_PRB_CFG.DUR < r.frames ∧ r.bins ≤ 4 * r.good ∧ probeOut s.dev r px = some po) ∧
    (∃ (s : State), Running s ∧ s.dev.eng.due = true ∧ 16 < s.dev.eng.lutWords ∧ s.dev.eng.bulk = true ∧ loopsRun s.dev = true) ∧
    (∃ (s : State), Running s ∧ s.dev.eng.due = true) ∧
    (∃ (s : State) (i : Fin 256) (hi : _) (lo : _), Running s ∧ (s.dev.loop i.val).mode = .hold ∧ (s.dev.loop i.val).timeout = false ∧ s.dev.get LOOP_SUP.HOLD_TO i.val ≤ (s.dev.loop i.val).held ∧ (s.dev.loop i.val).lims = some (hi, lo) ∧ (s.dev.loop i.val).persists = true) ∧
    (∃ (s : State) (n : Fin 32), Running s ∧ (s.dev.stencil n.val).st = .wait ∧ s.dev.clk.cyc = 0 ∧ s.dev.clk.ofs = 0 ∧ s.dev.clk.frame % 2 = 0) ∧
    (∃ (s : State) (n : Fin 32), Running s ∧ (s.dev.stencil n.val).st = .relearn ∧ 64 ≤ (s.dev.stencil n.val).rlCnt) :=
  ⟨⟨on fun d => ((d.put CNL_PRB_CFG.AUTO 0 1).setSlice 0 { st := .active }).modPrb fun p => { p with next := 1, wait := 255 }, 191, by unfold Running; decide +kernel⟩,
   ⟨on fun d => d.modPrb fun p => { p with run := some { s := 191, dac := false, started := true, frames := 16, bins := 5, good := 1 } }, { s := 191, dac := false, started := true, frames := 16, bins := 5, good := 1 }, by unfold Running; decide +kernel⟩,
   ⟨on fun d => ((d.setRxChain 0 { cal := .done }).setTxChain 4 { cal := .done }).modPrb fun p => { p with run := some { s := 191, dac := false, started := true, frames := 16, bins := 8, good := 2 } }, 0, { s := 191, dac := false, started := true, frames := 16, bins := 8, good := 2 }, ((probeOut (((dev0.setRxChain 0 { cal := .done }).setTxChain 4 { cal := .done }).modPrb fun p => { p with run := some { s := 191, dac := false, started := true, frames := 16, bins := 8, good := 2 } }) { s := 191, dac := false, started := true, frames := 16, bins := 8, good := 2 } 0).getD 0), by and_intros <;> first | (unfold Running; decide +kernel) | decide +kernel⟩,
   ⟨on fun d => { d with prb := { d.prb with run := some {  s := 191, dac := true, started := true, frames := 16, bins := 8, good := 2  } } }, 0, { s := 191, dac := true, started := true, frames := 16, bins := 8, good := 2 }, 0, by unfold Running; decide +kernel⟩,
   ⟨on fun d => { (d.setLoop 255 { mode := .manual }) with eng := { d.eng with due := true, lutWords := 17, bulk := true } }, by unfold Running; decide +kernel⟩,
   ⟨on fun d => { d with eng := { d.eng with due := true } }, by unfold Running; decide +kernel⟩,
   ⟨on fun d => d.setLoop 255 { mode := .hold, held := 65535, lims := some (6000, -3000), persists := true }, 255, 6000, -3000, by unfold Running; decide +kernel⟩,
   ⟨on fun d => d.setStencil 31 { st := .wait }, 31, by unfold Running; decide +kernel⟩,
   ⟨on fun d => d.setStencil 31 { st := .relearn, rlCnt := 64 }, 31, by unfold Running; decide +kernel⟩⟩

theorem witness_LoopLimits :
    (∃ (e : Env) (i : Nat), 192 ≤ i ∧ i < 200 ∧ e.fix.isSome = true) ∧
    (∃ (e : Env) (i : Nat), 192 ≤ i ∧ i < 200 ∧ e.fix = none) ∧
    (∃ (i : Nat), 200 ≤ i) ∧
    (∃ (e : Env) (i : Nat), i < 192 ∧ e.fix = none) :=
  ⟨⟨{ fix := some fix0 }, 199, by decide +kernel⟩,
   ⟨{}, 192, by decide +kernel⟩,
   ⟨200, by decide +kernel⟩,
   ⟨{}, 191, by decide +kernel⟩⟩

theorem witness_CarveEvents :
    (∃ (s : State) (m : Fin 64) (ofs : Nat) (t : _), Running s ∧ nextEdge (s.dev.atOfs ofs) m.val = some t ∧ openBarred (s.dev.atOfs ofs) (templateEpoch (s.dev.atOfs ofs) m.val t) = false) ∧
    (∃ (s : State) (ofs : Nat), Running s ∧ (dueActs (s.dev.atOfs ofs)).length ≠ 0) ∧
    (∃ (s : State) (n : Fin 256) (k : Fin 192) (ofs : Nat) (x : _), Running s ∧ epochNum (s.dev.atOfs ofs) n.val = some x ∧ reportConfirms (s.dev.atOfs ofs) x k.val = true ∧ 0 ≤ ftAhead (ftNow (s.dev.atOfs ofs)) x.wClose) ∧
    (∃ (s : State) (n : Fin 256) (ofs : Nat) (x : _), Running s ∧ epochNum (s.dev.atOfs ofs) n.val = some x ∧ x.windowOpen = false ∧ x.windowShut = false ∧ ftAhead (ftNow (s.dev.atOfs ofs)) x.wOpen ≤ 0) ∧
    (∃ (s : State) (n : Fin 256) (ofs : Nat) (x : _), Running s ∧ epochNum (s.dev.atOfs ofs) n.val = some x ∧ x.windowShut = false ∧ x.confirmed = false ∧ ftAhead (ftNow (s.dev.atOfs ofs)) x.wClose ≤ 0 ∧ ((confirmers (s.dev.atOfs ofs) x).any (reportConfirms (s.dev.atOfs ofs) x) = false ∨ ftAhead (ftNow (s.dev.atOfs ofs)) x.wClose ≠ 0)) ∧
    (∃ (s : State) (n : Fin 256) (ofs : Nat) (x : _) (y : _), Running s ∧ epochNum (s.dev.atOfs ofs) n.val = some x ∧ (confirmers (s.dev.atOfs ofs) x).any (reportConfirms (s.dev.atOfs ofs) x) = true ∧ ftAhead (ftNow (s.dev.atOfs ofs)) x.wClose = 0 ∧ epochNum (confirm s.env x.ord (s.dev.atOfs ofs)) n.val = some y ∧ y.windowShut = false ∧ y.confirmed = true ∧ ftAhead (ftNow (confirm s.env x.ord (s.dev.atOfs ofs))) y.wClose ≤ 0) ∧
    (∃ (s : State) (n : Fin 256) (ofs : Nat) (x : _), Running s ∧ epochNum (s.dev.atOfs ofs) n.val = some x ∧ x.windowShut = false ∧ x.confirmed = true ∧ ftAhead (ftNow (s.dev.atOfs ofs)) x.wClose ≤ 0) :=
  ⟨⟨on fun d => (((tpl63 d).put CRV_CTL.EN 0 1).put CRV_TPL_AUX.FOFS 63 5000).setReg .CRV_TPL_CFG 63 0 (CRV_TPL_CFG.EN.into 1 (CRV_TPL_CFG.SRC.into 1 (CRV_TPL_CFG.FIRST.into 1023 0#32))), 63, 0, 5000, by unfold Running; decide +kernel⟩,
   ⟨on fun d => d.modCrv fun c => { c with epochs := [{ num := 255, ord := 1, tpl := none, confirmed := true, rise := true, setconf := false, cslice := 191, wOpen := 0, wClose := 0, fallN := 1, windowOpen := false, windowShut := false, acts := [{ target := .tgpio 31, xw := false, val := 1, inv := none, gated := false, time := 0, st := .pending, ord := 0 }] }] }, 0, by unfold Running; decide +kernel⟩,
   ⟨on fun d => ((d.modCrv fun c => { c with epochs := [{ num := 255, ord := 1, tpl := none, confirmed := false, rise := true, setconf := false, cslice := 191, wOpen := 0, wClose := 100, fallN := 1, windowOpen := true, windowShut := false, acts := [] }] }).setSlice 191 { st := .active, pres := true }), 255, 191, 0, { num := 255, ord := 1, tpl := none, confirmed := false, rise := true, setconf := false, cslice := 191, wOpen := 0, wClose := 100, fallN := 1, windowOpen := true, windowShut := false, acts := [] }, by unfold Running; decide +kernel⟩,
   ⟨on fun d => ((d.modCrv fun c => { c with epochs := [{ num := 255, ord := 1, tpl := none, confirmed := false, rise := true, setconf := false, cslice := 191, wOpen := 0, wClose := 100, fallN := 1, windowOpen := false, windowShut := false, acts := [] }] })), 255, 0, { num := 255, ord := 1, tpl := none, confirmed := false, rise := true, setconf := false, cslice := 191, wOpen := 0, wClose := 100, fallN := 1, windowOpen := false, windowShut := false, acts := [] }, by unfold Running; decide +kernel⟩,
   ⟨on fun d => ((d.modCrv fun c => { c with epochs := [{ num := 255, ord := 1, tpl := none, confirmed := false, rise := true, setconf := false, cslice := 191, wOpen := 0, wClose := 0, fallN := 1, windowOpen := true, windowShut := false, acts := [] }] })), 255, 0, { num := 255, ord := 1, tpl := none, confirmed := false, rise := true, setconf := false, cslice := 191, wOpen := 0, wClose := 0, fallN := 1, windowOpen := true, windowShut := false, acts := [] }, by unfold Running; decide +kernel⟩,
   ⟨on fun d => ((d.modCrv fun c => { c with epochs := [{ num := 255, ord := 1, tpl := none, confirmed := false, rise := true, setconf := false, cslice := 191, wOpen := 0, wClose := 0, fallN := 1, windowOpen := true, windowShut := false, acts := [{ target := .tgpio 31, xw := false, val := 1, inv := none, gated := false, time := 0, st := .executed, ord := 0 }] }] }).setSlice 191 { st := .active, pres := true }), 255, 0, { num := 255, ord := 1, tpl := none, confirmed := false, rise := true, setconf := false, cslice := 191, wOpen := 0, wClose := 0, fallN := 1, windowOpen := true, windowShut := false, acts := [{ target := .tgpio 31, xw := false, val := 1, inv := none, gated := false, time := 0, st := .executed, ord := 0 }] }, { num := 255, ord := 1, tpl := none, confirmed := true, rise := true, setconf := false, cslice := 191, wOpen := 0, wClose := 0, fallN := 1, windowOpen := true, windowShut := false, acts := [{ target := .tgpio 31, xw := false, val := 1, inv := none, gated := false, time := 0, st := .executed, ord := 0 }] }, by unfold Running; decide +kernel⟩,
   ⟨on fun d => ((d.modCrv fun c => { c with epochs := [{ num := 255, ord := 1, tpl := none, confirmed := true, rise := true, setconf := false, cslice := 191, wOpen := 0, wClose := 0, fallN := 1, windowOpen := true, windowShut := false, acts := [] }] })), 255, 0, { num := 255, ord := 1, tpl := none, confirmed := true, rise := true, setconf := false, cslice := 191, wOpen := 0, wClose := 0, fallN := 1, windowOpen := true, windowShut := false, acts := [] }, by unfold Running; decide +kernel⟩⟩

theorem witness_PatrolEvents :
    (∃ (s : State) (n : Fin 192), Running s ∧ trimmedBy s.dev n.val .osc = true ∧ (s.dev.psl n.val).onset = none ∧ s.dev.get PTL_TIME.OSC_REL ≤ (s.dev.psl n.val).oscFrames) ∧
    (∃ (s : State), Running s ∧ s.dev.get PTL_TIME.DLOSS_T ≠ 0 ∧ 80 * s.dev.get PTL_TIME.DLOSS_T ≤ s.dev.ptl.absent) ∧
    (∃ (s : State) (k : _), Running s ∧ s.dev.ptl.seg = none ∧ s.dev.get PTL_SWEEP.SWP_INT ≤ s.dev.ptl.swpAge ∧ s.dev.orx.owner ≠ .cal ∧ (List.range 8).find? (fun k => tapEligible s.dev ((s.dev.ptl.nextTap + k) % 8)) = some k ∧ (orxTake .sweep ((s.dev.ptl.nextTap + k) % 8) s.dev).2 = true) ∧
    (∃ (s : State) (c : Nat), Running s ∧ s.dev.ptl.seg = some c ∧ s.dev.ptl.segBad = true) ∧
    (∃ (s : State) (c : Nat) (f : _), Running s ∧ s.dev.ptl.seg = some c ∧ s.dev.ptl.segBad = false ∧ s.env.fix = some f) ∧
    (∃ (s : State) (c : Nat), Running s ∧ s.dev.ptl.seg = some c ∧ s.dev.ptl.segBad = false ∧ s.env.fix = none) ∧
    (∃ (s : State) (f : Fix) (d : Dev) (c : Nat) (bins : List Int), Running s ∧ sweepHot f d c bins = true ∧ 1 ≤ (d.pch c).emis) ∧
    (∃ (s : State) (f : Fix) (d : Dev) (c : Nat) (bins : List Int), Running s ∧ sweepHot f d c bins = true ∧ (d.pch c).emis = 0) ∧
    (∃ (s : State) (f : Fix) (d : Dev) (c : Nat) (bins : List Int), Running s ∧ sweepHot f d c bins = false) ∧
    (∃ (s : State), Running s ∧ s.dev.flag PTL_CFG.NS_AUTOREL = true) ∧
    (∃ (s : State), Running s ∧ s.dev.flag PTL_CFG.NS_AUTOREL = false) ∧
    (∃ (s : State), Running s ∧ s.dev.ptl.phase = .stopping ∧ stopDone s.dev = true ∧ s.dev.ptl.relPend = false) ∧
    (∃ (s : State), Running s ∧ s.dev.ptl.phase = .releasing ∧ ((List.range 48).all fun c => !((s.dev.chan c).st = .drive && slewing s.dev c)) = true) :=
  ⟨⟨on fun d => d.setPsl 191 { trims := [(.osc, 100)], oscFrames := 65535 }, 191, by unfold Running; decide +kernel⟩,
   ⟨on fun d => (d.put PTL_TIME.DLOSS_T 0 1).modPtl fun p => { p with absent := 80 }, by unfold Running; decide +kernel⟩,
   ⟨on fun d => ((((d.put SYN_GRP_CTL.TX_MASK 1 8).setGroup 1 { state := .tx }).setSynth 3 { lock := true }).modPtl fun p => { p with swpAge := 65535, nextTap := 7 }), 0, by unfold Running; decide +kernel⟩,
   ⟨on fun d => d.modPtl fun p => { p with seg := some 7, segBad := true }, 7, by unfold Running; decide +kernel⟩,
   ⟨onFix fun d => d.modPtl fun p => { p with seg := some 7, segBad := false }, 7, fix0, by unfold Running; decide +kernel⟩,
   ⟨on fun d => d.modPtl fun p => { p with seg := some 7, segBad := false }, 7, by unfold Running; decide +kernel⟩,
   ⟨run0, { fix0 with dl := [] }, dev0.setPch 7 { emis := 1 }, 7, (List.replicate 1024 0 ++ [1]), by unfold Running; decide +kernel⟩,
   ⟨run0, { fix0 with dl := [] }, dev0, 7, (List.replicate 1024 0 ++ [1]), by unfold Running; decide +kernel⟩,
   ⟨run0, { fix0 with dl := [] }, dev0, 7, [], by unfold Running; decide +kernel⟩,
   ⟨on fun d => d.put PTL_CFG.NS_AUTOREL 0 1, by unfold Running; decide +kernel⟩,
   ⟨on fun d => d.put PTL_CFG.NS_AUTOREL 0 0, by unfold Running; decide +kernel⟩,
   ⟨on fun d => d.modPtl fun p => { p with phase := .stopping, parkGo := true }, by unfold Running; decide +kernel⟩,
   ⟨on fun d => d.modPtl fun p => { p with phase := .releasing }, by unfold Running; decide +kernel⟩⟩

theorem witness_ThirdMuteStops :
    (∃ (ul : Bool) (c : DCause) (d : Dev), (c = .emis ∨ c = .cpwr) ∧ c ∉ dirCauses d ul ∧ 2 ≤ ((if ul then d.ptl.recentUl else d.ptl.recentDl).filter fun t => decide (d.clk.periods ≤ t + 480000)).length) :=
  ⟨true, .cpwr, { dev0 with ptl := { dev0.ptl with recentUl := [0, 0] } }, by decide +kernel⟩

theorem witness_FaultEvents :
    (∃ (s : State) (code : Fin 65536), Running s ∧ Ev.isIdentity code.val = true ∧ Ev.eventOnly code.val = true) ∧
    (∃ (s : State) (code : Fin 65536), Running s ∧ Ev.isIdentity code.val = true ∧ Ev.eventOnly code.val = false) ∧
    (∃ (s : State) (code : Fin 65536) (inst : Fin 256), Running s ∧ (code.val, inst.val) ∉ s.dev.flt.injected) ∧
    (∃ (s : State) (code : Fin 65536) (inst : Fin 256), Running s ∧ (code.val, inst.val) ∈ s.dev.flt.injected) ∧
    (∃ (s : State) (l : List (Fin 128)), Running s ∧ (runningIn_ s.dev (l.map (·.val))).length ≠ 0) ∧
    (∃ (s : State) (k : Nat) (sh : Shadow), Running s ∧ s.dev.flt.shadows[k]? = some sh ∧ sh.done = true) ∧
    (∃ (s : State), Running s ∧ aliveHeld s.dev = false ∧ s.dev.flt.beat = true) ∧
    (∃ (s : State), Running s ∧ aliveHeld s.dev = true) ∧
    (∃ (s : State), Running s ∧ aliveHeld s.dev = false ∧ s.dev.flt.beat = false) ∧
    (∃ (s : State), Running s ∧ s.dev.flt.hbArmed = true) ∧
    (∃ (s : State) (k : Nat) (x : Latch), Running s ∧ s.dev.flt.latch.lookup k = some x ∧ x.run = .runout ∧ supervised s.dev x = false) ∧
    (∃ (s : State) (k : Nat) (x : Latch), Running s ∧ s.dev.flt.latch.lookup k = some x ∧ x.run = .runout ∧ supervised s.dev x = true ∧ x.claimed = true) ∧
    (∃ (s : State) (k : Nat) (x : Latch), Running s ∧ s.dev.flt.latch.lookup k = some x ∧ x.run = .runout ∧ supervised s.dev x = true ∧ x.claimed = false) ∧
    (∃ (s : State) (k : Nat) (x : Latch), Running s ∧ s.dev.flt.latch.lookup k = some x ∧ x.run = .extension ∧ supervised s.dev x = true) ∧
    (∃ (s : State) (k : Nat) (x : Latch), Running s ∧ s.dev.flt.latch.lookup k = some x ∧ x.run = .extension ∧ supervised s.dev x = false) ∧
    (∃ (s : State) (k : Nat) (x : Latch), Running s ∧ s.dev.flt.latch.lookup k = some x ∧ x.run = .none) ∧
    (∃ (s : State) (k : Nat), Running s ∧ s.dev.flt.latch.lookup k = none) ∧
    (∃ (s : State) (k : Nat) (m : Nat) (x : Latch) (y : Latch), Running s ∧ s.dev.flt.latch.lookup k = some x ∧ s.dev.flt.latch.lookup m = some y ∧ x.run ≠ .none ∧ y.run ≠ .none ∧ escalates s.dev x = true ∧ escalates s.dev y = true ∧ x.cls = .device ∧ y.cls ≠ .device) ∧
    (∃ (s : State) (k : Nat) (m : Nat) (x : Latch) (y : Latch) (g : Nat) (n : Nat), Running s ∧ s.dev.flt.latch.lookup k = some x ∧ s.dev.flt.latch.lookup m = some y ∧ x.run ≠ .none ∧ y.run ≠ .none ∧ escalates s.dev x = true ∧ escalates s.dev y = true ∧ x.cls = .group ∧ y.cls = .slice ∧ groupOfFault s.dev x.code x.inst = some g ∧ sliceOfFault s.dev y.code y.inst = some n ∧ sliceOfGroup s.dev g n = true) ∧
    (∃ (s : State) (d : Dev), Running s ∧ d.flt.due.any (fun x => x.1 = .device) = true) ∧
    (∃ (s : State) (d : Dev) (code : _) (inst : _) (n : Nat) (g : Nat), Running s ∧ d.flt.due = [(.group, code, inst, n)] ∧ groupOfFault d code inst = some g) ∧
    (∃ (s : State) (d : Dev) (code : _) (inst : _) (n : Nat) (k : Nat), Running s ∧ d.flt.due = [(.slice, code, inst, n)] ∧ sliceOfFault d code inst = some k) :=
  ⟨⟨run0, ⟨Ev.FT_STEP, by decide⟩, by unfold Running; decide +kernel⟩,
   ⟨run0, ⟨Ev.THM_WARN, by decide⟩, by unfold Running; decide +kernel⟩,
   ⟨run0, ⟨Ev.THM_WARN, by decide⟩, 255, by unfold Running; decide +kernel⟩,
   ⟨on fun d => d.modFlt fun f => { f with injected := [(Ev.THM_WARN, 0)] }, ⟨Ev.THM_WARN, by decide⟩, 0, by unfold Running; decide +kernel⟩,
   ⟨on fun d => d.setLatch 127 ({ lat0 with live := true, run := .runout }), [127], by unfold Running; decide +kernel⟩,
   ⟨on fun d => d.modFlt fun f => { f with shadows := [{ by_ := .shed 0, parent := 1, done := true, inside := [] }] }, 0, { by_ := .shed 0, parent := 1, done := true, inside := [] }, by unfold Running; decide +kernel⟩,
   ⟨on fun d => d.modFlt fun f => { f with hbArmed := true, beat := true }, by unfold Running; decide +kernel⟩,
   ⟨run0, by unfold Running; decide +kernel⟩,
   ⟨on fun d => d.modFlt fun f => { f with hbArmed := true }, by unfold Running; decide +kernel⟩,
   ⟨on fun d => d.modFlt fun f => { f with hbArmed := true }, by unfold Running; decide +kernel⟩,
   ⟨on fun d => d.setLatch 127 { lat0 with run := .runout }, 127, { lat0 with run := .runout }, by unfold Running; decide +kernel⟩,
   ⟨on fun d => d.setLatch 127 { lat0 with live := true, run := .runout, claimed := true }, 127, { lat0 with live := true, run := .runout, claimed := true }, by unfold Running; decide +kernel⟩,
   ⟨on fun d => d.setLatch 127 { lat0 with live := true, run := .runout }, 127, { lat0 with live := true, run := .runout }, by unfold Running; decide +kernel⟩,
   ⟨on fun d => d.setLatch 127 { lat0 with live := true, run := .extension }, 127, { lat0 with live := true, run := .extension }, by unfold Running; decide +kernel⟩,
   ⟨on fun d => d.setLatch 127 { lat0 with run := .extension }, 127, { lat0 with run := .extension }, by unfold Running; decide +kernel⟩,
   ⟨on fun d => d.setLatch 127 { lat0 with live := true }, 127, { lat0 with live := true }, by unfold Running; decide +kernel⟩,
   ⟨run0, 127, by unfold Running; decide +kernel⟩,
   ⟨on fun d => (d.setLatch 127 ({ lat0 with live := true, run := .extension })).setLatch 0 { lat0 with code := Ev.LO_LOCK_FAIL, inst := 1, cls := .group, live := true, run := .runout }, 127, 0, { lat0 with live := true, run := .extension }, { lat0 with code := Ev.LO_LOCK_FAIL, inst := 1, cls := .group, live := true, run := .runout }, by unfold Running; decide +kernel⟩,
   ⟨on fun d => ((d.setLatch 127 { lat0 with code := Ev.LO_LOCK_FAIL, inst := 1, cls := .group, live := true, run := .runout }).setLatch 0 { lat0 with code := Ev.SLICE_CHECK, inst := 191, cls := .slice, live := true, run := .extension }).setReg .SLC_CFG0 191 0 (SLC_CFG0.SINK.into 4 0#32), 127, 0, { lat0 with code := Ev.LO_LOCK_FAIL, inst := 1, cls := .group, live := true, run := .runout }, { lat0 with code := Ev.SLICE_CHECK, inst := 191, cls := .slice, live := true, run := .extension }, 1, 191, by unfold Running; decide +kernel⟩,
   ⟨run0, dev0.modFlt fun f => { f with due := [(.device, Ev.THM_CRITICAL, 0, 1)] }, by unfold Running; decide +kernel⟩,
   ⟨run0, dev0.modFlt fun f => { f with due := [(.group, Ev.LO_LOCK_FAIL, 1, 1)] }, Ev.LO_LOCK_FAIL, 1, 1, 1, by unfold Running; decide +kernel⟩,
   ⟨run0, dev0.modFlt fun f => { f with due := [(.slice, Ev.SLICE_CHECK, 191, 1)] }, Ev.SLICE_CHECK, 191, 1, 191, by unfold Running; decide +kernel⟩⟩

theorem witness_BoundaryParts_records :
    (∃ s : State, Running s) ∧
    (∃ (x : Period) (d : Dev) (n : Nat) (m : SliceIn), ((d.slice n).st = .settling ∨ (d.slice n).st = .active ∨ (d.slice n).st = .draining) ∧
      (d.rxChain (effOf d n).src).fed = true ∧ x.slices.find? (fun m => m.s.val == n) = some m) ∧
    (∃ (d : Dev) (n : Nat), (d.slice n).st = .idle ∨ (d.slice n).st = .queued ∨ (d.slice n).st = .powering ∨ (d.slice n).st = .shed ∨
      (d.slice n).st = .failed) ∧
    (∃ (d : Dev) (n : Nat), n < 192 ∧ ((d.slice n).st = .settling ∨ (d.slice n).st = .active ∨ (d.slice n).st = .draining)) ∧
    (∃ (d : Dev) (n : Nat), n < 192 ∧ ((d.slice n).st = .idle ∨ (d.slice n).st = .queued ∨ (d.slice n).st = .powering ∨ (d.slice n).st = .shed ∨
      (d.slice n).st = .failed)) ∧
    (∃ (x : Period) (d : Dev) (c : Nat) (m : RxIn), (d.rxChain c).heard = true ∧ x.rx.find? (fun m => m.c.val == c) = some m) ∧
    (∃ (d : Dev) (c : Nat), (d.rxChain c).heard = false) ∧
    (∃ (d : Dev) (c q r : Nat) (y : Int) (a : Bool), d.eng.comp.lookup c = some (q, r, y, a) ∧ (d.txChain c).heard = false) :=
  ⟨⟨run0, rfl⟩,
   ⟨{ slices := [⟨191, 1, 1, 7, List.replicate 8 0⟩] }, (dev0.setSlice 191 { st := .draining }).setRxChain 0 { fed := true }, 191, ⟨191, 1, 1, 7, List.replicate 8 0⟩, by decide +kernel⟩,
   ⟨dev0.setSlice 191 { st := .failed }, 191, by decide +kernel⟩, ⟨dev0.setSlice 191 { st := .settling }, 191, by decide +kernel⟩,
   ⟨dev0.setSlice 191 { st := .shed }, 191, by decide +kernel⟩, ⟨{ rx := [⟨7, -9000, 5, 1, 2⟩] }, dev0.setRxChain 7 { heard := true }, 7, ⟨7, -9000, 5, 1, 2⟩, by decide +kernel⟩,
   ⟨dev0.setRxChain 7 { heard := false }, 7, by decide +kernel⟩,
   ⟨{ dev0.setTxChain 7 { heard := false } with eng := { dev0.eng with comp := [(7, 255, 1, -300, true)] } }, 7, 255, 1, -300, true, by decide +kernel⟩⟩

/-- Loop 255 in AUTO with a fresh record and limits 0 and 4,095. -/
def auto255 : Dev :=
  dev0.setLoop 255 { mode := .auto, rec_ := some { seq := 0, raw := 1, y := 5, valid := true, frz := false }, lastSeq := some 255, lims := some (4095, 0), computes := true }

theorem witness_BoundaryParts_loops :
    (∃ (d : Dev) (i : Nat) (r : LRec) (hi lo : Int), i < 256 ∧ (d.loop i).computes = true ∧ (d.loop i).mode = .auto ∧ (d.loop i).rec_ = some r ∧
      (d.loop i).lastSeq ≠ some r.seq ∧ (feed (d.loop i)).frzRun < 64 ∧ (d.loop i).lims = some (hi, lo)) ∧
    (∃ hi lo u : Int, lo ≤ hi ∧ 256 * lo ≤ u ∧ u ≤ 256 * hi) ∧ (∃ hi lo u corr : Int, lo ≤ hi ∧ 256 * hi ≤ u ∧ 0 < corr) ∧
    (∃ hi lo u corr : Int, lo ≤ hi ∧ u ≤ 256 * lo ∧ corr < 0) ∧ (∃ hi lo u : Int, lo ≤ hi ∧ 256 * lo < u ∧ u < 256 * hi) ∧
    (∃ (d : Dev) (i : Nat) (e16 : Int), 0 < d.get LOOP_CFG.ESTEP i ∧ d.flag LOOP_CFG.NEG i = false ∧ 2064384 * (d.get LOOP_CFG.ESTEP i : Int) ≤ e16) ∧
    (∃ (d : Dev) (i : Nat) (e16 : Int), 0 < d.get LOOP_CFG.ESTEP i ∧ d.flag LOOP_CFG.NEG i = false ∧ e16 ≤ -2064384 * (d.get LOOP_CFG.ESTEP i : Int)) ∧
    (∃ (d : Dev) (i : Nat) (v : Int), i < 256 ∧ (d.loop i).staged = some v) ∧
    (∃ (d : Dev) (i : Nat) (v hi lo : Int), i < 256 ∧ (d.loop i).staged = some v ∧ (d.loop i).lims = some (hi, lo) ∧ lo ≤ hi) ∧
    (∃ g : Glide, g.pos ≤ g.tgt * one16) ∧ (∃ g : Glide, g.tgt * one16 ≤ g.pos) :=
  ⟨⟨auto255, 255, { seq := 0, raw := 1, y := 5, valid := true, frz := false }, 4095, 0, by decide +kernel⟩, ⟨0, 0, 0, by decide⟩, ⟨0, 0, 0, 1, by decide⟩, ⟨0, 0, 0, -1, by decide⟩, ⟨1, 0, 1, by decide⟩,
   ⟨dev0.put LOOP_CFG.ESTEP 255 1, 255, 2064384, by decide +kernel⟩, ⟨dev0.put LOOP_CFG.ESTEP 255 1, 255, -2064384, by decide +kernel⟩,
   ⟨dev0.setLoop 255 { staged := some 4096 }, 255, 4096, by decide +kernel⟩,
   ⟨dev0.setLoop 255 { staged := some 4096, lims := some (4095, 4095) }, 255, 4096, 4095, 4095, by decide +kernel⟩,
   ⟨{ tgt := 1, pos := 65535 }, by decide⟩, ⟨{ tgt := 1, pos := 65537 }, by decide⟩⟩

theorem witness_BoundaryParts_canceller :
    (∃ (d : Dev) (n : Nat), n < 192 ∧ ((d.canc n).st = .acquire ∨ (d.canc n).st = .track) ∧ (d.canc n).acc.blocks = 0 ∧ (d.canc n).young = false) ∧
    (∃ (d : Dev) (n : Nat), n < 192 ∧ (d.canc n).acc.blocks = 0 ∧ (d.canc n).young = true) ∧
    (∃ (d : Dev) (n : Nat), n < 192 ∧ (d.canc n).st ≠ .off ∧ (refsUsed d n).isEmpty = false ∧ (d.canc n).measured = true) ∧
    (∃ (d : Dev) (n : Nat), n < 192 ∧ (d.canc n).st ≠ .off ∧ (refsUsed d n).isEmpty = true) :=
  ⟨⟨dev0.setCanc 191 { st := .track, young := false }, 191, by decide +kernel⟩, ⟨dev0.setCanc 191 { st := .acquire, young := true }, 191, by decide +kernel⟩,
   ⟨(ready191 dev0).setCanc 191 { st := .track, mask := 15, measured := true }, 191, by decide +kernel⟩,
   ⟨dev0.setCanc 191 { st := .frozen, mask := 0 }, 191, by decide +kernel⟩⟩

theorem witness_BoundaryParts_patrol :
    (∃ e : Env, e.fix.isSome = true) ∧
    (∃ (d : Dev) (b : Bool), d.get PTL_TIME.DLOSS_T ≠ 0 ∧ (b || d.slices.any fun p => !isUl d p.1 && p.2.meas.pres) = true) ∧
    (∃ d : Dev, (d.slices.any fun p => !isUl d p.1 && p.2.meas.pres) = false ∧ d.get PTL_TIME.DLOSS_T ≠ 0 ∧ d.get PTL_TIME.DLOSS_REL ≠ 0) ∧
    (∃ (e : Env) (d : Dev) (c q r : Nat) (y pmax : Int), d.eng.comp.lookup c = some (q, r, y, true) ∧ fixPower e c = some pmax ∧
      dirOpen d (txUl c) = true ∧ 300 < y - pmax) :=
  ⟨⟨{ run0.env with fix := some fix0 }, rfl⟩,
   ⟨(dev0.put PTL_TIME.DLOSS_T 0 1).setSlice 191 { meas := { pres := true } }, false, by decide +kernel⟩,
   ⟨(dev0.put PTL_TIME.DLOSS_T 0 1).put PTL_TIME.DLOSS_REL 0 1, by decide +kernel⟩,
   ⟨{ run0.env with fix := some fix0 }, { dev0 with eng := { dev0.eng with comp := [(7, 0, 0, 30301, true)] } }, 7, 0, 0, 30301, 30000, by decide +kernel⟩⟩

theorem witness_RecorderEvents :
    (∃ (s : State) (w : _), Running s ∧ s.dev.rcd.wr = some w) ∧
    (∃ (s : State) (w : _), Running s ∧ s.dev.rcd.wr = some w ∧ w.retried = false) ∧
    (∃ (s : State) (w : _), Running s ∧ s.dev.rcd.wr = some w ∧ w.retried = true) ∧
    (∃ (s : State) (l : _), Running s ∧ s.dev.rcd.clrBusy = .varnish :: l) ∧
    (∃ (s : State) (l : _), Running s ∧ s.dev.rcd.clrBusy = .palette :: l) :=
  ⟨⟨on fun d => d.modRcd fun r => { r with wr := some { stg := 0, area := .palette, slot := 0, image := rec0, rewrite := false, retried := false } }, { stg := 0, area := .palette, slot := 0, image := rec0, rewrite := false, retried := false }, by unfold Running; decide +kernel⟩,
   ⟨on fun d => d.modRcd fun r => { r with wr := some { stg := 0, area := .palette, slot := 0, image := rec0, rewrite := false, retried := false } }, { stg := 0, area := .palette, slot := 0, image := rec0, rewrite := false, retried := false }, by unfold Running; decide +kernel⟩,
   ⟨on fun d => d.modRcd fun r => { r with wr := some { stg := 0, area := .palette, slot := 0, image := rec0, rewrite := false, retried := true } }, { stg := 0, area := .palette, slot := 0, image := rec0, rewrite := false, retried := true }, by unfold Running; decide +kernel⟩,
   ⟨on fun d => d.modRcd fun r => { r with clrBusy := [.varnish] }, [], by unfold Running; decide +kernel⟩,
   ⟨on fun d => d.modRcd fun r => { r with clrBusy := [.palette] }, [], by unfold Running; decide +kernel⟩⟩

theorem witness_BdacEvents :
    (∃ (s : State) (c : Fin 48), Running s ∧ (s.dev.chan c.val).starting = true ∧ (s.dev.dom 71).phase = .on ∧ s.dev.flag BDAC_CFG.EN c.val = true ∧ chansLeave s.dev = false ∧ (s.dev.chan c.val).pcause = []) ∧
    (∃ (s : State) (c : Fin 48), Running s ∧ (s.dev.chan c.val).starting = true ∧ (s.dev.dom 71).phase = .on ∧ s.dev.flag BDAC_CFG.EN c.val = true ∧ chansLeave s.dev = false ∧ (s.dev.chan c.val).pcause ≠ []) ∧
    (∃ (s : State) (c : Fin 48), Running s ∧ (s.dev.chan c.val).starting = true ∧ (s.dev.dom 71).phase = .on ∧ s.dev.flag BDAC_CFG.EN c.val = false) ∧
    (∃ (s : State) (c : Fin 48), Running s ∧ (s.dev.chan c.val).st = .drive ∧ (s.dev.chan c.val).sineOn = false) ∧
    (∃ (s : State) (c : Fin 48), Running s ∧ (s.dev.chan c.val).st = .parking ∧ (s.dev.chan c.val).out = parkCode s.dev c.val ∧ (s.dev.chan c.val).chg = none ∧ s.dev.flag BDAC_CFG.EN c.val = true ∧ s.dev.pwr.sleep ≠ .entering ∧ (s.dev.chan c.val).pcause ≠ []) ∧
    (∃ (s : State) (c : Fin 48), Running s ∧ (s.dev.chan c.val).st = .parking ∧ (s.dev.chan c.val).out = parkCode s.dev c.val ∧ (s.dev.chan c.val).chg = none ∧ s.dev.flag BDAC_CFG.EN c.val = false) ∧
    (∃ (s : State) (c : Fin 48), Running s ∧ (s.dev.chan c.val).st = .offing ∧ (s.dev.chan c.val).queued = false) ∧
    (∃ (s : State) (c : Fin 48) (z : _), Running s ∧ (s.dev.chan c.val).st = .span ∧ (s.dev.chan c.val).chg = some z) ∧
    (∃ (s : State) (c : Fin 48), Running s ∧ (s.dev.chan c.val).sineOn = true ∧ (s.dev.chan c.val).sineStop = true) ∧
    (∃ (s : State) (c : Fin 48), Running s ∧ (s.dev.chan c.val).driven = true) ∧
    (∃ (s : State) (ofs : Nat), Running s ∧ s.dev.flag BDAC_TT_CTL.ARM = true ∧ timerTime s.dev ≤ towNow (s.dev.atOfs ofs)) :=
  ⟨⟨on fun d => ((d.setChan 47 { starting := true }).setDom 71 { phase := .on }).put BDAC_CFG.EN 47 1, 47, by unfold Running; decide +kernel⟩,
   ⟨on fun d => ((d.setChan 47 { starting := true, pcause := [.stop] }).setDom 71 { phase := .on }).put BDAC_CFG.EN 47 1, 47, by unfold Running; decide +kernel⟩,
   ⟨on fun d => ((d.setChan 47 { starting := true }).setDom 71 { phase := .on }).put BDAC_CFG.EN 47 0, 47, by unfold Running; decide +kernel⟩,
   ⟨on fun d => d.setChan 47 { st := .drive }, 47, by unfold Running; decide +kernel⟩,
   ⟨on fun d => (d.setChan 47 { st := .parking, pcause := [.stop] }).put BDAC_CFG.EN 47 1, 47, by unfold Running; decide +kernel⟩,
   ⟨on fun d => d.setChan 47 { st := .parking }, 47, by unfold Running; decide +kernel⟩,
   ⟨on fun d => d.setChan 47 { st := .offing }, 47, by unfold Running; decide +kernel⟩,
   ⟨on fun d => d.setChan 47 { st := .span, chg := some { span := 1, park := 0, code := 4095 } }, 47, { span := 1, park := 0, code := 4095 }, by unfold Running; decide +kernel⟩,
   ⟨on fun d => d.setChan 47 { sineOn := true, sineStop := true }, 47, by unfold Running; decide +kernel⟩,
   ⟨on fun d => d.setChan 47 { driven := true }, 47, by unfold Running; decide +kernel⟩,
   ⟨on fun d => d.put BDAC_TT_CTL.ARM 0 1, 0, by unfold Running; decide +kernel⟩⟩

theorem witness_HousekeepingAndDomains :
    (∃ (s : State), Running s ∧ s.dev.hk.slot ≤ 127) ∧
    (∃ (s : State) (n : Fin 72), Running s ∧ (s.dev.dom n.val).phase = .powering ∧ (s.dev.dom n.val).req = true) ∧
    (∃ (s : State) (n : Fin 72), Running s ∧ (s.dev.dom n.val).phase = .powering ∧ (s.dev.dom n.val).req = false) ∧
    (∃ (s : State) (n : Fin 72), Running s ∧ (s.dev.dom n.val).phase = .draining ∧ (s.dev.dom n.val).req = false) ∧
    (∃ (s : State) (n : Fin 72), Running s ∧ (s.dev.dom n.val).phase = .draining ∧ (s.dev.dom n.val).req = true) ∧
    (∃ (s : State) (n : Fin 72), Running s ∧ (s.dev.dom n.val).phase = .offing ∧ (s.dev.dom n.val).queued = false) ∧
    (∃ (s : State) (n : Fin 72), Running s ∧ (s.dev.dom n.val).phase = .powering) ∧
    (∃ (s : State) (n : Fin 192), Running s ∧ mayDoze s.dev n.val = true) :=
  ⟨⟨on fun d => { d with hk := { d.hk with slot := 127 } }, by unfold Running; decide +kernel⟩,
   ⟨on fun d => d.setDom 71 { phase := .powering, req := true }, 71, by unfold Running; decide +kernel⟩,
   ⟨on fun d => d.setDom 71 { phase := .powering, req := false }, 71, by unfold Running; decide +kernel⟩,
   ⟨on fun d => d.setDom 71 { phase := .draining, req := false }, 71, by unfold Running; decide +kernel⟩,
   ⟨on fun d => d.setDom 71 { phase := .draining, req := true }, 71, by unfold Running; decide +kernel⟩,
   ⟨on fun d => d.setDom 71 { phase := .offing, req := false }, 71, by unfold Running; decide +kernel⟩,
   ⟨on fun d => d.setDom 71 { phase := .powering, req := false }, 71, by unfold Running; decide +kernel⟩,
   ⟨on fun d => (d.put PWR_DOZE_CFG.EN 0 1).setSlice 191 { st := .active }, 191, by unfold Running; decide +kernel⟩⟩

theorem witness_SleepAndWake :
    (∃ (s : State), s.dev.pwr.sleep = .entering ∧ s.dev.pwr.stage = 2 ∧ domainsOff s.dev = true ∧ s.dev.ret.job = none ∧ s.dev.rcd.flushing = false) ∧
    (∃ (s : State), s.dev.pwr.sleep = .asleep ∧ s.dev.pwr.heldWake = none ∧ s.dev.flag LDG_WAKE_CFG.PIN_EN = true) ∧
    (∃ (s : State), s.dev.pwr.sleep = .asleep ∧ s.dev.pwr.heldWake = none ∧ s.dev.flag LDG_WAKE_CFG.TOW_EN = true) ∧
    (∃ (s : State), s.dev.pwr.sleep = .asleep ∧ s.dev.pwr.heldWake = none ∧ s.dev.get LDG_WAKE_TMR.SEC ≠ 0 ∧ s.dev.pwr.xtalOk = true) ∧
    (∃ (s : State) (c : _) (p : _), s.dev.pwr.sleep = .asleep ∧ s.dev.pwr.heldWake = some (c, p)) :=
  ⟨⟨on fun d => (d.modPwr fun p => { p with sleep := .entering, stage := 2 }), by decide +kernel⟩,
   ⟨on fun d => (d.modPwr fun p => { p with sleep := .asleep }).put LDG_WAKE_CFG.PIN_EN 0 1, by decide +kernel⟩,
   ⟨on fun d => (d.modPwr fun p => { p with sleep := .asleep }).put LDG_WAKE_CFG.TOW_EN 0 1, by decide +kernel⟩,
   ⟨on fun d => (d.modPwr fun p => { p with sleep := .asleep }).put LDG_WAKE_TMR.SEC 0 1, by decide +kernel⟩,
   ⟨on fun d => (d.modPwr fun p => { p with sleep := .asleep, heldWake := some (3, 0) }), 3, 0, by decide +kernel⟩⟩

theorem witness_ResetsAndStarts :
    (∃ (s : State), s.dev.pwr.mainEn = true) ∧
    (∃ (s : State), s.dev.pwr.mainEn = true ∧ s.dev.pwr.failed = false) ∧
    (∃ (s : State), s.dev.pwr.mainEn = true ∧ s.dev.pwr.pwrGood = true ∧ (s.dev.pwr.inReset || s.dev.boot.phase = .rom) = true) ∧
    (∃ (s : State), s.dev.boot.warmReq = true ∧ Running s) ∧
    (∃ (s : State), nvBarred s.dev = false) :=
  ⟨⟨run0, by decide +kernel⟩,
   ⟨run0, by decide +kernel⟩,
   ⟨{ run0 with dev := { dev0 with pwr := { dev0.pwr with inReset := true } } }, by decide +kernel⟩,
   ⟨on fun d => { d with boot := { d.boot with warmReq := true } }, by unfold Running; decide +kernel⟩,
   ⟨run0, by decide +kernel⟩⟩

theorem witness_CommitsSparesPairs :
    (∃ (s : State), Running s ∧ nvBarred s.dev = false ∧ s.dev.pwr.failed = false ∧ s.dev.ret.job = none) ∧
    (∃ (s : State) (j : _), Running s ∧ nvBarred s.dev = false ∧ s.dev.pwr.failed = false ∧ s.dev.ret.job = some j ∧ 1 < j.left) ∧
    (∃ (s : State) (j : _), Running s ∧ nvBarred s.dev = false ∧ s.dev.pwr.failed = false ∧ s.dev.ret.job = some j ∧ j.retried = false) ∧
    (∃ (s : State) (j : _), Running s ∧ nvBarred s.dev = false ∧ s.dev.pwr.failed = false ∧ s.dev.ret.job = some j ∧ j.retried = true ∧ s.dev.ret.again = false) ∧
    (∃ (s : State) (j : _), Running s ∧ nvBarred s.dev = false ∧ s.dev.pwr.failed = false ∧ s.dev.ret.job = some j ∧ j.retried = true ∧ s.dev.ret.again = true) ∧
    (∃ (s : State) (j : _), Running s ∧ s.dev.pwr.failed = false ∧ s.dev.ret.job = some j ∧ j.left ≤ 1 ∧ s.dev.ret.again = false) ∧
    (∃ (s : State) (j : _), Running s ∧ s.dev.pwr.failed = false ∧ s.dev.ret.job = some j ∧ j.left ≤ 1 ∧ s.dev.ret.again = true) ∧
    (∃ (s : State), Running s ∧ s.dev.spr.now = none ∧ s.dev.thm.sd = false ∧ (spareNext s.dev).isSome = true) ∧
    (∃ (s : State) (p : _), Running s ∧ s.dev.spr.now.isSome = true ∧ s.dev.spr.dest = some p ∧ (s.dev.dom (p / 4)).phase = .on) ∧
    (∃ (s : State), Running s ∧ s.dev.sup.pend = true ∧ s.dev.sup.held = false) ∧
    (∃ (s : State) (b : _), Running s ∧ s.dev.sup.pend = true ∧ s.dev.sup.frozen = true ∧ pairIn s.dev .ready = some b) ∧
    (∃ (s : State), Running s ∧ s.dev.sup.waitBeat.isSome = true) ∧
    (∃ (s : State) (b : _), Running s ∧ ((pairOf s.dev b).st = .active ∨ (pairOf s.dev b).st = .ready)) ∧
    (∃ (s : State) (b : _), Running s ∧ (pairOf s.dev b).st = .loading) :=
  ⟨⟨run0, by unfold Running; decide +kernel⟩,
   ⟨on fun d => d.modRet fun r => { r with job := some { cfg := ret0, left := 2, retried := false } }, { cfg := ret0, left := 2, retried := false }, by unfold Running; decide +kernel⟩,
   ⟨on fun d => d.modRet fun r => { r with job := some { cfg := ret0, left := 1, retried := false } }, { cfg := ret0, left := 1, retried := false }, by unfold Running; decide +kernel⟩,
   ⟨on fun d => d.modRet fun r => { r with job := some { cfg := ret0, left := 1, retried := true } }, { cfg := ret0, left := 1, retried := true }, by unfold Running; decide +kernel⟩,
   ⟨on fun d => d.modRet fun r => { r with again := true, job := some { cfg := ret0, left := 1, retried := true } }, { cfg := ret0, left := 1, retried := true }, by unfold Running; decide +kernel⟩,
   ⟨on fun d => { d with pwr := { d.pwr with failed := false } }.modRet fun r => { r with job := some { cfg := ret0, left := 1, retried := false } }, { cfg := ret0, left := 1, retried := false }, by unfold Running; decide +kernel⟩,
   ⟨on fun d => d.modRet fun r => { r with again := true, job := some { cfg := ret0, left := 1, retried := false } }, { cfg := ret0, left := 1, retried := false }, by unfold Running; decide +kernel⟩,
   ⟨on fun d => d.modSpr fun x => { x with waiting := [{ s := 191, ret := false, esc := false, parent := 0 }] }, by unfold Running; decide +kernel⟩,
   ⟨on fun d => (d.modSpr fun x => { x with now := some { s := 191, ret := false, esc := false, parent := 0 }, dest := some 199 }).setDom 49 { phase := .on }, 199, by unfold Running; decide +kernel⟩,
   ⟨on fun d => d.modSup fun x => { x with pend := true }, by unfold Running; decide +kernel⟩,
   ⟨on fun d => d.modSup fun x => { x with pend := true, frozen := true }, true, by unfold Running; decide +kernel⟩,
   ⟨on fun d => d.modSup fun x => { x with waitBeat := some false }, by unfold Running; decide +kernel⟩,
   ⟨run0, true, by unfold Running; decide +kernel⟩,
   ⟨on fun d => modPair true (fun p => { p with st := .loading }) d, true, by unfold Running; decide +kernel⟩⟩

theorem witness_AuthorisedCommands :
    (∃ (s : State) (res : _), Running s ∧ submitted s.env .writes s.dev = .bad res) ∧
    (∃ (s : State) (res : _), Running s ∧ submitted s.env .fixative s.dev = .bad res) ∧
    (∃ (s : State) (res : _), Running s ∧ submitted s.env .usercal s.dev = .bad res) ∧
    (∃ (s : State), Running s ∧ submitted s.env .writes s.dev = .none_) ∧
    (∃ (s : State), Running s ∧ submitted s.env .fixative s.dev = .none_) ∧
    (∃ (s : State), Running s ∧ submitted s.env .usercal s.dev = .none_) ∧
    (∃ (s : State), Running s ∧ submitted s.env .firmware s.dev = .none_) ∧
    (∃ (s : State) (n : RegName) (i : _) (j : _), Running s ∧ n.addr i j ≠ RegName.FLT_IRQ_STAT.addr 0 0) ∧
    (∃ (s : State) (res : _), Running s ∧ submitted s.env .firmware s.dev = .bad res ∧ res ≠ 8) ∧
    (∃ (s : State), Running s ∧ 0 < s.dev.authBlocks ∧ s.dev.auth.submit = none) ∧
    (∃ (s : State), Running s ∧ s.dev.auth.lock = true) ∧
    (∃ (s : State) (b : _), Running s ∧ s.env.fixPend = some b) :=
  ⟨⟨on fun d => { d with auth := { d.auth with submit := some { origin := .spi } } }, 2, by exact ⟨rfl, rfl⟩⟩,
   ⟨on fun d => { d with auth := { d.auth with submit := some { origin := .spi } } }, 2, by exact ⟨rfl, rfl⟩⟩,
   ⟨on fun d => { d with auth := { d.auth with submit := some { origin := .spi } } }, 2, by exact ⟨rfl, rfl⟩⟩,
   ⟨run0, by exact ⟨rfl, rfl⟩⟩,
   ⟨run0, by exact ⟨rfl, rfl⟩⟩,
   ⟨run0, by exact ⟨rfl, rfl⟩⟩,
   ⟨run0, by exact ⟨rfl, rfl⟩⟩,
   ⟨run0, .SLC_COEF_B, 191, 63, by exact ⟨rfl, by decide +kernel⟩⟩,
   ⟨on fun d => { d with auth := { d.auth with submit := some { origin := .spi } } }, 2, by exact ⟨rfl, rfl, by decide⟩⟩,
   ⟨on fun d => { d with authBlocks := 160 }, by unfold Running; decide +kernel⟩,
   ⟨on fun d => { d with auth := { d.auth with lock := true } }, by unfold Running; decide +kernel⟩,
   ⟨{ run0 with env := { run0.env with fixPend := some { origin := .spi } } }, { origin := .spi }, by unfold Running; decide +kernel⟩⟩

/-- Four bytes of a FIRMWARE section, with Kuhel's signature over them (R375). -/
def section0 : List Nat :=
  [0, 0, 0, 0] ++ beBytes 32 0xa55bde1c6b13d3656cbaf2aa71c7b517bc9eb4d901bd95cd7afc919de9154be4 ++
    beBytes 32 0xbcfd5c7be68438312bfe3af6e371a21b01abd5b05ae6c004d43d32dfc7238416

/-- The bytes of a command of FACTORY (R400) with device and nonce 0 and the signature r, s. -/
def authBytes (k : Nat) (body : List Nat) (r s : Nat) : List Nat :=
  [0x53, 0x4C, 0x4E, 0x41] ++ leBytes 2 1 ++ [1, k] ++ List.replicate 16 0 ++ leBytes 4 body.length ++ leBytes 4 0 ++
    pubkey0 ++ body ++ beBytes 32 r ++ beBytes 32 s

/-- Bytes as numbered words, those that are 0 left out. -/
def wordsFrom : Nat → List Nat → List (Nat × Word)
  | i, a :: b :: c :: d :: rest =>
    let n := a + 256 * b + 65536 * c + 16777216 * d
    let l := wordsFrom (i + 1) rest
    if n = 0 then l else (i, BitVec.ofNat 32 n) :: l
  | _, _ => []

/-- A device in whose buffer of one block that command waits for its verification. -/
def authDev (k : Nat) (body : List Nat) (r s : Nat) (t : Thermal := {}) (u : Sup := {}) : Dev :=
  { dev0 with
    thm := t
    sup := u
    authBlocks := 1
    auth := { words := wordsFrom 0 (authBytes k body r s), nonce := 1, submit := some { origin := .spi } } }

/-- The command that those bytes are. -/
def authCmd (k : AuthKind) (c : Nat) (body : List Nat) (r s : Nat) : AuthCmd :=
  { role := some .factory, kind := k, device := 0, nonce := 0, pubkey := pubkey0, body := body
    signed := (authBytes c body r s).take (96 + body.length), sig := beBytes 32 r ++ beBytes 32 s }

/-- The state of that device with the first Fixative in force. -/
def authState (k : Nat) (body : List Nat) (r s : Nat) (t : Thermal := {}) (u : Sup := {}) : State :=
  { onFix id with dev := authDev k body r s t u }

theorem pubkey0_hash : fix0.keyF = sha256 pubkey0 := by decide +kernel

/-- The nonce is opaque (log entry 15), so a signed command is shown for a part whose first nonce is 0. -/
theorem good_of {k : AuthKind} {c r s : Nat} {body : List Nat} {t : Thermal} {u : Sup} (hn : (Config.nonce 0).toNat = 0)
    (hv : ecdsaVerify pubkey0 (sha256Bytes (authCmd k c body r s).signed) (authCmd k c body r s).sig = true)
    (hp : parseAuth (bufferBytes (authDev c body r s t u)) = some (authCmd k c body r s))
    (hr : authRight (authState c body r s t u).env (authCmd k c body r s) .factory = true)
    (hb : authBody (authState c body r s t u).env (authDev c body r s t u) (authCmd k c body r s) = true) :
    submitted (authState c body r s t u).env k (authState c body r s t u).dev =
      .good { origin := .spi, role := some .factory } .factory (authCmd k c body r s) := by
  have hd : (authState c body r s t u).dev = authDev c body r s t u := rfl
  have hsub : (authDev c body r s t u).auth.submit = some { origin := .spi } := rfl
  have hnn : (authDev c body r s t u).auth.nonce = 1 := rfl
  have hf : (authState c body r s t u).env.fix = some fix0 := rfl
  have hu : (authState c body r s t u).env.uid = 0 := rfl
  have hk0 : fix0.key .factory = sha256 pubkey0 := pubkey0_hash
  simp [submitted, hd, hsub, hp, authCheck, hnn, hu, hn, authKey, hf, hk0, hv, hr, hb, authCmd] at *

theorem running_auth (c : Nat) (body : List Nat) (r s : Nat) (t : Thermal) (u : Sup) : Running (authState c body r s t u) := rfl

theorem calm_auth (c : Nat) (body : List Nat) (r s : Nat) : nvBarred (authState c body r s).dev = false := rfl

theorem pair_auth (c : Nat) (body : List Nat) (r s : Nat) : pairIn (authState c body r s).dev .ready = some true := rfl

/-- A body of one run of one word: 0 to the word address 0x0C1FE3, that of LOOP_SP[255] divided by 4. -/
def oneRun : List Nat := [0xE3, 0x1F, 0x0C, 1, 0, 0, 0, 0]

theorem test_oneRun_address : 4 * 0x0C1FE3 = RegName.LOOP_SP.addr 255 0 := by decide +kernel

/-- The signature of that command. -/
def sigR : Nat := 0x41c074d64d4d3a4cca48dc6331f362933f1460617035e72d6c355578a94f0ead
def sigS : Nat := 0x6530227b3fc650694bff242babec966a8d0273037f2c1f3dad833ea3b21c12b1

theorem good_writes (hn : (Config.nonce 0).toNat = 0) :
    submitted (authState 1 oneRun sigR sigS).env .writes (authState 1 oneRun sigR sigS).dev =
      .good { origin := .spi, role := some .factory } .factory (authCmd .writes 1 oneRun sigR sigS) :=
  good_of hn (by decide +kernel) (by decide +kernel) (by decide +kernel) (by decide +kernel)

theorem witness_BatchGoesOnAfterRefusal (hn : (Config.nonce 0).toNat = 0) :
    ∃ (e : Env) (d : Dev) (b : By) (r : Role) (c : AuthCmd), submitted e .writes d = .good b r c :=
  ⟨(authState 1 oneRun sigR sigS).env, (authState 1 oneRun sigR sigS).dev, _, _, _, good_writes hn⟩

theorem witness_TowPorts :
    (∃ (s : State) (dn : _), Running s ∧ (towPort s.dev dn).link = .down ∧ s.dev.flag TOW_PORT_CFG.EN (portNo dn) = true ∧ (dn = true ∨ isHead s.dev = false)) ∧
    (∃ (s : State), Running s ∧ (towPort s.dev false).link ≠ .up ∧ s.dev.flag TOW_PORT_CFG.EN (portNo false) = true ∧ isHead s.dev = false) ∧
    (∃ (s : State), Running s ∧ (towPort s.dev true).link ≠ .up ∧ s.dev.flag TOW_PORT_CFG.EN (portNo true) = true) ∧
    (∃ (s : State), Running s ∧ (towPort s.dev true).link = .up) ∧
    (∃ (s : State), Running s ∧ (towPort s.dev false).link = .up) ∧
    (∃ (s : State) (dn : _), Running s ∧ (towPort s.dev dn).link ≠ .up ∧ s.dev.flag TOW_PORT_CFG.EN (portNo dn) = true ∧ s.dev.flag TOW_PORT_CFG.QUIET (portNo dn) = false ∧ (dn = true ∨ isHead s.dev = false)) ∧
    (∃ (s : State) (dn : _), Running s ∧ (towPort s.dev dn).link = .up ∧ (towPort s.dev dn).busy = false ∧ s.dev.flag TOW_PORT_CFG.IDLE_FILL (portNo dn) = false ∧ lineNow s.dev dn = .static) ∧
    (∃ (s : State) (dn : _), Running s ∧ ((towPort s.dev dn).link ≠ .up ∨ (towPort s.dev dn).busy = true ∨ s.dev.flag TOW_PORT_CFG.IDLE_FILL (portNo dn) = true)) ∧
    (∃ (s : State) (dn : _), Running s ∧ (towPort s.dev dn).link = .up ∧ (towPort s.dev dn).busy = false ∧ s.dev.flag TOW_PORT_CFG.IDLE_FILL (portNo dn) = false) :=
  ⟨⟨on fun d => (modPort true (fun p => { p with link := .down }) d).put TOW_PORT_CFG.EN 1 1, true, by unfold Running; decide +kernel⟩,
   ⟨on fun d => (modPort false (fun p => { p with link := .training }) d).put TOW_PORT_CFG.EN 0 1, by unfold Running; decide +kernel⟩,
   ⟨on fun d => (modPort true (fun p => { p with link := .training }) d).put TOW_PORT_CFG.EN 1 1, by unfold Running; decide +kernel⟩,
   ⟨on fun d => (modPort true (fun p => { p with link := .up }) d).put TOW_PORT_CFG.EN 1 1, by unfold Running; decide +kernel⟩,
   ⟨on fun d => (modPort false (fun p => { p with link := .up }) d).put TOW_PORT_CFG.EN 0 1, by unfold Running; decide +kernel⟩,
   ⟨on fun d => (modPort true (fun p => { p with link := .training }) d).put TOW_PORT_CFG.EN 1 1, true, by unfold Running; decide +kernel⟩,
   ⟨on fun d => (modPort true (fun p => { p with link := .up, line := .static }) d).put TOW_PORT_CFG.EN 1 1, true, by unfold Running; decide +kernel⟩,
   ⟨on fun d => (modPort true (fun p => { p with link := .down }) d).put TOW_PORT_CFG.EN 1 1, true, by unfold Running; decide +kernel⟩,
   ⟨on fun d => (modPort true (fun p => { p with link := .up }) d).put TOW_PORT_CFG.EN 1 1, true, by unfold Running; decide +kernel⟩⟩

theorem witness_TowFramesActedOn :
    (∃ (s : State) (dn : _) (f : _) (ofs : Nat) (d : _) (g : _), Running s ∧ receive s.env dn 1 f (s.dev.atOfs ofs) = (d, .act g) ∧ isHead d = false ∧ firmwareUp d = true ∧ handoverHolds d = false) ∧
    (∃ (s : State) (dn : _) (f : _) (ofs : Nat) (d : _) (g : _), Running s ∧ receive s.env dn 2 f (s.dev.atOfs ofs) = (d, .act g) ∧ isHead d = false ∧ firmwareUp d = true ∧ handoverHolds d = false) ∧
    (∃ (s : State) (dn : _) (f : _) (ofs : Nat) (d : _) (g : _), Running s ∧ receive s.env dn 4 f (s.dev.atOfs ofs) = (d, .act g) ∧ isHead d = false ∧ firmwareUp d = true ∧ handoverHolds d = false) ∧
    (∃ (s : State) (dn : _) (f : _) (ofs : Nat) (d : _) (g : _), Running s ∧ receive s.env dn 1 f (s.dev.atOfs ofs) = (d, .act g) ∧ isHead d = false ∧ firmwareUp d = true ∧ handoverHolds d = true) ∧
    (∃ (s : State) (dn : _) (f : _) (ofs : Nat) (d : _) (g : _), Running s ∧ receive s.env dn 2 f (s.dev.atOfs ofs) = (d, .act g) ∧ isHead d = false ∧ firmwareUp d = true ∧ handoverHolds d = true) ∧
    (∃ (s : State) (dn : _) (f : _) (ofs : Nat) (d : _) (g : _), Running s ∧ receive s.env dn 4 f (s.dev.atOfs ofs) = (d, .act g) ∧ isHead d = false ∧ firmwareUp d = true ∧ handoverHolds d = true) ∧
    (∃ (s : State) (dn : _) (f : _) (ofs : Nat) (d : _) (g : _), Running s ∧ receive s.env dn 1 f (s.dev.atOfs ofs) = (d, .act g) ∧ (isHead d = true ∨ firmwareUp d = false)) ∧
    (∃ (s : State) (dn : _) (f : _) (ofs : Nat) (d : _) (g : _), Running s ∧ receive s.env dn 2 f (s.dev.atOfs ofs) = (d, .act g) ∧ (isHead d = true ∨ firmwareUp d = false)) ∧
    (∃ (s : State) (dn : _) (f : _) (ofs : Nat) (d : _) (g : _), Running s ∧ receive s.env dn 4 f (s.dev.atOfs ofs) = (d, .act g) ∧ (isHead d = true ∨ firmwareUp d = false)) ∧
    (∃ (s : State) (dn : _), Running s ∧ portOn s.dev dn = true) ∧
    (∃ (s : State) (dn : _) (f : _) (ofs : Nat) (d : _) (g : _), Running s ∧ receive s.env dn 6 f (s.dev.atOfs ofs) = (d, .act g) ∧ isHead d = true ∧ leAt g.pay 14 2 = Ev.TOW_LINK_UP) ∧
    (∃ (s : State) (dn : _) (f : _) (ofs : Nat) (d : _) (g : _), Running s ∧ receive s.env dn 6 f (s.dev.atOfs ofs) = (d, .act g) ∧ (isHead d = false ∨ leAt g.pay 14 2 ≠ Ev.TOW_LINK_UP)) ∧
    (∃ (s : State) (dn : _) (f : _) (ofs : Nat), Running s ∧ (receive s.env dn 6 f (s.dev.atOfs ofs)).2 = .drop) ∧
    (∃ (s : State) (dn : _) (f : _) (ofs : Nat) (d : _) (g : _), Running s ∧ receive s.env dn 5 f (s.dev.atOfs ofs) = (d, .act g) ∧ isHead d = true) ∧
    (∃ (s : State) (dn : _) (f : _) (ofs : Nat) (d : _) (g : _), Running s ∧ receive s.env dn 5 f (s.dev.atOfs ofs) = (d, .act g) ∧ isHead d = false) ∧
    (∃ (s : State) (dn : _) (f : _) (ofs : Nat) (d : _) (g : _), Running s ∧ receive s.env dn 7 f (s.dev.atOfs ofs) = (d, .act g) ∧ isHead d = false ∧ d.tow.addrV = true) ∧
    (∃ (s : State) (dn : _) (f : _) (ofs : Nat) (d : _) (g : _) (k : _), Running s ∧ receive s.env dn 7 f (s.dev.atOfs ofs) = (d, .act g) ∧ isHead d = false ∧ d.tow.addrV = false ∧ (List.range (g.pay.length / 16)).find? (fun k => leAt g.pay (16 * k) 8 == s.env.uid) = some k) ∧
    (∃ (s : State) (dn : _) (f : _) (ofs : Nat) (d : _) (g : _), Running s ∧ receive s.env dn 7 f (s.dev.atOfs ofs) = (d, .act g) ∧ isHead d = false ∧ d.tow.addrV = false ∧ (List.range (g.pay.length / 16)).find? (fun k => leAt g.pay (16 * k) 8 == s.env.uid) = none ∧ g.arg < 0x7FE) ∧
    (∃ (s : State) (dn : _) (f : _) (ofs : Nat) (d : _) (g : _), Running s ∧ receive s.env dn 7 f (s.dev.atOfs ofs) = (d, .act g) ∧ isHead d = false ∧ d.tow.addrV = false ∧ (List.range (g.pay.length / 16)).find? (fun k => leAt g.pay (16 * k) 8 == s.env.uid) = none ∧ 0x7FE ≤ g.arg) ∧
    (∃ (s : State) (dn : _) (f : _) (ofs : Nat) (d : _) (g : _), Running s ∧ receive s.env dn 7 f (s.dev.atOfs ofs) = (d, .act g) ∧ isHead d = true ∧ g.last = true) ∧
    (∃ (s : State) (dn : _) (f : _) (ofs : Nat) (d : _) (g : _), Running s ∧ receive s.env dn 7 f (s.dev.atOfs ofs) = (d, .act g) ∧ isHead d = true ∧ g.last = false) ∧
    (∃ (s : State) (dn : _) (f : _) (ofs : Nat) (d : _) (g : _), Running s ∧ receive s.env dn 10 f (s.dev.atOfs ofs) = (d, .act g) ∧ isHead d = false ∧ g.dst = d.tow.addr ∧ g.epoch = d.tow.epoch) ∧
    (∃ (s : State) (dn : _) (f : _) (ofs : Nat) (d : _) (g : _), Running s ∧ receive s.env dn 11 f (s.dev.atOfs ofs) = (d, .act g)) ∧
    (∃ (s : State) (dn : _) (f : _) (ofs : Nat), Running s ∧ (receive s.env dn 8 f (s.dev.atOfs ofs)).2 ≠ .drop) ∧
    (∃ (s : State) (dn : _) (f : _) (ofs : Nat), Running s ∧ (receive s.env dn 9 f (s.dev.atOfs ofs)).2 ≠ .drop) ∧
    (∃ (s : State) (dn : _) (f : _) (ofs : Nat), Running s ∧ (receive s.env dn 12 f (s.dev.atOfs ofs)).2 ≠ .drop) ∧
    (∃ (s : State) (dn : _) (f : _) (ofs : Nat), Running s ∧ (receive s.env dn 13 f (s.dev.atOfs ofs)).2 ≠ .drop) ∧
    (∃ (s : State) (dn : _) (f : _) (ofs : Nat), Running s ∧ (receive s.env dn 14 f (s.dev.atOfs ofs)).2 ≠ .drop) ∧
    (∃ (s : State) (dn : _) (f : _) (ofs : Nat), Running s ∧ (receive s.env dn 15 f (s.dev.atOfs ofs)).2 ≠ .drop) :=
  ⟨⟨on fun d => ((modPort false (fun p => { p with link := .up }) d).put TOW_PORT_CFG.EN 0 1).modTow fun t => { t with addrV := true, addr := 5, epoch := 9 }, false, goodFrame 1 { dst := 5, epoch := 9 }, 15359, (receive (on fun d => ((modPort false (fun p => { p with link := .up }) d).put TOW_PORT_CFG.EN 0 1).modTow fun t => { t with addrV := true, addr := 5, epoch := 9 }).env false 1 (goodFrame 1 { dst := 5, epoch := 9 }) ((on fun d => ((modPort false (fun p => { p with link := .up }) d).put TOW_PORT_CFG.EN 0 1).modTow fun t => { t with addrV := true, addr := 5, epoch := 9 }).dev.atOfs 15359)).1, rxFrame 1 { dst := 5, epoch := 9 }, by exact ⟨by unfold Running; decide +kernel, acts_on (by decide +kernel), by decide +kernel⟩⟩,
   ⟨on fun d => ((modPort false (fun p => { p with link := .up }) d).put TOW_PORT_CFG.EN 0 1).modTow fun t => { t with addrV := true, addr := 5, epoch := 9 }, false, goodFrame 2 { dst := 5, epoch := 9 }, 15359, (receive (on fun d => ((modPort false (fun p => { p with link := .up }) d).put TOW_PORT_CFG.EN 0 1).modTow fun t => { t with addrV := true, addr := 5, epoch := 9 }).env false 2 (goodFrame 2 { dst := 5, epoch := 9 }) ((on fun d => ((modPort false (fun p => { p with link := .up }) d).put TOW_PORT_CFG.EN 0 1).modTow fun t => { t with addrV := true, addr := 5, epoch := 9 }).dev.atOfs 15359)).1, rxFrame 2 { dst := 5, epoch := 9 }, by exact ⟨by unfold Running; decide +kernel, acts_on (by decide +kernel), by decide +kernel⟩⟩,
   ⟨on fun d => ((modPort false (fun p => { p with link := .up }) d).put TOW_PORT_CFG.EN 0 1).modTow fun t => { t with addrV := true, addr := 5, epoch := 9 }, false, goodFrame 4 { dst := 5, epoch := 9 }, 15359, (receive (on fun d => ((modPort false (fun p => { p with link := .up }) d).put TOW_PORT_CFG.EN 0 1).modTow fun t => { t with addrV := true, addr := 5, epoch := 9 }).env false 4 (goodFrame 4 { dst := 5, epoch := 9 }) ((on fun d => ((modPort false (fun p => { p with link := .up }) d).put TOW_PORT_CFG.EN 0 1).modTow fun t => { t with addrV := true, addr := 5, epoch := 9 }).dev.atOfs 15359)).1, rxFrame 4 { dst := 5, epoch := 9 }, by exact ⟨by unfold Running; decide +kernel, acts_on (by decide +kernel), by decide +kernel⟩⟩,
   ⟨on fun d => Dev.modSup (((modPort false (fun p => { p with link := .up }) d).put TOW_PORT_CFG.EN 0 1).modTow fun t => { t with addrV := true, addr := 5, epoch := 9 }) fun x => { x with waitBeat := some true }, false, goodFrame 1 { dst := 5, epoch := 9 }, 15359, (receive (on fun d => Dev.modSup (((modPort false (fun p => { p with link := .up }) d).put TOW_PORT_CFG.EN 0 1).modTow fun t => { t with addrV := true, addr := 5, epoch := 9 }) fun x => { x with waitBeat := some true }).env false 1 (goodFrame 1 { dst := 5, epoch := 9 }) ((on fun d => Dev.modSup (((modPort false (fun p => { p with link := .up }) d).put TOW_PORT_CFG.EN 0 1).modTow fun t => { t with addrV := true, addr := 5, epoch := 9 }) fun x => { x with waitBeat := some true }).dev.atOfs 15359)).1, rxFrame 1 { dst := 5, epoch := 9 }, by exact ⟨by unfold Running; decide +kernel, acts_on (by decide +kernel), by decide +kernel⟩⟩,
   ⟨on fun d => Dev.modSup (((modPort false (fun p => { p with link := .up }) d).put TOW_PORT_CFG.EN 0 1).modTow fun t => { t with addrV := true, addr := 5, epoch := 9 }) fun x => { x with waitBeat := some true }, false, goodFrame 2 { dst := 5, epoch := 9 }, 15359, (receive (on fun d => Dev.modSup (((modPort false (fun p => { p with link := .up }) d).put TOW_PORT_CFG.EN 0 1).modTow fun t => { t with addrV := true, addr := 5, epoch := 9 }) fun x => { x with waitBeat := some true }).env false 2 (goodFrame 2 { dst := 5, epoch := 9 }) ((on fun d => Dev.modSup (((modPort false (fun p => { p with link := .up }) d).put TOW_PORT_CFG.EN 0 1).modTow fun t => { t with addrV := true, addr := 5, epoch := 9 }) fun x => { x with waitBeat := some true }).dev.atOfs 15359)).1, rxFrame 2 { dst := 5, epoch := 9 }, by exact ⟨by unfold Running; decide +kernel, acts_on (by decide +kernel), by decide +kernel⟩⟩,
   ⟨on fun d => Dev.modSup (((modPort false (fun p => { p with link := .up }) d).put TOW_PORT_CFG.EN 0 1).modTow fun t => { t with addrV := true, addr := 5, epoch := 9 }) fun x => { x with waitBeat := some true }, false, goodFrame 4 { dst := 5, epoch := 9 }, 15359, (receive (on fun d => Dev.modSup (((modPort false (fun p => { p with link := .up }) d).put TOW_PORT_CFG.EN 0 1).modTow fun t => { t with addrV := true, addr := 5, epoch := 9 }) fun x => { x with waitBeat := some true }).env false 4 (goodFrame 4 { dst := 5, epoch := 9 }) ((on fun d => Dev.modSup (((modPort false (fun p => { p with link := .up }) d).put TOW_PORT_CFG.EN 0 1).modTow fun t => { t with addrV := true, addr := 5, epoch := 9 }) fun x => { x with waitBeat := some true }).dev.atOfs 15359)).1, rxFrame 4 { dst := 5, epoch := 9 }, by exact ⟨by unfold Running; decide +kernel, acts_on (by decide +kernel), by decide +kernel⟩⟩,
   ⟨onHead fun d => (modPort true (fun p => { p with link := .up }) d).put TOW_PORT_CFG.EN 1 1, true, goodFrame 1 { dst := 0, src := 5 }, 15359, (receive (onHead fun d => (modPort true (fun p => { p with link := .up }) d).put TOW_PORT_CFG.EN 1 1).env true 1 (goodFrame 1 { dst := 0, src := 5 }) ((onHead fun d => (modPort true (fun p => { p with link := .up }) d).put TOW_PORT_CFG.EN 1 1).dev.atOfs 15359)).1, rxFrame 1 { dst := 0, src := 5 }, by exact ⟨by unfold Running; decide +kernel, acts_on (by decide +kernel), by decide +kernel⟩⟩,
   ⟨onHead fun d => (modPort true (fun p => { p with link := .up }) d).put TOW_PORT_CFG.EN 1 1, true, goodFrame 2 { dst := 0, src := 5 }, 15359, (receive (onHead fun d => (modPort true (fun p => { p with link := .up }) d).put TOW_PORT_CFG.EN 1 1).env true 2 (goodFrame 2 { dst := 0, src := 5 }) ((onHead fun d => (modPort true (fun p => { p with link := .up }) d).put TOW_PORT_CFG.EN 1 1).dev.atOfs 15359)).1, rxFrame 2 { dst := 0, src := 5 }, by exact ⟨by unfold Running; decide +kernel, acts_on (by decide +kernel), by decide +kernel⟩⟩,
   ⟨onHead fun d => (modPort true (fun p => { p with link := .up }) d).put TOW_PORT_CFG.EN 1 1, true, goodFrame 4 { dst := 0, src := 5 }, 15359, (receive (onHead fun d => (modPort true (fun p => { p with link := .up }) d).put TOW_PORT_CFG.EN 1 1).env true 4 (goodFrame 4 { dst := 0, src := 5 }) ((onHead fun d => (modPort true (fun p => { p with link := .up }) d).put TOW_PORT_CFG.EN 1 1).dev.atOfs 15359)).1, rxFrame 4 { dst := 0, src := 5 }, by exact ⟨by unfold Running; decide +kernel, acts_on (by decide +kernel), by decide +kernel⟩⟩,
   ⟨on fun d => (modPort true (fun p => { p with link := .up }) d).put TOW_PORT_CFG.EN 1 1, true, by unfold Running; decide +kernel⟩,
   ⟨onHead fun d => (modPort true (fun p => { p with link := .up }) d).put TOW_PORT_CFG.EN 1 1, true, goodFrame 6 { dst := 0, src := 5, len := 16, pay := List.replicate 14 0 ++ [0x11, 0x68] }, 15359, (receive (onHead fun d => (modPort true (fun p => { p with link := .up }) d).put TOW_PORT_CFG.EN 1 1).env true 6 (goodFrame 6 { dst := 0, src := 5, len := 16, pay := List.replicate 14 0 ++ [0x11, 0x68] }) ((onHead fun d => (modPort true (fun p => { p with link := .up }) d).put TOW_PORT_CFG.EN 1 1).dev.atOfs 15359)).1, rxFrame 6 { dst := 0, src := 5, len := 16, pay := List.replicate 14 0 ++ [0x11, 0x68] }, by exact ⟨by unfold Running; decide +kernel, acts_on (by decide +kernel), by decide +kernel⟩⟩,
   ⟨onHead fun d => (modPort true (fun p => { p with link := .up }) d).put TOW_PORT_CFG.EN 1 1, true, goodFrame 6 { dst := 0, src := 5 }, 15359, (receive (onHead fun d => (modPort true (fun p => { p with link := .up }) d).put TOW_PORT_CFG.EN 1 1).env true 6 (goodFrame 6 { dst := 0, src := 5 }) ((onHead fun d => (modPort true (fun p => { p with link := .up }) d).put TOW_PORT_CFG.EN 1 1).dev.atOfs 15359)).1, rxFrame 6 { dst := 0, src := 5 }, by exact ⟨by unfold Running; decide +kernel, acts_on (by decide +kernel), by decide +kernel⟩⟩,
   ⟨run0, true, {}, 15359, by unfold Running; decide +kernel⟩,
   ⟨onHead fun d => (modPort true (fun p => { p with link := .up }) d).put TOW_PORT_CFG.EN 1 1, true, goodFrame 5 { dst := 0, src := 5 }, 15359, (receive (onHead fun d => (modPort true (fun p => { p with link := .up }) d).put TOW_PORT_CFG.EN 1 1).env true 5 (goodFrame 5 { dst := 0, src := 5 }) ((onHead fun d => (modPort true (fun p => { p with link := .up }) d).put TOW_PORT_CFG.EN 1 1).dev.atOfs 15359)).1, rxFrame 5 { dst := 0, src := 5 }, by exact ⟨by unfold Running; decide +kernel, acts_on (by decide +kernel), by decide +kernel⟩⟩,
   ⟨on fun d => ((modPort false (fun p => { p with link := .up }) d).put TOW_PORT_CFG.EN 0 1).modTow fun t => { t with addrV := true, addr := 5, epoch := 9 }, false, goodFrame 5 { dst := 5, epoch := 9 }, 15359, (receive (on fun d => ((modPort false (fun p => { p with link := .up }) d).put TOW_PORT_CFG.EN 0 1).modTow fun t => { t with addrV := true, addr := 5, epoch := 9 }).env false 5 (goodFrame 5 { dst := 5, epoch := 9 }) ((on fun d => ((modPort false (fun p => { p with link := .up }) d).put TOW_PORT_CFG.EN 0 1).modTow fun t => { t with addrV := true, addr := 5, epoch := 9 }).dev.atOfs 15359)).1, rxFrame 5 { dst := 5, epoch := 9 }, by exact ⟨by unfold Running; decide +kernel, acts_on (by decide +kernel), by decide +kernel⟩⟩,
   ⟨on fun d => ((modPort false (fun p => { p with link := .up }) d).put TOW_PORT_CFG.EN 0 1).modTow fun t => { t with addrV := true, addr := 5, epoch := 9 }, false, goodFrame 7 { dst := 2047 }, 15359, (receive (on fun d => ((modPort false (fun p => { p with link := .up }) d).put TOW_PORT_CFG.EN 0 1).modTow fun t => { t with addrV := true, addr := 5, epoch := 9 }).env false 7 (goodFrame 7 { dst := 2047 }) ((on fun d => ((modPort false (fun p => { p with link := .up }) d).put TOW_PORT_CFG.EN 0 1).modTow fun t => { t with addrV := true, addr := 5, epoch := 9 }).dev.atOfs 15359)).1, rxFrame 7 { dst := 2047 }, by exact ⟨by unfold Running; decide +kernel, acts_on (by decide +kernel), by decide +kernel⟩⟩,
   ⟨on fun d => ((modPort false (fun p => { p with link := .up }) d).put TOW_PORT_CFG.EN 0 1).modTow fun t => { t with addrV := false, addr := 5, epoch := 9 }, false, goodFrame 7 { dst := 2047, len := 16, pay := List.replicate 8 0 ++ [7, 0, 9, 0, 0, 0, 0, 0] }, 15359, (receive (on fun d => ((modPort false (fun p => { p with link := .up }) d).put TOW_PORT_CFG.EN 0 1).modTow fun t => { t with addrV := false, addr := 5, epoch := 9 }).env false 7 (goodFrame 7 { dst := 2047, len := 16, pay := List.replicate 8 0 ++ [7, 0, 9, 0, 0, 0, 0, 0] }) ((on fun d => ((modPort false (fun p => { p with link := .up }) d).put TOW_PORT_CFG.EN 0 1).modTow fun t => { t with addrV := false, addr := 5, epoch := 9 }).dev.atOfs 15359)).1, rxFrame 7 { dst := 2047, len := 16, pay := List.replicate 8 0 ++ [7, 0, 9, 0, 0, 0, 0, 0] }, 0, by exact ⟨by unfold Running; decide +kernel, acts_on (by decide +kernel), by decide +kernel⟩⟩,
   ⟨on fun d => ((modPort false (fun p => { p with link := .up }) d).put TOW_PORT_CFG.EN 0 1).modTow fun t => { t with addrV := false, addr := 5, epoch := 9 }, false, goodFrame 7 { dst := 2047, arg := 2045#32 }, 15359, (receive (on fun d => ((modPort false (fun p => { p with link := .up }) d).put TOW_PORT_CFG.EN 0 1).modTow fun t => { t with addrV := false, addr := 5, epoch := 9 }).env false 7 (goodFrame 7 { dst := 2047, arg := 2045#32 }) ((on fun d => ((modPort false (fun p => { p with link := .up }) d).put TOW_PORT_CFG.EN 0 1).modTow fun t => { t with addrV := false, addr := 5, epoch := 9 }).dev.atOfs 15359)).1, rxFrame 7 { dst := 2047, arg := 2045#32 }, by exact ⟨by unfold Running; decide +kernel, acts_on (by decide +kernel), by decide +kernel⟩⟩,
   ⟨on fun d => ((modPort false (fun p => { p with link := .up }) d).put TOW_PORT_CFG.EN 0 1).modTow fun t => { t with addrV := false, addr := 5, epoch := 9 }, false, goodFrame 7 { dst := 2047, arg := 2046#32 }, 15359, (receive (on fun d => ((modPort false (fun p => { p with link := .up }) d).put TOW_PORT_CFG.EN 0 1).modTow fun t => { t with addrV := false, addr := 5, epoch := 9 }).env false 7 (goodFrame 7 { dst := 2047, arg := 2046#32 }) ((on fun d => ((modPort false (fun p => { p with link := .up }) d).put TOW_PORT_CFG.EN 0 1).modTow fun t => { t with addrV := false, addr := 5, epoch := 9 }).dev.atOfs 15359)).1, rxFrame 7 { dst := 2047, arg := 2046#32 }, by exact ⟨by unfold Running; decide +kernel, acts_on (by decide +kernel), by decide +kernel⟩⟩,
   ⟨onHead fun d => (modPort true (fun p => { p with link := .up }) d).put TOW_PORT_CFG.EN 1 1, true, goodFrame 7 { dst := 0, src := 5, last := true }, 15359, (receive (onHead fun d => (modPort true (fun p => { p with link := .up }) d).put TOW_PORT_CFG.EN 1 1).env true 7 (goodFrame 7 { dst := 0, src := 5, last := true }) ((onHead fun d => (modPort true (fun p => { p with link := .up }) d).put TOW_PORT_CFG.EN 1 1).dev.atOfs 15359)).1, rxFrame 7 { dst := 0, src := 5, last := true }, by exact ⟨by unfold Running; decide +kernel, acts_on (by decide +kernel), by decide +kernel⟩⟩,
   ⟨onHead fun d => (modPort true (fun p => { p with link := .up }) d).put TOW_PORT_CFG.EN 1 1, true, goodFrame 7 { dst := 0, src := 5 }, 15359, (receive (onHead fun d => (modPort true (fun p => { p with link := .up }) d).put TOW_PORT_CFG.EN 1 1).env true 7 (goodFrame 7 { dst := 0, src := 5 }) ((onHead fun d => (modPort true (fun p => { p with link := .up }) d).put TOW_PORT_CFG.EN 1 1).dev.atOfs 15359)).1, rxFrame 7 { dst := 0, src := 5 }, by exact ⟨by unfold Running; decide +kernel, acts_on (by decide +kernel), by decide +kernel⟩⟩,
   ⟨on fun d => ((modPort false (fun p => { p with link := .up }) d).put TOW_PORT_CFG.EN 0 1).modTow fun t => { t with addrV := true, addr := 5, epoch := 9 }, false, goodFrame 10 { dst := 5, epoch := 9 }, 15359, (receive (on fun d => ((modPort false (fun p => { p with link := .up }) d).put TOW_PORT_CFG.EN 0 1).modTow fun t => { t with addrV := true, addr := 5, epoch := 9 }).env false 10 (goodFrame 10 { dst := 5, epoch := 9 }) ((on fun d => ((modPort false (fun p => { p with link := .up }) d).put TOW_PORT_CFG.EN 0 1).modTow fun t => { t with addrV := true, addr := 5, epoch := 9 }).dev.atOfs 15359)).1, rxFrame 10 { dst := 5, epoch := 9 }, by exact ⟨by unfold Running; decide +kernel, acts_on (by decide +kernel), by decide +kernel⟩⟩,
   ⟨on fun d => ((modPort false (fun p => { p with link := .up }) d).put TOW_PORT_CFG.EN 0 1).modTow fun t => { t with addrV := true, addr := 5, epoch := 9 }, false, goodFrame 11 { dst := 5, epoch := 9 }, 15359, (receive (on fun d => ((modPort false (fun p => { p with link := .up }) d).put TOW_PORT_CFG.EN 0 1).modTow fun t => { t with addrV := true, addr := 5, epoch := 9 }).env false 11 (goodFrame 11 { dst := 5, epoch := 9 }) ((on fun d => ((modPort false (fun p => { p with link := .up }) d).put TOW_PORT_CFG.EN 0 1).modTow fun t => { t with addrV := true, addr := 5, epoch := 9 }).dev.atOfs 15359)).1, rxFrame 11 { dst := 5, epoch := 9 }, by exact ⟨by unfold Running; decide +kernel, acts_on (by decide +kernel)⟩⟩,
   ⟨on fun d => ((modPort false (fun p => { p with link := .up }) d).put TOW_PORT_CFG.EN 0 1).modTow fun t => { t with addrV := true, addr := 5, epoch := 9 }, false, goodFrame 8 { dst := 5, epoch := 9 }, 15359, by unfold Running; decide +kernel⟩,
   ⟨on fun d => ((modPort false (fun p => { p with link := .up }) d).put TOW_PORT_CFG.EN 0 1).modTow fun t => { t with addrV := true, addr := 5, epoch := 9 }, false, goodFrame 9 { dst := 5, epoch := 9 }, 15359, by unfold Running; decide +kernel⟩,
   ⟨on fun d => ((modPort false (fun p => { p with link := .up }) d).put TOW_PORT_CFG.EN 0 1).modTow fun t => { t with addrV := true, addr := 5, epoch := 9 }, false, goodFrame 12 { dst := 5, epoch := 9 }, 15359, by unfold Running; decide +kernel⟩,
   ⟨on fun d => ((modPort false (fun p => { p with link := .up }) d).put TOW_PORT_CFG.EN 0 1).modTow fun t => { t with addrV := true, addr := 5, epoch := 9 }, false, goodFrame 13 { dst := 5, epoch := 9 }, 15359, by unfold Running; decide +kernel⟩,
   ⟨on fun d => ((modPort false (fun p => { p with link := .up }) d).put TOW_PORT_CFG.EN 0 1).modTow fun t => { t with addrV := true, addr := 5, epoch := 9 }, false, goodFrame 14 { dst := 5, epoch := 9 }, 15359, by unfold Running; decide +kernel⟩,
   ⟨on fun d => ((modPort false (fun p => { p with link := .up }) d).put TOW_PORT_CFG.EN 0 1).modTow fun t => { t with addrV := true, addr := 5, epoch := 9 }, false, goodFrame 15 { dst := 5, epoch := 9 }, 15359, by unfold Running; decide +kernel⟩⟩

theorem witness_TowOwnTraffic :
    (∃ (s : State), Running s ∧ handoverHolds s.dev = false) ∧
    (∃ (s : State) (ofs : Nat) (g : _), Running s ∧ s.dev.tow.gather = some g ∧ g.late = false ∧ g.result = none ∧ g.at_ ≤ towNow (s.dev.atOfs ofs)) ∧
    (∃ (s : State) (ofs : Nat) (g : _), Running s ∧ s.dev.tow.gather = some g ∧ g.sent = false ∧ isTail s.dev = true ∧ isHead s.dev = false ∧ 1000 * g.at_ + g.gap * 983040 ≤ 1000 * towNow (s.dev.atOfs ofs)) ∧
    (∃ (s : State), Running s ∧ isTail s.dev = false) ∧
    (∃ (s : State), Running s ∧ isHead s.dev = false) ∧
    (∃ (s : State), Running s ∧ s.dev.tow.up.link = .up ∧ isHead s.dev = false) ∧
    (∃ (s : State) (ofs : Nat), Running s ∧ isHead s.dev = false ∧ s.dev.tow.addrV = true ∧ beatPassed (s.dev.atOfs ofs) = true) ∧
    (∃ (s : State), Running s ∧ isHead s.dev = false ∧ s.dev.tow.addrV = false ∧ firmwareUp s.dev = true) ∧
    (∃ (s : State) (a : Fin 2048) (ofs : Nat) (x : _), Running s ∧ isHead s.dev = true ∧ s.dev.tow.book.find? (fun b => b.addr = a.val) = some x ∧ a.val ∉ s.dev.tow.dead ∧ x.seen + (deadAfter x : Nat) ≤ (towNow (s.dev.atOfs ofs) : Nat)) ∧
    (∃ (s : State), Running s ∧ isHead s.dev = true) :=
  ⟨⟨run0, by unfold Running; decide +kernel⟩,
   ⟨on fun d => d.modTow fun t => { t with gather := some { id := 1, at_ := 0, reg0 := 0, reg1 := 0, nblk := 8, gap := 0 } }, 15359, { id := 1, at_ := 0, reg0 := 0, reg1 := 0, nblk := 8, gap := 0 }, by unfold Running; decide +kernel⟩,
   ⟨on fun d => d.modTow fun t => { t with gather := some { id := 1, at_ := 0, reg0 := 0, reg1 := 0, nblk := 8, gap := 0 } }, 15359, { id := 1, at_ := 0, reg0 := 0, reg1 := 0, nblk := 8, gap := 0 }, by unfold Running; decide +kernel⟩,
   ⟨on fun d => modPort true (fun p => { p with link := .up }) d, by unfold Running; decide +kernel⟩,
   ⟨run0, by unfold Running; decide +kernel⟩,
   ⟨on fun d => modPort false (fun p => { p with link := .up }) d, by unfold Running; decide +kernel⟩,
   ⟨on fun d => { d.modTow fun t => { t with addrV := true } with clk := { d.clk with tow := 314572800 } }, 0, by unfold Running; decide +kernel⟩,
   ⟨run0, by unfold Running; decide +kernel⟩,
   ⟨onHead fun d => { d.modTow fun t => { t with book := [{ uid := 1, addr := 2047, epoch := 1, per := 10 }] } with clk := { d.clk with tow := 31457280 } }, 2047, 0, { uid := 1, addr := 2047, epoch := 1, per := 10 }, by unfold Running; decide +kernel⟩,
   ⟨{ run0 with dev := head0 }, by unfold Running; decide +kernel⟩⟩

theorem witness_PairToken :
    (∃ (s : State), Running s ∧ tokenDue s.env s.dev = true) ∧
    (∃ (s : State), Running s ∧ pairEn s.dev = true ∧ s.dev.tow.tok.line = false ∧ s.dev.tow.tok.hold = true ∧ s.dev.tow.tok.letting = false ∧ benched s.dev = false) ∧
    (∃ (s : State), Running s ∧ s.dev.tow.tok.letting = true) ∧
    (∃ (s : State), Running s ∧ s.dev.tow.tok.hold = true ∧ s.dev.tow.tok.line = true) :=
  ⟨⟨{ run0 with dev := { modTok (fun t => { t with allowed := true, line := true, since := some 0 }) { dev0 with boot := { phase := .run, straps := 8 } } with clk := { core := 4915200 } } }, by unfold Running; decide +kernel⟩,
   ⟨onPair fun t => { t with hold := true }, by unfold Running; decide +kernel⟩,
   ⟨onPair fun t => { t with letting := true }, by unfold Running; decide +kernel⟩,
   ⟨onPair fun t => { t with hold := true, line := true }, by unfold Running; decide +kernel⟩⟩

/-- Kuhel's key is opaque too (log entry 16): the section is shown for a part whose Kuhel key is that of the tests. -/
theorem firmware_body {r s : Nat} (hq : Config.kuhelKey = pubkey0) :
    authBody (authState 4 section0 r s).env (authDev 4 section0 r s) (authCmd .firmware 4 section0 r s) = true := by
  have h : pairIn (authDev 4 section0 r s) .ready = some true := rfl
  have hl : section0.length = 68 := by decide +kernel
  have hv : ecdsaVerify pubkey0 (sha256Bytes (section0.take (section0.length - 64))) (section0.drop (section0.length - 64)) = true := by
    decide +kernel
  show (decide (section0.length ≤ 524288) && (pairIn (authDev 4 section0 r s) .ready).isSome && kuhelVerify section0) = true
  rw [h, kuhelVerify, hq, hv, hl]; rfl

/-- A second Fixative. -/
def body2 : List Nat := { fix0 with version := 2 }.bytes

theorem witness_AuthorisedCommands_writes (hn : (Config.nonce 0).toNat = 0) :
    ∃ (s : State) (b : By) (r : Role) (c : AuthCmd), Running s ∧ submitted s.env .writes s.dev = .good b r c :=
  ⟨authState 1 oneRun sigR sigS, _, _, _, running_auth _ _ _ _ _ _, good_writes hn⟩

theorem witness_AuthorisedCommands_fixative (hn : (Config.nonce 0).toNat = 0) :
    ∃ (s : State) (b : By) (r : Role) (c : AuthCmd), Running s ∧ submitted s.env .fixative s.dev = .good b r c ∧ nvBarred s.dev = false :=
  ⟨authState 2 body2 0x50930f9584a639187681afb28defaf7d606981af76370bde7e6fcfb5a99acb87
      0xd6b22f42f819680fbcf3874a32b900c8031c8a5c5bbd26b4d386a6adc4226d1d, _, _, _, running_auth _ _ _ _ _ _,
   good_of (k := .fixative) hn (by decide +kernel) (by decide +kernel) (by decide +kernel) (by decide +kernel), calm_auth _ _ _ _⟩

theorem witness_AuthorisedCommands_usercal (hn : (Config.nonce 0).toNat = 0) :
    ∃ (s : State) (b : By) (r : Role) (c : AuthCmd), Running s ∧ submitted s.env .usercal s.dev = .good b r c ∧ nvBarred s.dev = false :=
  ⟨authState 3 [0, 0, 0, 0] 0x257272c9ebba30510ee3327bd306323f880c59e9cadff78d63bb77ea5b60ccf0
      0xd46b63a303103687bba4d595601e63b9ff361dee05323e67d2777d2507940a30, _, _, _, running_auth _ _ _ _ _ _,
   good_of (k := .usercal) hn (by decide +kernel) (by decide +kernel) (by decide +kernel) (by decide +kernel), calm_auth _ _ _ _⟩

theorem witness_AuthorisedCommands_firmware (hn : (Config.nonce 0).toNat = 0) (hq : Config.kuhelKey = pubkey0) :
    ∃ (s : State) (b : By) (r : Role) (c : AuthCmd) (p : Bool), Running s ∧ submitted s.env .firmware s.dev = .good b r c ∧
      firmwarePair s.dev = some p :=
  ⟨authState 4 section0 0x42cbe24dc38362874d6dfdebb129819ded07efc0c2f909401951534a53873760
      0xf301976fa068bb66a13460af98c56e8589aaa595e7a9d9dc11edf6a16d74dea8, _, _, _, true, running_auth _ _ _ _ _ _,
   good_of (k := .firmware) hn (by decide +kernel) (by decide +kernel) (by decide +kernel) (firmware_body hq), pair_auth _ _ _ _⟩

/-- A command that passes every check but the last is refused with RESULT 8. -/
theorem bad_of {k : AuthKind} {c r s : Nat} {body : List Nat} {t : Thermal} {u : Sup} (hn : (Config.nonce 0).toNat = 0)
    (hv : ecdsaVerify pubkey0 (sha256Bytes (authCmd k c body r s).signed) (authCmd k c body r s).sig = true)
    (hp : parseAuth (bufferBytes (authDev c body r s t u)) = some (authCmd k c body r s))
    (hr : authRight (authState c body r s t u).env (authCmd k c body r s) .factory = true)
    (hb : authBody (authState c body r s t u).env (authDev c body r s t u) (authCmd k c body r s) = false) :
    submitted (authState c body r s t u).env k (authState c body r s t u).dev = .bad 8 := by
  have hd : (authState c body r s t u).dev = authDev c body r s t u := rfl
  have hsub : (authDev c body r s t u).auth.submit = some { origin := .spi } := rfl
  have hnn : (authDev c body r s t u).auth.nonce = 1 := rfl
  have hf : (authState c body r s t u).env.fix = some fix0 := rfl
  have hu : (authState c body r s t u).env.uid = 0 := rfl
  have hk0 : fix0.key .factory = sha256 pubkey0 := pubkey0_hash
  simp [submitted, hd, hsub, hp, authCheck, hnn, hu, hn, authKey, hf, hk0, hv, hr, hb, authCmd] at *

/-- A section that is no signed one. -/
theorem bad_firmware (hn : (Config.nonce 0).toNat = 0) :
    submitted (authState 4 [0, 0, 0, 0] 0xb77b96375b37d2db4c761e1be623efe46311d63ba49959d9e30031aa325035ed
      0x5156360dce65fc0bc48feddce51b46b92e3f5df4e50125756fde8fbef82040e5).env .firmware
      (authState 4 [0, 0, 0, 0] 0xb77b96375b37d2db4c761e1be623efe46311d63ba49959d9e30031aa325035ed
        0x5156360dce65fc0bc48feddce51b46b92e3f5df4e50125756fde8fbef82040e5).dev = .bad 8 :=
  bad_of hn (by decide +kernel) (by decide +kernel) (by decide +kernel) (by simp [authBody, kuhelVerify, authCmd])

theorem witness_AuthorisedCommands_badFirmware (hn : (Config.nonce 0).toNat = 0) :
    ∃ (s : State) (p a : Bool), Running s ∧ submitted s.env .firmware s.dev = .bad 8 ∧ firmwarePair s.dev = some p ∧
      pairIn s.dev .active = some a :=
  ⟨authState 4 [0, 0, 0, 0] 0xb77b96375b37d2db4c761e1be623efe46311d63ba49959d9e30031aa325035ed 0x5156360dce65fc0bc48feddce51b46b92e3f5df4e50125756fde8fbef82040e5, true, false, running_auth _ _ _ _ _ _, bad_firmware hn, rfl, rfl⟩

theorem witness_AuthorisedCommands_badFirmware_none (hn : (Config.nonce 0).toNat = 0) :
    ∃ (s : State), Running s ∧ submitted s.env .firmware s.dev = .bad 8 ∧ firmwarePair s.dev = none :=
  ⟨authState 4 [0, 0, 0, 0] 0xb77b96375b37d2db4c761e1be623efe46311d63ba49959d9e30031aa325035ed 0x5156360dce65fc0bc48feddce51b46b92e3f5df4e50125756fde8fbef82040e5 {} { b := { st := .failed } }, running_auth _ _ _ _ _ _,
   bad_of hn (by decide +kernel) (by decide +kernel) (by decide +kernel) (by simp [authBody, kuhelVerify, authCmd]), rfl⟩

theorem witness_AuthorisedCommands_badFirmware_noActive (hn : (Config.nonce 0).toNat = 0) :
    ∃ (s : State) (p : Bool), Running s ∧ submitted s.env .firmware s.dev = .bad 8 ∧ firmwarePair s.dev = some p ∧
      pairIn s.dev .active = none :=
  ⟨authState 4 [0, 0, 0, 0] 0xb77b96375b37d2db4c761e1be623efe46311d63ba49959d9e30031aa325035ed 0x5156360dce65fc0bc48feddce51b46b92e3f5df4e50125756fde8fbef82040e5 {} { a := { st := .failed } }, true, running_auth _ _ _ _ _ _,
   bad_of hn (by decide +kernel) (by decide +kernel) (by decide +kernel) (by simp [authBody, kuhelVerify, authCmd]), rfl, rfl⟩

theorem witness_AuthorisedCommands_fixative_barred (hn : (Config.nonce 0).toNat = 0) :
    ∃ (s : State) (b : By) (r : Role) (c : AuthCmd), Running s ∧ submitted s.env .fixative s.dev = .good b r c ∧ nvBarred s.dev = true :=
  ⟨authState 2 body2 0x50930f9584a639187681afb28defaf7d606981af76370bde7e6fcfb5a99acb87
      0xd6b22f42f819680fbcf3874a32b900c8031c8a5c5bbd26b4d386a6adc4226d1d { sd := true }, _, _, _, running_auth _ _ _ _ _ _,
   good_of (k := .fixative) hn (by decide +kernel) (by decide +kernel) (by decide +kernel) (by decide +kernel), rfl⟩

theorem witness_AuthorisedCommands_usercal_barred (hn : (Config.nonce 0).toNat = 0) :
    ∃ (s : State) (b : By) (r : Role) (c : AuthCmd), Running s ∧ submitted s.env .usercal s.dev = .good b r c ∧ nvBarred s.dev = true :=
  ⟨authState 3 [0, 0, 0, 0] 0x257272c9ebba30510ee3327bd306323f880c59e9cadff78d63bb77ea5b60ccf0
      0xd46b63a303103687bba4d595601e63b9ff361dee05323e67d2777d2507940a30 { sd := true }, _, _, _, running_auth _ _ _ _ _ _,
   good_of (k := .usercal) hn (by decide +kernel) (by decide +kernel) (by decide +kernel) (by decide +kernel), rfl⟩

/-- The Fixative slot that an accepted FIXATIVE command leaves. -/
def slot2 : FixSlot :=
  slotOf .factory (authCmd .fixative 2 body2 0x50930f9584a639187681afb28defaf7d606981af76370bde7e6fcfb5a99acb87
    0xd6b22f42f819680fbcf3874a32b900c8031c8a5c5bbd26b4d386a6adc4226d1d)

theorem slot2_sound : slot2.sound := ⟨slotOf_valid _ _, by decide +kernel, by decide +kernel⟩

/-- A part with that Fixative in force from slot 0. -/
def fixed0 : State := { run0 with env := { run0.env with fix := some slot2.fix, slot0 := some slot2 }, pending := [.fixativeTakeEffect] }

theorem fixed0_wf : fixed0.env.fixWf :=
  ⟨rfl, fun x h => by cases h; exact slot2_sound, nofun, nofun, fun _ g h => by cases h⟩

theorem witness_FixativeAreaKept : ∃ (s t : State), s.env.fixWf ∧ step s = .next t := ⟨fixed0, _, fixed0_wf, rfl⟩

theorem witness_FixativeNeverGoesBack : ∃ (s t : State) (f : Fix), s.env.fixWf ∧ step s = .next t ∧ s.env.fix = some f :=
  ⟨fixed0, _, slot2.fix, fixed0_wf, rfl, rfl⟩

/-! ### Ill-formed commands -/

theorem test_wf_instant : (Instr.ppsEdge 122881).wf = false ∧ (Instr.ppsEdge 122880).wf = true := by decide

theorem test_wf_unmapped_read : (Instr.unmappedRead spi 0x0010C010#32).wf = false ∧ (Instr.unmappedRead spi 0x0010C03C#32).wf = true := by
  decide +kernel

theorem test_wf_period_bins :
    (Instr.controlPeriodBoundary { slices := [{ s := 0, pw := 0, pk := 0, raw := 0, bins := [] }] }).wf = false := by decide

theorem test_wf_period_twice : (Instr.controlPeriodBoundary { rx := [⟨7, 0, 0, 0, 0⟩, ⟨7, 0, 0, 0, 0⟩] }).wf = false := by decide

theorem test_wf_period_clipped : (Instr.frameTimeStep { rx := [⟨7, 0, 0, 5, 4⟩] }).wf = false := by decide

theorem test_wf_period_slices : (Instr.frameTimeStep { slices := [⟨3, 0, 0, 0, List.replicate 8 0⟩, ⟨3, 0, 0, 0, List.replicate 8 0⟩] }).wf = false := by
  decide

theorem test_wf_period_tx : (Instr.frameTimeStep { tx := [⟨3, 0, 0, 0, 0⟩, ⟨3, 0, 0, 0, 0⟩] }).wf = false := by decide

theorem test_wf_start : (Instr.coldStart { primary := [256] }).wf = false ∧ (Instr.warmRestart { secondary := [256] }).wf = false := by decide

theorem test_wf_revert : (Instr.revertDwellExpiry 0).wf = false := by decide

theorem test_wf_rffe :
    (Instr.rffeRegisterWrite spi 0 (SYN_RFFE_CMD.TYPE.into 1 0#32)).wf = false ∧ (Instr.rffeExtRegisterWrite spi 0 0#32).wf = false ∧
    (Instr.rffeExtRegisterWriteLong spi 0 0#32).wf = false ∧ (Instr.rffeRegisterRead spi 0 0#32).wf = false ∧
    (Instr.rffeSequenceDone 0 256 true).wf = false := by decide

theorem test_wf_block : (Instr.cnlBlockEnd 0 (List.replicate 63 (0, 0)) [] 0).wf = false ∧
    (Instr.cnlBlockEnd 0 (List.replicate 64 (0, 0)) [(8, List.replicate 64 (0, 0))] 0).wf = false := by decide

theorem test_wf_sweep : (Instr.sweepSegmentEnd [] 0 0).wf = false := by decide

theorem test_wf_faults : (Instr.faultRaise 0 0 0).wf = false ∧ (Instr.faultClear 0 0).wf = false ∧ (Instr.runoutExpiry [3, 3]).wf = false ∧
    (Instr.claimExtensionExpiry [3, 3]).wf = false ∧ (Instr.bdacSlewStep [3, 3]).wf = false := by decide

theorem test_wf_transaction : (Instr.spiWriteTransaction 0#32 (List.replicate 129 0#32) false).wf = false := by decide +kernel

theorem test_wf_frame : (Instr.towWrite true { pay := [256] } 0).wf = false ∧ (Instr.towWrite true { len := 257 } 0).wf = false ∧
    (Instr.towWrite true { len := 6 } 0).wf = false ∧ (Instr.towWrite true {} 122881).wf = false := by decide

/-- A command whose row names a bit that is written with 1, given with that bit 0. -/
theorem test_wf_bit_one :
    ([.glbLockSet spi 0#32, .groupRearm spi 0 0#32, .calRequest spi 0#32, .sliceEnable spi 0 0#32, .captureArm spi 0#32,
      .captureRelease spi 0#32, .glazeSwapRequest spi 0 0#32, .glazeSetSwapRequest spi 0 0#32, .cnlClear spi 0 0#32, .probeStart spi 0#32,
      .probeAbort spi 0#32, .loopRearmOvr spi 0#32, .stencilAttach spi 0 0#32, .stencilRestart spi 0 0#32, .carveFlush spi 0#32,
      .templateEnable spi 0 0#32, .directActionGo spi 0#32 0, .patrolLocalStop spi 0#32, .patrolSliceRelease spi 0#32,
      .patrolRelStop spi .factory 0#32, .patrolRelDl spi .factory 0#32, .patrolRelUl spi .factory 0#32, .faultClaim spi 0#32,
      .faultAck spi ⟨0#32, []⟩, .faultAckAll spi ⟨0#32, []⟩, .faultAckAuth spi .factory ⟨0#32, []⟩, .heartbeatWrite spi 0#32] : List Instr).all (fun c => !c.wf) = true := by
  decide

theorem test_wf_bit_one_more :
    ([.faultInjectEvent spi 0#32, .faultInjectRaise spi 0#32, .faultInjectClear spi 0#32, .recorderFlushCmd spi 0#32, .timeMark spi 0#32,
      .varnishClear spi .factory 0#32, .paletteClear spi .factory 0#32, .bdacEnable spi 0 0#32, .bdacStrobeAll spi 0#32,
      .bdacTimerArm spi 0#32 0, .bdacSpanChange spi 0 0#32, .bdacSineStart spi 0 0#32, .sleepRequest spi 0#32, .supCtlWarm spi .factory 0#32,
      .retainedCommitCmd spi 0#32, .retainedDiscard spi .factory 0#32, .spareMove spi 0#32, .spareReturn spi 0#32,
      .handoverGo spi .factory 0#32 0, .authOpen spi 0#32, .authAbort spi 0#32, .towEnumCmd spi 0#32, .towPromoteCmd spi 0#32,
      .towMbxSend spi 0#32, .towMbxPop spi 0#32, .towTimeSet spi 0#32 0, .pairTokenRelease spi 0#32] : List Instr).all (fun c => !c.wf) = true := by
  decide

/-- A command whose row names a bit that is written with 0, given with that bit 1. -/
theorem test_wf_bit_zero :
    ([.sliceDisable spi 0 0xFFFFFFFF#32, .glazeSwapRequest spi 0 0xFFFFFFFF#32, .stencilDetach spi 0 0xFFFFFFFF#32, .carveDisable spi 0xFFFFFFFF#32,
      .templateDisable spi 0 0xFFFFFFFF#32, .bdacDisable spi 0 0xFFFFFFFF#32, .bdacSineStop spi 0 0xFFFFFFFF#32,
      .spareMove spi 0xFFFFFFFF#32] : List Instr).all (fun c => !c.wf) = true := by decide

/-! ### Single steps and figures of the manual -/

theorem test_reset_idles : step State.reset = .next State.reset := rfl

/-- The worked addresses of the register summary. -/
theorem test_addresses :
    RegName.SLC_GAIN.addr 48 0 = 0x0010C010 ∧ RegName.CNL_EFF.addr 48 0 = 0x00203014 ∧ RegName.LOOP_SP.addr 196 0 = 0x0030620C ∧
    RegName.STN_BIN.addr 0 118 = 0x003809D8 ∧ RegName.PTL_TRIM.addr 52 0 = 0x004014D0 := by decide +kernel

/-- A service read of offset 0x03C in the block of slice 48 returns 0 and reports source 0x10 (register summary, R486). -/
theorem test_unmapped_slice_word : occupant {} {} 0x0010C03C = none ∧ unmappedSrc {} 0x0010C03C = 0x10 := by decide +kernel

theorem test_unmapped_sources : unmappedSrc {} 0x00060000 = 0x05 ∧ unmappedSrc {} 0x00900000 = 0x88 := by decide +kernel

/-- The latency figures of the C6 slice with 255 taps (R150's example): N_lat, MINLAT, the delay line. -/
theorem test_latency_c6 : nLat 300 = 2949 ∧ minLat 6 255 = 1872 ∧ nLat 300 - minLat 6 255 = 1077 := by decide

/-- The blocks of a slice of carrier N: one of the delay line, two of the canceller (chapter 5's example). -/
theorem test_blocks_carrier_n : delayBlocks 6 300 = 1 ∧ cnlBlocks 4 160 = 2 := by decide

/-- Slice units: C7 8 slices 256, C6 8 slices 128 (chapter 5's example). -/
theorem test_slice_units : 8 * suOf 7 = 256 ∧ 8 * suOf 6 = 128 := by decide

/-- SLC_CFG0 of slice 55 of carrier N (chapter 5's example). -/
theorem test_cfg0_slice_55 : SLC_CFG0.DIR.of 0xF3620D33#32 = 1 ∧ SLC_CFG0.SRC.of 0xF3620D33#32 = 7 ∧ SLC_CFG0.SINK.of 0xF3620D33#32 = 3 ∧
    SLC_CFG0.CLASS.of 0xF3620D33#32 = 6 ∧ SLC_CFG0.WIDTH.of 0xF3620D33#32 = 2 ∧ SLC_CFG0.MSET.of 0xF3620D33#32 = 13 ∧
    SLC_CFG0.BRANCH.of 0xF3620D33#32 = 3 ∧ SLC_CFG0.PRIO.of 0xF3620D33#32 = 3 := by decide

/-- Table 0 after reset (R200). -/
theorem test_lut_reset : RegName.LOOP_LUT.resetWord 0 32 = 3200#32 ∧ RegName.LOOP_LUT.resetWord 0 36 = 28800#32 ∧
    RegName.LOOP_LUT.resetWord 0 37 = 32767#32 ∧ RegName.LOOP_LUT.resetWord 31 37 = 0#32 := by decide +kernel

/-- A parking channel with SLEW 4 moves 4 codes a step (chapter 14's example: 1,474 towards PARK 0). -/
theorem test_slew_step :
    ((bdacStep 12 ((dev0.setReg .BDAC_CFG 12 0 (BDAC_CFG.SLEW.into 4 0#32)).setChan 12 { st := .parking, t := 1474, out := 1474 })).chan 12).out = 1470 := by
  decide +kernel

/-- The range check of carrier N: 3,600 MHz and the NCO word 0x32C80000 lie inside, an edge above 7,200 MHz does not (R128). -/
theorem test_range_carrier_n : rangeSide (393216000 * 20) (ncoInt 0x32C80000) 6 = true ∧ rangeSide (786432000 * 20) (ncoInt 0x32C80000) 6 = false := by
  decide

/-- The operating-time tick counts once (R52). -/
theorem test_tick : (match step { run0 with pending := [.operatingTimeTick] } with | .next t => t.env.opt | _ => 0) = 1 := by decide +kernel

/-- A write at an address that is no multiple of 4 is discarded (log entry 30). -/
theorem test_misaligned : (match exec (.registerWrite spi 0x0010C011#32 1#32) run0 with | .next t => t.dev.loop 48 | _ => {}) = run0.dev.loop 48 := by
  decide +kernel

/-- 30.00 dB written to SLC_GAIN[48] is the manual value of loop 48 (R133). -/
theorem test_gain : (match exec (.registerWrite spi 0x0010C010#32 0x00000BB8#32) run0 with | .next t => (t.dev.loop 48).man | _ => none) = some 3000 := by
  decide +kernel

end Sys2Proof.Tests
end

section
/-! The register map of R487: two registers of one block lie apart and no register leaves its block, so an address names one
register and index; what a store changes and what the register file holds after reset follow. -/
namespace Sys2Proof.Machine

/-! ### Places -/

/-- The highest word address of a place. -/
def Place.last (p : Place) : Nat := p.base + p.stride * (p.n - 1) + p.stride2 * (p.n2 - 1)

/-- The words of one index lie inside the stride, at different addresses. -/
def Place.Roomy (p : Place) : Prop := 0 < p.stride2 ∧ p.stride2 * (p.n2 - 1) < p.stride

/-- The words of one index stay between two multiples of the stride. -/
def Place.InLane (p : Place) : Prop := p.base % p.stride + p.stride2 * (p.n2 - 1) < p.stride

/-- One place ends before the other begins. -/
def Place.Before (p q : Place) : Prop := p.last < q.base

/-- Two places take turns, and inside the common stride the words of one lie before those of the other. -/
def Place.LaneBefore (p q : Place) : Prop :=
  p.stride = q.stride ∧ p.InLane ∧ q.InLane ∧ p.base % p.stride + p.stride2 * (p.n2 - 1) < q.base % q.stride

/-- Words of two places alternate (FIX_RANGE_LO and FIX_RANGE_HI). -/
def Place.Interleaved (p q : Place) : Prop :=
  p.stride2 ∣ p.stride ∧ p.stride2 ∣ q.stride ∧ p.stride2 ∣ q.stride2 ∧ p.base % p.stride2 ≠ q.base % p.stride2

/-- Why no word of one place is a word of the other. -/
def Place.Apart (p q : Place) : Prop :=
  p.Before q ∨ q.Before p ∨ p.LaneBefore q ∨ q.LaneBefore p ∨ p.Interleaved q

/-! ### The register summary -/

theorem place_roomy (n : RegName) : n.place.Roomy := by
  unfold Place.Roomy
  cases n <;> decide

/-- A register ends in the block it begins in. -/
theorem blockOf_last (n : RegName) : blockOf n.place.last = n.block := by
  unfold Place.last RegName.block
  cases n <;> decide

theorem mem_blockRegs (n : RegName) : n ∈ blockRegs n.block := by
  cases n <;> decide

theorem blockRegs_apart (n : RegName) : ∀ m ∈ blockRegs n.block, m = n ∨ m.place.Apart n.place := by
  unfold Place.Apart Place.Before Place.LaneBefore Place.Interleaved Place.InLane Place.last
  cases n <;> decide +kernel

/-! ### Addresses and places -/

section
variable {n m : RegName} {i j k l : Nat}

theorem base_le_addr (n : RegName) (i j : Nat) : n.place.base ≤ n.addr i j := by
  unfold RegName.addr; omega

theorem addr_le_last (hi : i < n.place.n) (hj : j < n.place.n2) : n.addr i j ≤ n.place.last := by
  have h1 : n.place.stride * i ≤ n.place.stride * (n.place.n - 1) := Nat.mul_le_mul_left _ (by omega)
  have h2 : n.place.stride2 * j ≤ n.place.stride2 * (n.place.n2 - 1) := Nat.mul_le_mul_left _ (by omega)
  unfold RegName.addr Place.last; omega

theorem word_le_last (hj : j < n.place.n2) : n.place.stride2 * j ≤ n.place.stride2 * (n.place.n2 - 1) :=
  Nat.mul_le_mul_left _ (by omega)

/-- Inside its stride a word lies where it lies at index 0. -/
theorem addr_mod_stride (h : n.place.InLane) (hj : j < n.place.n2) :
    n.addr i j % n.place.stride = n.place.base % n.place.stride + n.place.stride2 * j := by
  have hw := word_le_last hj
  unfold Place.InLane at h
  calc n.addr i j % n.place.stride
      = (n.place.base + n.place.stride2 * j) % n.place.stride := by
        rw [RegName.addr, Nat.add_right_comm, Nat.add_mul_mod_self_left]
    _ = n.place.base % n.place.stride + n.place.stride2 * j := by
        rw [Nat.add_mod, Nat.mod_eq_of_lt (show n.place.stride2 * j < n.place.stride by omega), Nat.mod_eq_of_lt (by omega)]

theorem addr_ne_of_before (h : n.place.Before m.place) (hi : i < n.place.n) (hj : j < n.place.n2) : n.addr i j ≠ m.addr k l := by
  have hn := addr_le_last hi hj
  have hm := base_le_addr m k l
  unfold Place.Before at h; omega

theorem addr_ne_of_laneBefore (h : n.place.LaneBefore m.place) (hj : j < n.place.n2) (hl : l < m.place.n2) :
    n.addr i j ≠ m.addr k l := by
  obtain ⟨hs, hn, hm, hlt⟩ := h
  intro e
  have hn : n.addr i j % _ = _ := addr_mod_stride hn hj
  have hm : m.addr k l % _ = _ := addr_mod_stride hm hl
  have hw := word_le_last hj
  rw [e, hs] at hn
  rw [hs] at hlt
  omega

theorem addr_ne_of_interleaved (h : n.place.Interleaved m.place) : n.addr i j ≠ m.addr k l := by
  obtain ⟨hn, hm, hm2, hne⟩ := h
  intro e
  have hn : n.addr i j % n.place.stride2 = n.place.base % n.place.stride2 := by
    rw [RegName.addr, Nat.add_mul_mod_self_left, Nat.add_mod, Nat.mod_eq_zero_of_dvd (hn.mul_right i), Nat.add_zero, Nat.mod_mod]
  have hm : m.addr k l % n.place.stride2 = m.place.base % n.place.stride2 := by
    rw [RegName.addr, Nat.add_assoc, Nat.add_mod,
      Nat.mod_eq_zero_of_dvd (Nat.dvd_add (hm.mul_right k) (hm2.mul_right l)), Nat.add_zero, Nat.mod_mod]
  exact hne (by rw [← hn, ← hm, e])

/-- Places that lie apart have no address in common. -/
theorem addr_ne_of_apart (h : n.place.Apart m.place) (hi : i < n.place.n) (hj : j < n.place.n2) (hk : k < m.place.n)
    (hl : l < m.place.n2) : n.addr i j ≠ m.addr k l := by
  rcases h with h | h | h | h | h
  · exact addr_ne_of_before h hi hj
  · exact (addr_ne_of_before h hk hl).symm
  · exact addr_ne_of_laneBefore h hj hl
  · exact (addr_ne_of_laneBefore h hl hj).symm
  · exact addr_ne_of_interleaved h

end

/-! ### The block of an address -/

/-- One level of the search for a block keeps the order where the levels under it do and stay below its value. -/
theorem monotone_step {f : Nat → Nat} {c v : Nat} (hf : Monotone f) (hv : f (c - 1) ≤ v) : Monotone fun x => if x ≥ c then v else f x := by
  intro x y hxy
  dsimp only
  split_ifs with hx hy
  · exact le_rfl
  · omega
  · exact (hf (by omega)).trans hv
  · exact hf hxy

/-- A higher address lies in the same block or in a higher one. -/
theorem blockOf_mono : Monotone blockOf := by
  suffices h : Monotone fun x => blockOf (x * 0x10000) by
    intro a b hab
    have he : ∀ x, blockOf x = blockOf (x / 0x10000 * 0x10000) := fun x => by simp [blockOf]
    rw [he a, he b]
    exact h (Nat.div_le_div_right hab)
  unfold blockOf
  simp only [Nat.mul_div_cancel _ (show 0 < 0x10000 by decide)]
  iterate 18 refine monotone_step ?_ (by decide)
  exact monotone_id

/-- Every word of a register lies in the register's block. -/
theorem blockOf_addr (n : RegName) {i j : Nat} (hi : i < n.place.n) (hj : j < n.place.n2) : blockOf (n.addr i j) = n.block :=
  le_antisymm (blockOf_last n ▸ blockOf_mono (addr_le_last hi hj)) (blockOf_mono (base_le_addr n i j))

/-! ### Finding a register -/

/-- A register is found at the address of each of its words. -/
theorem at?_addr (n : RegName) {i j : Nat} (hi : i < n.place.n) (hj : j < n.place.n2) : n.at? (n.addr i j) = some ⟨n, i, j⟩ := by
  obtain ⟨hpos, hroom⟩ := place_roomy n
  have hw : n.place.stride2 * j < n.place.stride := Nat.lt_of_le_of_lt (word_le_last hj) hroom
  have hoff : n.addr i j - n.place.base = n.place.stride2 * j + n.place.stride * i := by unfold RegName.addr; omega
  have hdiv : (n.place.stride2 * j + n.place.stride * i) / n.place.stride = i := by
    rw [Nat.add_mul_div_left _ _ (by omega), Nat.div_eq_of_lt hw, Nat.zero_add]
  have hmod : (n.place.stride2 * j + n.place.stride * i) % n.place.stride = n.place.stride2 * j := by
    rw [Nat.add_mul_mod_self_left, Nat.mod_eq_of_lt hw]
  unfold RegName.at?
  simp [Nat.not_lt.mpr (base_le_addr n i j), hoff, hdiv, hmod, Nat.mul_div_cancel_left j hpos, hi, hj]

/-- What is found at an address has that address. -/
theorem addr_of_at? {m : RegName} {a : Nat} {r : Reg} (h : m.at? a = some r) :
    r.i < m.place.n ∧ r.j < m.place.n2 ∧ m.addr r.i r.j = a := by
  unfold RegName.at? at h
  dsimp only at h
  split at h
  · cases h
  · next hb =>
    split at h
    · next hr =>
      obtain ⟨hi, hz, hj⟩ := hr
      cases h
      refine ⟨hi, hj, ?_⟩
      have h1 := Nat.div_add_mod (a - m.place.base) m.place.stride
      have h2 := Nat.div_add_mod ((a - m.place.base) % m.place.stride) m.place.stride2
      unfold RegName.addr; dsimp only; omega
    · cases h

/-- The search of a list answers what its one register at the address answers. -/
theorem findIn_of_mem {n : RegName} {a : Nat} {r : Reg} (ha : n.at? a = some r) :
    ∀ {ns : List RegName}, n ∈ ns → (∀ m ∈ ns, m = n ∨ m.at? a = none) → findIn ns a = some r
  | m :: ns, hn, hm => by
    rcases hm m List.mem_cons_self with rfl | hnone
    · simp [findIn, ha]
    · have hne : n ≠ m := by rintro rfl; simp [ha] at hnone
      have hrest := findIn_of_mem ha (List.mem_of_ne_of_mem hne hn) fun k hk => hm k (List.mem_cons_of_mem _ hk)
      simp [findIn, hnone, hrest]

/-- The search finds a register word at its address. -/
theorem findReg_addr (n : RegName) {i j : Nat} (hi : i < n.place.n) (hj : j < n.place.n2) : findReg (n.addr i j) = some ⟨n, i, j⟩ := by
  unfold findReg
  rw [blockOf_addr n hi hj]
  refine findIn_of_mem (at?_addr n hi hj) (mem_blockRegs n) fun m hm => ?_
  refine (blockRegs_apart n m hm).imp_right fun hap => Option.eq_none_iff_forall_ne_some.mpr fun r hr => ?_
  obtain ⟨hk, hl, he⟩ := addr_of_at? hr
  exact addr_ne_of_apart hap hk hl hi hj he

/-- Two register words with one address are the same. -/
theorem addr_inj {n m : RegName} {i j k l : Nat} (hi : i < n.place.n) (hj : j < n.place.n2) (hk : k < m.place.n)
    (hl : l < m.place.n2) (h : n.addr i j = m.addr k l) : (⟨n, i, j⟩ : Reg) = ⟨m, k, l⟩ :=
  Option.some.inj ((findReg_addr n hi hj).symm.trans (h ▸ findReg_addr m hk hl))

/-- Settles O9: within a block the places of the registers lie apart, so the search stops at the register itself. -/
theorem addressesNameOneRegister : Obligations.AddressesNameOneRegister :=
  fun n _ _ hi hj => findReg_addr n hi hj

/-- Settles O10: another register word stands at another address, which the store leaves alone. -/
theorem storeTouchesOneWord : Obligations.StoreTouchesOneWord := by
  intro d n m i j k l w hi hj hk hl
  refine ⟨setReg_same d n i j w, fun hne => setReg_other d n m i j k l w fun h => hne ?_⟩
  exact addr_inj hi hj hk hl h.symm

/-- The register file is empty after reset, so every register reads its reset word. -/
theorem reset_reg (n : RegName) (i j : Nat) : State.reset.dev.reg n i j = n.resetWord i j := rfl

theorem loopFloor_slice {i : Nat} (h : i < 192) : RegName.LOOP_LIM.resetWord i 0 = 0x0000F448#32 := by
  simp [RegName.resetWord, h]

theorem loopFloor_chain {i : Nat} (h : 192 ≤ i) (h' : i < 200) : RegName.LOOP_LIM.resetWord i 0 = 0x0000F060#32 := by
  simp [RegName.resetWord, Nat.not_lt.mpr h, h']

theorem loopFloor_free {i : Nat} (h : 200 ≤ i) : RegName.LOOP_LIM.resetWord i 0 = 0#32 := by
  simp [RegName.resetWord, show ¬i < 192 by omega, Nat.not_lt.mpr h]

/-- Settles O11: each number is the reset word of its register. -/
theorem resetRegisters : Obligations.ResetRegisters := by
  refine ⟨reset_reg, rfl, rfl, rfl, rfl, rfl, rfl, rfl, rfl, rfl, rfl, fun i hi => ?_, fun i hi hi' => ?_, fun i hi _ => ?_⟩
  · rw [reset_reg, loopFloor_slice hi]
  · rw [reset_reg, loopFloor_chain hi hi']
  · rw [reset_reg, loopFloor_free hi]

end Sys2Proof.Machine
end

section
/-! REGISTER_WRITE: what becomes of a plain word, by the checks it meets on its way to a register (R18, R382, R394, R398) and
by what R500 makes of it there. -/
namespace Sys2Proof.Machine

/-- Settles O13: the word passes every check of `hostWrite`. -/
theorem acceptedWrite : Obligations.AcceptedWrite := by
  intro s src a w n i j ha _ hf hacc hr
  rw [exec_registerWrite]
  refine lift_eq s _ _ hacc.1.1 ?_
  rw [ha]
  exact hostWrite_accepted s src.plain n i j w _ hf hacc hr rfl

/-! ### Words that reach no register -/

/-- Where the core runs, REGISTER_WRITE is one write and the end of its batch. -/
theorem exec_registerWrite_runs (s : State) (src : Src) (a w : Word) (h : Running s) :
    exec (.registerWrite src a w) s = .next (s.then_ (closeBatch s.env src.plain (writeWord s.env src.plain a.toNat w s.dev).d)) := by
  rw [exec_registerWrite]
  exact lift_runs s _ h

section
variable (w : Word) (e : Env) (b : By) (d : Dev)

/-- A word at an address that is no word address is discarded (log entry 30). -/
theorem writeWord_misaligned {a : Nat} (h : a % 4 ≠ 0) : (writeWord e b a w d).d = d := by
  simp [writeWord, h]

/-- A word at an address that no register occupies, while a handover holds its origin (R394). -/
theorem writeWord_unmapped_busy {a : Nat} (h : a % 4 = 0) (ht : writeTarget e d b a = none) (hb : pairBusy d none b = true) :
    (writeWord e b a w d).d = d := by
  simp [writeWord, h, ht, hb]

/-- A word at an address that no register occupies (R18). -/
theorem writeWord_unmapped {a : Nat} (h : a % 4 = 0) (ht : writeTarget e d b a = none) (hb : pairBusy d none b = false) :
    (writeWord e b a w d).d = report e d (Ev.addrUnmapped (unmappedSrc e a)) 0xFF 0 := by
  simp [writeWord, h, ht, hb, noInst]

section
variable {a : Nat} {r : Reg} {e d b} (h : a % 4 = 0) (ht : writeTarget e d b a = some r)
include h ht

/-- A word that the start-up phase keeps out (R382, R14). -/
theorem writeWord_phase_closed (hp : phaseOpen d b = false) : (writeWord e b a w d).d = d := by
  simp [writeWord, h, ht, hp]

/-- A word that a handover holds (R394). -/
theorem writeWord_busy (hp : phaseOpen d b = true) (hb : pairBusy d (some r.name) b = true) : (writeWord e b a w d).d = d := by
  simp [writeWord, h, ht, hp, hb]

/-- A word whose origin SUP_WR_EN closes (R398). -/
theorem writeWord_gated (hp : phaseOpen d b = true) (hb : pairBusy d (some r.name) b = false) (hg : gated d r.name b = true) :
    (writeWord e b a w d).d = d.put SUP_WR_EN.DIS_CNT 0 (satN (d.get SUP_WR_EN.DIS_CNT + 1) 0xFF) := by
  simp [writeWord, h, ht, hp, hb, hg]

end
end

/-- Settles O14: each clause is the check of `writeWord` that stops the word. -/
theorem discardedWrites : Obligations.DiscardedWrites := by
  intro s src a w hrun
  simp only [exec_registerWrite_runs s src a w hrun]
  refine ⟨fun h ht hb => ?_, fun h ht hb => ?_, fun h => ?_, fun r h ht => ⟨fun hp => ?_, fun hp hb => ?_, fun hp hb hg => ?_⟩⟩
  · rw [writeWord_unmapped_busy w s.env src.plain s.dev h ht hb]
  · rw [writeWord_unmapped w s.env src.plain s.dev h ht hb]
  · rw [writeWord_misaligned w s.env src.plain s.dev h]
  · rw [writeWord_phase_closed w h ht hp]
  · rw [writeWord_busy w h ht hp hb]
  · rw [writeWord_gated w h ht hp hb hg]

/-! ### Fields of a word -/

/-- Low bits of a number do not depend on its high bits. -/
theorem bitsOf_mod (x : Nat) {lo len k : Nat} (h : lo + len ≤ k) : bitsOf (x % 2 ^ k) lo len = bitsOf x lo len := by
  obtain ⟨c, rfl⟩ := Nat.exists_eq_add_of_le h
  rw [bitsOf, Nat.add_assoc, Nat.pow_add, Nat.mod_mul_right_div_self, Nat.mod_mod_of_dvd _ (Nat.pow_dvd_pow 2 (Nat.le_add_right len c))]
  rfl

/-- Replacing a field leaves the bits below it. -/
theorem putBits_mod (x lo len v : Nat) : putBits x lo len v % 2 ^ lo = x % 2 ^ lo := by
  have h : putBits x lo len v = x % 2 ^ lo + 2 ^ lo * (x / 2 ^ (lo + len) * 2 ^ len + v % 2 ^ len) := by
    unfold putBits; rw [Nat.pow_add]; ring
  rw [h, Nat.add_mul_mod_self_left, Nat.mod_mod]

/-- Replacing a field of a word leaves every field below it. -/
theorem of_into_below {f g : Fld} (h : g.lo + g.len ≤ f.lo) (hf : f.lo ≤ 32) (v : Nat) (w : Word) : g.of (f.into v w) = g.of w := by
  unfold Fld.of Fld.into
  rw [BitVec.toNat_ofNat, bitsOf_mod _ (by omega), ← bitsOf_mod _ h, putBits_mod, bitsOf_mod _ h]

/-! ### Registers of authorised actions alone -/

/-- An RWA field that acts when written with 1 and reads 0. -/
abbrev Acts (p : Fld × Acc) : Prop := p.2 = .rwa ∧ actionField p.1 = true ∧ hasField p.1 0 = true

/-- Field `p` stands above field `q` in a word. -/
abbrev Above (p q : Fld × Acc) : Prop := q.1.lo + q.1.len ≤ p.1.lo ∧ p.1.lo ≤ 32

/-- A register of action fields alone, listed from the highest down. -/
structure ActionsOnly (n : RegName) : Prop where
  addr_lt : n.addr 0 0 < 2 ^ 32
  fields_ne : n.fields.isEmpty = false
  acts : ∀ p ∈ n.fields, Acts p
  above : n.fields.Pairwise Above

/-- R500 on one action field of a plain word: the field goes to 0, and a 1 in it counts. -/
theorem judgeField_action {p : Fld × Acc} (h : Acts p) (held : Word) (n : RegName) (z : Judged) :
    judgeField held n 0 false p z =
      { z with w := p.1.into 0 z.w, diff := z.diff || p.1.of z.w != 0, fail := z.fail || p.1.of z.w != 0 } := by
  obtain ⟨hrwa, hact, hfld⟩ := h
  simp [judgeField, hrwa, hact, hfld]

/-- R500 on a list of action fields of a plain word, highest first: nothing takes effect, and a 1 in one of them counts. -/
theorem judge_actions (held : Word) (n : RegName) :
    ∀ (l : List (Fld × Acc)) (z : Judged), (∀ p ∈ l, Acts p) → l.Pairwise Above →
      let y := forL l (judgeField held n 0 false) z
      y.takes = z.takes ∧ y.d = z.d ∧ y.fail = (z.fail || l.any fun p => p.1.of z.w != 0)
  | [], z, _, _ => by simp [forL]
  | p :: l, z, hl, hp => by
    have hp1 := judgeField_action (hl p List.mem_cons_self) held n z
    have hstep : forL (p :: l) (judgeField held n 0 false) z = forL l (judgeField held n 0 false) (judgeField held n 0 false p z) := rfl
    obtain ⟨hpl, hp⟩ := List.pairwise_cons.mp hp
    have hbelow : (l.any fun q => q.1.of (p.1.into 0 z.w) != 0) = l.any fun q => q.1.of z.w != 0 := by
      rw [Bool.eq_iff_iff, List.any_eq_true, List.any_eq_true]
      exact exists_congr fun q => and_congr_right fun hq => by rw [of_into_below (hpl q hq).1 (hpl q hq).2]
    obtain ⟨htakes, hd, hfail⟩ :=
      judge_actions held n l (judgeField held n 0 false p z) (fun q hq => hl q (List.mem_cons_of_mem _ hq)) hp
    rw [hstep]
    simp only [hp1] at htakes hd hfail ⊢
    exact ⟨htakes, hd, by rw [hfail, hbelow, List.any_cons, Bool.or_assoc]⟩

section
variable {n : RegName} (hn : ActionsOnly n) {w : Word} (hw : (n.fields.any fun p => p.1.bit w) = true)
include hn hw

/-- A plain word with a 1 in an action field counts as an authorisation failure and does nothing else. -/
theorem writeReg_action (e : Env) (b : By) (d : Dev) (hb : b.role = none) : (writeReg e b ⟨n, 0, 0⟩ w d).d = countFail true d := by
  have hone : (n.fields.any fun p => p.1.of w != 0) = true := by
    obtain ⟨p, hp, hbit⟩ := List.any_eq_true.mp hw
    exact List.any_eq_true.mpr ⟨p, hp, by simp [eq_of_beq hbit]⟩
  have hj : judgeWord e ⟨n, 0, 0⟩ { by_ := b, i := 0, j := 0, w := w } d =
      forL n.fields (judgeField (view e d n 0 0) n 0 false) { w := w, d := d } := by simp [judgeWord, hb]
  obtain ⟨htakes, hd, hfail⟩ := judge_actions (view e d n 0 0) n n.fields { w := w, d := d } hn.acts hn.above
  simp [writeReg, hj, hn.fields_ne, htakes, hd, hfail, hone]

/-- REGISTER_WRITE of such a word. -/
theorem exec_registerWrite_action (s : State) (src : Src) (hr : Reaches s src.plain n 0 0) :
    exec (.registerWrite src (BitVec.ofNat 32 (n.addr 0 0)) w) s = .next (s.then_ (closeBatch s.env src.plain (countFail true s.dev))) := by
  rw [exec_registerWrite]
  refine lift_eq s _ _ hr.1 ?_
  rw [BitVec.toNat_ofNat, Nat.mod_eq_of_lt hn.addr_lt, hostWrite_reaches s src.plain n 0 0 w hr,
    writeReg_action hn hw s.env src.plain s.dev rfl]

end

theorem supCtl_actionsOnly : ActionsOnly .SUP_CTL := ⟨by decide, rfl, by decide, by decide⟩
theorem supHoCtl_actionsOnly : ActionsOnly .SUP_HO_CTL := ⟨by decide, rfl, by decide, by decide⟩
theorem ptlRel_actionsOnly : ActionsOnly .PTL_REL := ⟨by decide, rfl, by decide, by decide⟩

/-- Settles O15: the three registers hold action fields alone. -/
theorem plainWriteOfAuthorisedAction : Obligations.PlainWriteOfAuthorisedAction := by
  intro s src w
  refine ⟨fun hr hw => ?_, fun hr hw => ?_, fun hr hw => ?_⟩
  · exact exec_registerWrite_action supCtl_actionsOnly (by simpa [RegName.fields] using hw) s src hr
  · exact exec_registerWrite_action supHoCtl_actionsOnly (by simpa [RegName.fields] using hw) s src hr
  · exact exec_registerWrite_action ptlRel_actionsOnly (by simpa [RegName.fields, or_assoc] using hw) s src hr

end Sys2Proof.Machine
end

section
/-! The test port (R13, R14), the reads with an effect (R488) and the service SPI (R482). -/
namespace Sys2Proof.Machine

/-! ### The test port -/

section
variable (d : Dev)

theorem jtagExtest_open {x : ScanIn} (h : scanOpen d x.testMode = true) :
    jtagExtest x d = d.modJtag fun j => { j with ir := .extest, cells := x.cells, drive := some x.cells } := by
  simp [jtagExtest, h]

theorem jtagExtest_closed {x : ScanIn} (h : scanOpen d x.testMode = false) : jtagExtest x d = jtagBypass false d := by
  simp [jtagExtest, h]

theorem jtagSample_open {pins : List Bool} (cells : List Bool) (h : scanOpen d (scanLevel pins (.strap 4)) = true) :
    jtagSample pins cells d = d.modJtag fun j => { j with ir := .sample, scan := pins, cells := cells, drive := none } := by
  simp [jtagSample, h]

theorem jtagSample_closed {pins : List Bool} (cells : List Bool) (h : scanOpen d (scanLevel pins (.strap 4)) = false) :
    jtagSample pins cells d = jtagBypass false d := by
  simp [jtagSample, h]

section
variable {d} (h : accessOpen d = true) (wr : Bool) (a w : Word)
include h

/-- Debug access is open only while the core runs. -/
theorem coreRuns_of_accessOpen : coreRuns d = true := (Bool.and_eq_true_iff.mp h).1

/-- Update-DR with no access in progress starts one. -/
theorem jtagAccess_start (hacc : d.jtag.acc = none) :
    jtagAccess wr a w d =
      d.modJtag fun j => { j with ir := .regAccess, drive := none, acc := some (wr, a.toNat, w), done := false } := by
  simp [jtagAccess, h, Dev.modJtag, hacc]

/-- Update-DR with an access in progress leaves that access. -/
theorem jtagAccess_busy (hacc : d.jtag.acc.isSome = true) :
    jtagAccess wr a w d = d.modJtag fun j => { j with ir := .regAccess, drive := none } := by
  simp [jtagAccess, h, Dev.modJtag, hacc]

theorem jtagCapture_open : jtagCapture d = d.modJtag fun j => { j with dr := (j.done && j.acc.isNone, j.result, j.data) } := by
  simp [jtagCapture, h]

end

section
variable (e : Env) {d} {a : Nat}

/-- A debug write completes: it is a batch of its own, and its RESULT is that of the word. -/
theorem jtagDone_write {w : Word} (h : d.jtag.acc = some (true, a, w)) :
    jtagDone e d =
      let x := writeWord e { origin := .debug } a w (d.modJtag fun j => { j with acc := none })
      (closeBatch e { origin := .debug } x.d).modJtag fun j => { j with acc := none, done := true, result := x.res, data := 0#32 } := by
  simp [jtagDone, h]

/-- A debug read of a word address completes. -/
theorem jtagDone_read {w : Word} (h : d.jtag.acc = some (false, a, w)) (ha : a % 4 = 0) :
    jtagDone e d =
      (readReg e a d).1.modJtag fun j => { j with acc := none, done := true, result := 0, data := (readReg e a d).2 } := by
  simp [jtagDone, h, ha]

/-- A debug read of another address is malformed. -/
theorem jtagDone_misaligned {w : Word} (h : d.jtag.acc = some (false, a, w)) (ha : a % 4 ≠ 0) :
    jtagDone e d = d.modJtag fun j => { j with acc := none, done := true, result := 3, data := 0#32 } := by
  simp [jtagDone, h, ha]

end
end

/-- In reset an effect on the test port is the whole step. -/
theorem liftLodge_jtag_inReset (s : State) (f : Env → Dev → Dev) {g : Jtag → Jtag} (h : s.dev.pwr.inReset = true)
    (hf : f s.env s.dev = s.dev.modJtag g) : liftLodge f s = .next { s with dev := s.dev.modJtag g } := by
  rw [liftLodge_eq, State.then_, hf, settle_off _ _ (by simp [coreRuns, h])]

/-- Boundary scan is open in reset with TEST_MODE low. -/
theorem scanOpen_inReset {d : Dev} {testMode : Bool} (h : d.pwr.inReset = true) (ht : testMode = false) : scanOpen d testMode = true := by
  simp [scanOpen, h, ht]

/-- Settles O30: each clause is the rule of the port's operation in the case that its hypotheses name. -/
theorem jtagPort : Obligations.JtagPort := by
  intro s
  refine ⟨fun cells hr => ?_, fun pins cells hr ht => ?_, rfl, fun code tdi hc => ?_, fun x hx => ?_, fun pins cells hx => ?_,
    fun a w ho hn => ?_, fun a ho hn => ?_, fun a w ho hs => ?_, fun a ho hs => ?_, fun ho => ?_, fun a w hrun hacc => ?_,
    fun a hrun hacc ha => ?_, fun a hrun hacc ha => ?_⟩
  · exact liftLodge_jtag_inReset s (fun _ d => jtagExtest _ d) hr (jtagExtest_open s.dev (scanOpen_inReset hr rfl))
  · exact liftLodge_jtag_inReset s (fun _ d => jtagSample pins cells d) hr (jtagSample_open s.dev cells (scanOpen_inReset hr ht))
  · rw [exec_bypass, execBypass, liftLodge_eq, if_pos hc]; rfl
  · rw [exec_extest, execExtest, liftLodge_eq, jtagExtest_closed s.dev hx]; rfl
  · rw [exec_samplePreload, execSamplePreload, liftLodge_eq, jtagSample_closed s.dev cells hx]; rfl
  · rw [exec_regAccessWrite, execRegAccessWrite, liftLodge_eq, jtagAccess_start ho true a w hn]; rfl
  · rw [exec_regAccessRead, execRegAccessRead, liftLodge_eq, jtagAccess_start ho false a 0#32 hn]; rfl
  · rw [exec_regAccessWrite, execRegAccessWrite, liftLodge_eq, jtagAccess_busy ho true a w hs]; rfl
  · rw [exec_regAccessRead, execRegAccessRead, liftLodge_eq, jtagAccess_busy ho false a 0#32 hs]; rfl
  · exact lift_eq s (fun _ d => jtagCapture d) _ (coreRuns_of_accessOpen ho) (jtagCapture_open ho)
  · exact lift_eq s _ _ hrun (jtagDone_write s.env hacc)
  · exact lift_eq s _ _ hrun (jtagDone_read s.env hacc ha)
  · exact lift_eq s _ _ hrun (jtagDone_misaligned s.env hacc ha)

/-! ### Reads -/

section
variable {e : Env} {d : Dev}

theorem readReg_unmapped {a : Nat} (h : a % 4 = 0) (ho : occupant e d a = none) :
    readReg e a d = (report e d (Ev.addrUnmapped (unmappedSrc e a)) 0xFF 0, 0#32) := by
  simp [readReg, h, ho, noInst]

/-- A read of LDG_OPT_LO latches LDG_OPT_HI. -/
theorem readReg_optLo (ho : occupant e d (RegName.LDG_OPT_LO.addr 0 0) = some ⟨.LDG_OPT_LO, 0, 0⟩) :
    readReg e (RegName.LDG_OPT_LO.addr 0 0) d = ({ d with hiOpt := e.opt / 2 ^ 32 }, view e d .LDG_OPT_LO 0 0) := by
  simp [readReg, addr_mod_four, ho]

/-- A read of TOW_TIME_LO latches TOW_TIME_HI. -/
theorem readReg_towTimeLo (ho : occupant e d (RegName.TOW_TIME_LO.addr 0 0) = some ⟨.TOW_TIME_LO, 0, 0⟩) :
    readReg e (RegName.TOW_TIME_LO.addr 0 0) d = ({ d with hiTow := towNow d / 2 ^ 32 % 2 ^ 32 }, view e d .TOW_TIME_LO 0 0) := by
  simp [readReg, addr_mod_four, ho]

/-- A read command answers the word of the read. -/
theorem readAt_of_readReg {a : Nat} {p : Dev × Word} (h : readReg e a d = p) : readAt a e d = { p.1 with answer := [p.2] } := by
  rw [readAt, h]

/-! ### The service SPI -/

/-- A transaction has at most 128 words. -/
theorem spiWords_le (cmd : Word) : spiWords cmd ≤ 128 := by
  have := Nat.mod_lt (cmd.toNat / 2 ^ 24) (show 2 ^ 7 > 0 by decide)
  unfold spiWords bitsOf; omega

theorem spiWrite_aligned {cmd : Word} (words : List Word) (cut : Bool) (ha : spiAddr cmd % 4 = 0) :
    spiWrite e cmd words cut d =
      let z := writeAll e { origin := .spi } ((List.range (words.take (spiWords cmd)).length).zip (words.take (spiWords cmd)) |>.map
        fun p => (spiAddr cmd + 4 * p.1, p.2)) { d := d }
      { closeBatch e { origin := .spi } z.d with
        spi := { result := if cut then 3 else z.res, count := satN (z.count + b2n cut) 0xFF }, answer := [spiStatus d] } := by
  simp [spiWrite, ha]

theorem spiRead_served {cmd : Word} (cut : Option Nat) (ha : spiAddr cmd % 4 = 0) (hh : handoverHolds d = false)
    (hf : firmwareUp d = true) :
    spiRead e cmd cut d =
      let p := readAll e ((List.range (min (spiWords cmd) (cut.getD 128))).map fun k => spiAddr cmd + 4 * k) d
      { p.1 with spi := { result := if cut.isSome then 3 else 0, count := 0 }, answer := [spiStatus d, 0#32] ++ p.2 } := by
  simp [spiRead, ha, hh, hf]

/-- Before the firmware runs a read answers zeros (R382, log entry 110). -/
theorem spiRead_early {cmd : Word} (ha : spiAddr cmd % 4 = 0) (hh : handoverHolds d = false) (hf : firmwareUp d = false) :
    spiRead e cmd none d =
      { d with spi := { result := 5, count := 0 }, answer := [spiStatus d, 0#32] ++ List.replicate (spiWords cmd) 0#32 } := by
  simp [spiRead, ha, hh, hf, spiWords_le]

/-- During a handover a read answers zeros (R394, log entry 110). -/
theorem spiRead_held {cmd : Word} (ha : spiAddr cmd % 4 = 0) (hh : handoverHolds d = true) :
    spiRead e cmd none d =
      { d with spi := { result := 4, count := 0 }, answer := [spiStatus d, 0#32] ++ List.replicate (spiWords cmd) 0#32 } := by
  simp [spiRead, ha, hh, spiWords_le]

end

section
variable (s : State) (cmd : Word)

/-- RD = 0: a transaction with data words is a write of them. -/
theorem exec_spiWrite_of_not_rd (words : List Word) (cut : Bool) (h : spiRd cmd = false) :
    exec (.spiWriteTransaction cmd words cut) s = lift (fun e d => spiWrite e cmd words cut d) s := by
  simp only [exec_spiWriteTransaction, execSpiWriteTransaction, h, Bool.false_eq_true, if_false]

/-- RD = 1: a transaction that shifts out data words is a read. -/
theorem exec_spiRead_of_rd (cut : Option Nat) (h : spiRd cmd = true) :
    exec (.spiReadTransaction cmd cut) s = lift (fun e d => spiRead e cmd cut d) s := by
  simp only [exec_spiReadTransaction, execSpiReadTransaction, h, if_true]

end

/-- Settles O32: each clause is the rule of the read or of the transaction in the case that its hypotheses name. -/
theorem readsAndSpi : Obligations.ReadsAndSpi := by
  intro s hrun
  refine ⟨fun src a ha ho => ?_, fun src ho => ?_, fun src ofs ho => ?_, fun cmd words cut hrd ha => ?_,
    fun cmd cut hrd ha hh hf => ?_, fun cmd hrd ha hh hf => ?_, fun cmd hrd ha hh => ?_⟩
  · exact lift_eq s (readAt a.toNat) _ hrun (readAt_of_readReg (readReg_unmapped ha ho))
  · exact lift_eq s (readAt _) _ hrun (readAt_of_readReg (readReg_optLo ho))
  · exact lift_eq s (fun e d => readAt _ e (d.atOfs ofs)) _ hrun (readAt_of_readReg (readReg_towTimeLo ho))
  · rw [exec_spiWrite_of_not_rd s cmd words cut hrd]
    exact lift_eq s _ _ hrun (spiWrite_aligned words cut ha)
  · rw [exec_spiRead_of_rd s cmd cut hrd]
    exact lift_eq s _ _ hrun (spiRead_served cut ha hh hf)
  · rw [exec_spiRead_of_rd s cmd none hrd]
    exact lift_eq s _ _ hrun (spiRead_early ha hh hf)
  · rw [exec_spiRead_of_rd s cmd none hrd]
    exact lift_eq s _ _ hrun (spiRead_held ha hh)

end Sys2Proof.Machine
end

section
/-! What lies outside the registers (R52, R53, R256, R408): which commands reach it, and how far operating time moves. -/
namespace Sys2Proof.Machine

/-! ### Commands that reach the environment -/

/-- The commands whose effect is on the environment too. -/
def touchesEnv : Instr → Bool
  | .operatingTimeTick | .coldStart _ | .warmRestart _ | .authFixative | .fixativeTakeEffect => true
  | _ => false

section
variable {c : Instr} {s t : State}

/-- Every other command is an effect on the device alone. -/
theorem env_of_exec (h : exec c s = .next t) (hc : touchesEnv c = false) : t.env = s.env := by
  cases c
  case operatingTimeTick | coldStart | warmRestart | authFixative | fixativeTakeEffect => cases hc
  all_goals cases h; rfl

theorem env_of_tick (h : exec .operatingTimeTick s = .next t) : t.env = countTime s.dev s.env :=
  (liftEnv_next s (f := fun e d => (countTime d e, refillTokens d)) h).1

theorem env_of_coldStart {x : StartIn} (h : exec (.coldStart x) s = .next t) : t.env = (coldStart x s.env s.dev).1 :=
  (liftEnv_next s h).1

theorem env_of_warmRestart {x : StartIn} (h : exec (.warmRestart x) s = .next t) : t.env = (warmRestart x s.env s.dev).1 :=
  (liftEnv_next s h).1

theorem env_of_authFixative (h : exec .authFixative s = .next t) : t.env = (fixativeCommand s.env s.dev).1 :=
  (liftEnv_next s h).1

theorem env_of_fixativeTakeEffect (h : exec .fixativeTakeEffect s = .next t) : t.env = (fixativeBoundary s.env s.dev).1 :=
  (liftEnv_next s h).1

end

/-! ### What those five do to it -/

section
variable (e : Env) (d : Dev)

theorem countTime_fix : (countTime d e).fix = e.fix := by
  unfold countTime; split <;> rfl

/-- A count moves operating time by at most one. -/
theorem countTime_opt (h : e.opt < 2 ^ 48) :
    e.opt ≤ (countTime d e).opt ∧ (countTime d e).opt ≤ e.opt + 1 ∧ (countTime d e).opt < 2 ^ 48 := by
  unfold countTime
  split
  · dsimp only; omega
  · omega

/-- Below its limit a count is one, while the crystal runs or the main supplies are on. -/
theorem countTime_runs (hp : (d.pwr.xtalOk || d.pwr.mainEn) = true) (h : e.opt < 2 ^ 48 - 1) :
    countTime d e = { e with opt := e.opt + 1 } := by
  rw [countTime, if_pos hp, Nat.min_eq_left (by omega)]

@[simp] theorem loadFixative_opt : (loadFixative e).opt = e.opt := rfl
@[simp] theorem loadFixative_pwrcyc : (loadFixative e).pwrcyc = e.pwrcyc := rfl

@[simp] theorem fixWrite_opt (b : By) (x : FixSlot) : (fixWrite b x e).opt = e.opt := rfl
@[simp] theorem fixWrite_fix (b : By) (x : FixSlot) : (fixWrite b x e).fix = e.fix := rfl

@[simp] theorem fixTake_opt : (fixTake e).opt = e.opt := by
  unfold fixTake; split <;> rfl

/-- An accepted FIXATIVE command writes a slot; any other leaves the environment. -/
theorem fixativeCommand_env :
    (fixativeCommand e d).1 = e ∨ ∃ b x, (fixativeCommand e d).1 = fixWrite b x e := by
  unfold fixativeCommand authFixative
  split
  · split
    · exact .inl rfl
    · exact .inl rfl
    · split
      · exact .inl rfl
      · exact .inr ⟨_, _, rfl⟩
  · exact .inl rfl

theorem fixativeBoundary_opt : (fixativeBoundary e d).1.opt = e.opt := by
  unfold fixativeBoundary fixativeTakeEffect
  split
  · split
    · rfl
    · exact fixTake_opt e
  · rfl

/-- A warm restart loads the Fixative anew and leaves the rest. -/
theorem warmRestart_env (x : StartIn) : (warmRestart x e d).1 = e ∨ (warmRestart x e d).1 = loadFixative e := by
  unfold warmRestart
  split
  · exact .inl rfl
  · exact .inr rfl

theorem satN_le (n m : Nat) : satN n m ≤ m := by
  unfold satN; split <;> omega

theorem restoreLodge_opt_lt (h : e.opt < 2 ^ 48) : (restoreLodge e d).1.opt < 2 ^ 48 := by
  unfold restoreLodge
  split
  · exact h
  · exact Nat.lt_of_le_of_lt (satN_le _ _) (by decide)

/-- The operating time that a cold start restores is a 48-bit count. -/
theorem coldStart_opt_lt (x : StartIn) (h : e.opt < 2 ^ 48) : (coldStart x e d).1.opt < 2 ^ 48 := by
  unfold coldStart
  split
  · exact h
  · exact restoreLodge_opt_lt e _ h

end

/-! ### Operating time over a command -/

section
variable {c : Instr} {s t : State}

/-- No command but the tick and a cold start moves operating time. -/
theorem opt_of_exec (h : exec c s = .next t) (hcold : ∀ x, c ≠ .coldStart x) (htick : c ≠ .operatingTimeTick) :
    t.env.opt = s.env.opt := by
  cases hc : touchesEnv c with
  | false => rw [env_of_exec h hc]
  | true =>
    cases c
    case operatingTimeTick => exact absurd rfl htick
    case coldStart x => exact absurd rfl (hcold x)
    case warmRestart x => rw [env_of_warmRestart h]; rcases warmRestart_env s.env s.dev x with hw | hw <;> simp [hw]
    case authFixative =>
      rw [env_of_authFixative h]
      rcases fixativeCommand_env s.env s.dev with hf | ⟨b, x, hf⟩ <;> simp [hf]
    case fixativeTakeEffect => rw [env_of_fixativeTakeEffect h, fixativeBoundary_opt]
    all_goals cases hc

/-- Operating time stays a 48-bit count over every command. -/
theorem opt_lt_of_exec (h : exec c s = .next t) (hs : s.env.opt < 2 ^ 48) : t.env.opt < 2 ^ 48 := by
  by_cases htick : c = .operatingTimeTick
  · subst htick; rw [env_of_tick h]; exact (countTime_opt s.env s.dev hs).2.2
  · by_cases hcold : ∃ x, c = .coldStart x
    · obtain ⟨x, rfl⟩ := hcold; rw [env_of_coldStart h]; exact coldStart_opt_lt s.env s.dev x hs
    · rw [opt_of_exec h (fun x hx => hcold ⟨x, hx⟩) htick]; exact hs

end

/-- Settles O3: the other commands leave the environment, the tick moves operating time alone, and a FIXATIVE command writes
the slot that is not in use. -/
theorem onlyFiveTouchTheEnvironment : Obligations.OnlyFiveTouchTheEnvironment := by
  intro c s t h hcold hwarm hfix
  cases hc : touchesEnv c with
  | false => rw [env_of_exec h hc]; exact ⟨rfl, fun _ _ => rfl⟩
  | true =>
    cases c
    case operatingTimeTick => exact ⟨by rw [env_of_tick h, countTime_fix], fun hne => absurd rfl hne⟩
    case authFixative =>
      refine ⟨?_, fun _ hne => absurd rfl hne⟩
      rw [env_of_authFixative h]
      rcases fixativeCommand_env s.env s.dev with hf | ⟨b, x, hf⟩ <;> simp [hf]
    case coldStart x => exact absurd rfl (hcold x)
    case warmRestart x => exact absurd rfl (hwarm x)
    case fixativeTakeEffect => exact absurd rfl hfix
    all_goals cases hc

/-- Settles O4: a step is the command at the front of the queue. -/
theorem operatingTimeBound : Obligations.OperatingTimeBound := by
  intro s t hs h
  unfold step at h
  split at h
  · cases h; exact hs
  · exact opt_lt_of_exec h hs

/-- Settles O5: the tick counts once, and no other command but a cold start moves operating time. -/
theorem operatingTimeNeverFalls : Obligations.OperatingTimeNeverFalls := by
  refine ⟨fun c s t hs h hcold => ?_, fun s hp ho => ?_⟩
  · by_cases htick : c = .operatingTimeTick
    · subst htick
      rw [env_of_tick h]
      obtain ⟨hge, hle, -⟩ := countTime_opt s.env s.dev hs
      exact ⟨hge, hle, fun hne => absurd rfl hne⟩
    · have hopt := opt_of_exec h hcold htick
      exact ⟨hopt.ge, by omega, fun _ => hopt⟩
  · rw [exec_operatingTimeTick, execOperatingTimeTick, liftEnv_eq, countTime_runs s.env s.dev hp ho]
    rfl

end Sys2Proof.Machine
end

section
/-! Supplies, resets and starts (R53, R54, R364, R367, R368, R370, R454). -/
namespace Sys2Proof.Machine

section
variable (d : Dev)

theorem resetAssert_supplied (h : d.pwr.mainEn = true) : resetAssert d = coreOff true d := by
  simp [resetAssert, h]

theorem powerTrip_supplied (x : PowerFailIn) (e : Env) (h : d.pwr.mainEn = true) :
    powerTrip x e d = coreOff true (powerFail e (fillSnaps e) x d) := by
  simp [powerTrip, supplied, h]

theorem lodgeCommit_writes (e : Env) (h : nvBarred d = false) : lodgeCommit e d = lodgeWrite e false d := by
  simp [lodgeCommit, h]

/-- A reset keeps the Lodge's values while its supply has stood. -/
theorem bareDev_lodgeLost (h : d.pwr.lodgeLost = false) : (selectCopies (bareDev d)).pwr.lodgeLost = false := by
  simp [selectCopies, bareDev, powerAfter, h]

/-- The Lodge's values stand where its supply has. -/
theorem restoreLodge_kept (e : Env) (h : d.pwr.lodgeLost = false) : restoreLodge e d = (e, d) := by
  simp [restoreLodge, h]

/-- A cold start that takes place counts one power cycle (R54), on what the Lodge has kept or restored. -/
theorem coldStart_pwrcyc (x : StartIn) (e : Env) (hm : d.pwr.mainEn = true) (hg : d.pwr.pwrGood = true)
    (hr : (d.pwr.inReset || d.boot.phase = .rom) = true) :
    (coldStart x e d).1.pwrcyc = ((restoreLodge e (selectCopies (bareDev d))).1.pwrcyc + 1) % 4294967296 := by
  rw [coldStart, if_neg (by simp [hm, hg, hr])]
  rfl

/-- A warm restart does not change the power-cycle count (R54). -/
theorem warmRestart_pwrcyc (x : StartIn) (e : Env) : (warmRestart x e d).1.pwrcyc = e.pwrcyc := by
  rcases warmRestart_env e d x with h | h <;> simp [h]

end

/-- Settles O53: each clause is the rule of the reset or start in the case that its hypotheses name. -/
theorem resetsAndStarts : Obligations.ResetsAndStarts := by
  intro s
  refine ⟨liftLodge_eq s fun _ d => lodgePowerUp d, liftLodge_eq s fun _ d => pwrGoodRise d, fun hm => ?_, fun c hm _ => ?_, fun x hm hg hr => ⟨liftEnv_eq s _, ?_⟩,
    fun x _ _ => ⟨liftEnv_eq s _, warmRestart_pwrcyc s.dev x s.env⟩, fun hn => ?_⟩
  · rw [exec_resetAssert, execResetAssert, liftLodge_eq, resetAssert_supplied s.dev hm]
  · rw [exec_powerFailTrip, execPowerFailTrip, liftLodge_eq, powerTrip_supplied s.dev c s.env hm]
  · cases hl : s.dev.pwr.lodgeLost with
    | true => exact .inr rfl
    | false =>
      left
      rw [coldStart_pwrcyc s.dev x s.env hm hg hr, restoreLodge_kept _ s.env (bareDev_lodgeLost s.dev hl)]
  · rw [exec_lodgeCommit, execLodgeCommit, liftLodge_eq, lodgeCommit_writes s.dev s.env hn]

end Sys2Proof.Machine
end

section
/-! Frame time (R41 to R50): writes of its registers, edges of its sources, its dwell and steps, the timing detectors. -/
namespace Sys2Proof.Machine

/-! ### Writes (R47, R48, R489) -/

/-- Settles O16: each register's own rule takes or refuses the word, and only SYN_FT_CFG has an effect. -/
theorem lockAndTimeWrites : Obligations.LockAndTimeWrites := by
  intro s src w
  refine ⟨fun h _ => ?_, fun h hok => ?_, fun k hk h hlt => ?_, fun n h hok => ?_, fun h hbad => ?_, fun k hk h hge => ?_⟩
  · exact liftWrite_accepted s src.plain .GLB_LOCK 0 0 w id rfl h (ruleOf_radio _ _ _ _ (by decide)) (actOf_radio _ _ _ _ _ (by decide))
  · refine liftWrite_accepted s src.plain .SYN_FT_CFG 0 0 w _ rfl h ?_ (actOf_radio _ _ _ _ _ (by decide))
    rw [ruleOf_radio _ _ _ _ (by decide)]
    simp [ruleRadio, orRefuse, hok]
  · rw [exec_synFtCfgWrite, execSynFtCfgWrite, if_neg hk]
    refine liftWrite_accepted s src.plain .SYN_FT_OFS (k.val - 1) 0 w id rfl h ?_ (actOf_radio _ _ _ _ _ (by decide))
    rw [ruleOf_radio _ _ _ _ (by decide)]
    simp [ruleRadio, orRefuse, Nat.not_le.mpr hlt]
  · refine liftWrite_accepted s src.plain .SYN_TD_CFG n.val 0 w id rfl h ?_ (actOf_radio _ _ _ _ _ (by decide))
    rw [ruleOf_radio _ _ _ _ (by decide)]
    simp [ruleRadio, orRefuse, hok]
  · refine liftWrite_refused s src.plain .SYN_FT_CFG 0 0 w _ rfl h ?_
    rw [ruleOf_radio _ _ _ _ (by decide)]
    simp [ruleRadio, orRefuse, hbad]
  · rw [exec_synFtCfgWrite, execSynFtCfgWrite, if_neg hk]
    refine liftWrite_refused s src.plain .SYN_FT_OFS (k.val - 1) 0 w _ rfl h ?_
    rw [ruleOf_radio _ _ _ _ (by decide)]
    simp [ruleRadio, orRefuse, hge]

/-! ### Edges (R42) -/

section
variable {conforms : Nat → Bool} {x : Edge} {t now : Nat} (hl : x.last = some t)
include hl

theorem edgeSeen_conforming (hc : conforms (now - t) = true) :
    edgeSeen conforms now x = ({ valid := x.valid || decide (3 ≤ min (x.run + 1) 3), run := min (x.run + 1) 3, last := some now },
      x.valid || decide (3 ≤ min (x.run + 1) 3)) := by
  simp [edgeSeen, hl, hc]

theorem edgeSeen_stray_valid (hc : conforms (now - t) = false) (hv : x.valid = true) : edgeSeen conforms now x = (x, false) := by
  simp [edgeSeen, hl, hc, hv]

theorem edgeSeen_stray_invalid (hc : conforms (now - t) = false) (hv : x.valid = false) :
    edgeSeen conforms now x = ({ x with last := some now, run := 0 }, false) := by
  simp [edgeSeen, hl, hc, hv]

end

/-- An interval nearest to `n` frames conforms when `n` is 1 to 100 and it is off by at most 64 cycles. -/
theorem fsConforms_near {delta n : Nat} (hlo : n * 9830400 ≤ delta + 4915200) (hhi : delta + 4915200 < (n + 1) * 9830400) :
    fsConforms delta = decide (1 ≤ n ∧ n ≤ 100 ∧ delta ≤ n * 9830400 + 64 ∧ n * 9830400 ≤ delta + 64) := by
  have hn : (delta + frameCycles / 2) / frameCycles = n := Nat.div_eq_of_lt_le hlo hhi
  rw [fsConforms, hn, decide_eq_decide]
  unfold frameCycles
  omega

/-- Settles O34: the cases of `edgeSeen`, and the interval nearest to a number of frames. -/
theorem frameSyncValidity : Obligations.FrameSyncValidity := by
  intro x t now hl _
  refine ⟨fun hc => ?_, edgeSeen_stray_valid hl, edgeSeen_stray_invalid hl, fun n h1 h100 k hk => ⟨?_, ?_⟩, fun k hk hhalf => ⟨?_, ?_⟩⟩
  · rw [edgeSeen_conforming hl hc]
    have hthird : 3 ≤ min (x.run + 1) 3 ↔ 2 ≤ x.run := by omega
    exact ⟨rfl, rfl, by simp only [Bool.or_eq_true, decide_eq_true_iff, hthird], Iff.rfl⟩
  · rw [fsConforms_near (n := n) (by omega) (by omega)]; exact decide_eq_true (by omega)
  · rw [fsConforms_near (n := n) (by omega) (by omega)]; exact decide_eq_true (by omega)
  · rw [fsConforms_near (n := 1) (by omega) (by omega)]; exact decide_eq_false (by omega)
  · rw [fsConforms_near (n := 1) (by omega) (by omega)]; exact decide_eq_false (by omega)

/-! ### Sources and detectors (R43 to R49) -/

section
variable (d : Dev)

theorem syncEdge_fs (h : d.src.open_ = true) :
    syncEdge false d =
      let x := edgeSeen fsConforms (coreNow d) d.src.fs
      let d1 := { d with src := { d.src with fs := x.1 } }
      if x.2 then setRef 2 (coreNow d) d1 else d1 := by
  rw [syncEdge, if_neg (by simp [h])]; rfl

theorem syncEdge_pps (h : d.src.open_ = true) :
    syncEdge true d =
      let x := edgeSeen ppsConforms (coreNow d) d.src.pps
      let d1 := { d with src := { d.src with pps := x.1 } }
      if x.2 then setRef 3 (coreNow d) d1 else d1 := by
  rw [syncEdge, if_neg (by simp [h])]; rfl

theorem revertTo_ended {code t : Nat} (hs : d.src.since.lookup code = some t) (hr : ftRevert d ≠ 0) (ha : d.src.active ≠ 0)
    (hk : rankOf d code < rankOf d d.src.active) (hv : srcValid d code = true) (ht : t + ftRevert d * 800 ≤ d.clk.periods) :
    revertTo code d = { d with src := { d.src with active := code, step := none } } := by
  simp [revertTo, hs, hr, ha, hk, hv, ht, Dev.modSrc]

/-- A locked detector that seeks the strongest sequence takes a detection of its cell, a whole multiple of 5 ms after the last. -/
theorem tdDetect_locked {n nid : Nat} (qual : Nat) {settled : Bool} (hw : tdWorks d n = true) (hl : (d.det n).lock = true)
    (hn : (d.det n).nid = nid) (hany : d.get SYN_TD_CFG.NID2 n = 3) (hq : ((d.det n).warm || settled) = true)
    (hs : tdSpaced (d.det n).last (coreNow d) = true) :
    tdDetect n nid qual settled d =
      let d1 := d.setDet n { d.det n with missRun := 0, qual := qual % 65536, last := coreNow d }
      if n = ftTdSel d then tdReference (coreNow d) d1 else d1 := by
  have hready : (!(d.det n).warm && !settled) = false := by simpa [← Bool.not_or] using hq
  simp [tdDetect, hw, hl, hn, hany, hready, hs]

theorem tdMiss_counts {n : Nat} (he : tdExpects d n = true) (h : (d.det n).missRun < 3) :
    tdMiss n d = d.setDet n { d.det n with missRun := (d.det n).missRun + 1, missCnt := satN ((d.det n).missCnt + 1) 0xFF } := by
  simp [tdMiss, he, show ¬4 ≤ (d.det n).missRun + 1 by omega]

/-- The fourth miss in a row. -/
theorem tdMiss_unlocks {n : Nat} (he : tdExpects d n = true) (h : (d.det n).missRun = 3) :
    tdMiss n d =
      d.setDet n { d.det n with lock := false, missRun := 0, missCnt := satN ((d.det n).missCnt + 1) 0xFF, seen := [] } := by
  simp [tdMiss, he, h]

end

/-- Settles O33: each clause is the rule of the source or detector in the case that its hypotheses name. -/
theorem timeSources : Obligations.TimeSources := by
  intro s hrun
  refine ⟨lift_runs s (fun _ d => d.modSrc fun x => { x with out := false }) hrun, fun ofs ho => ?_, fun ofs ho => ?_,
    lift_runs s (fun _ d => sourceTimeout false d) hrun, lift_runs s (fun _ d => sourceTimeout true d) hrun,
    fun code t hs hr ha hk hv ht => ?_, fun x _ => lift_runs s (fun e d => frameStep e x d) hrun,
    fun x => lift_runs s (fun e d => boundary e x d) hrun,
    fun n nid qual st ofs hw hl hn hany hq hsp => ?_, fun n he hm => ?_, fun n he hm => ?_⟩
  · exact lift_eq s (fun _ d => syncEdge false (d.atOfs ofs)) _ hrun (syncEdge_fs (s.dev.atOfs ofs) ho)
  · exact lift_eq s (fun _ d => syncEdge true (d.atOfs ofs)) _ hrun (syncEdge_pps (s.dev.atOfs ofs) ho)
  · exact lift_eq s (fun _ d => revertTo code d) _ hrun (revertTo_ended s.dev hs hr ha hk hv ht)
  · exact lift_eq s (fun _ d => tdDetect n.val nid.val qual st (d.atOfs ofs)) _ hrun (tdDetect_locked (s.dev.atOfs ofs) qual hw hl hn hany hq hsp)
  · exact lift_eq s (fun _ d => tdMiss n.val d) _ hrun (tdMiss_counts s.dev he hm)
  · exact lift_eq s (fun _ d => tdMiss n.val d) _ hrun (tdMiss_unlocks s.dev he hm)

end Sys2Proof.Machine
end

section
/-! The records that a boundary closes (R32, R93, R94, R137). -/
namespace Sys2Proof.Machine

section
variable (d : Dev) (x : Period)

/-- The states in which a slice measures (R137). -/
def Slice.measures (z : Slice) : Prop := z.st = .settling ∨ z.st = .active ∨ z.st = .draining

/-- The states in which it does not. -/
def Slice.rests (z : Slice) : Prop := z.st = .idle ∨ z.st = .queued ∨ z.st = .powering ∨ z.st = .shed ∨ z.st = .failed

/-- The test of `measures` as the model writes it. -/
theorem measures_true {z : Slice} (h : z.measures) : (decide (z.st = .settling) || decide (z.st = .active) || decide (z.st = .draining)) = true := by
  simpa [Slice.measures, or_assoc] using h

theorem measures_false {z : Slice} (h : z.rests) : (decide (z.st = .settling) || decide (z.st = .active) || decide (z.st = .draining)) = false := by
  rcases h with h | h | h | h | h <;> rw [h] <;> rfl

/-! ### Slices (R137) -/

theorem closeSlice_measured {n : Nat} {m : SliceIn} (hm : (d.slice n).measures) (hf : (d.rxChain (effOf d n).src).fed = true)
    (hx : x.slices.find? (fun m => m.s.val == n) = some m) : closeSlice x n d = sliceClose n m.pw m.pk m.raw m.bins d := by
  unfold closeSlice
  simp only [measures_true hm, hf, hx]
  rfl

theorem closeSlice_resting {n : Nat} (hr : (d.slice n).rests) : closeSlice x n d = sliceClose n 0 0 0 [] d := by
  unfold closeSlice
  simp only [measures_false hr]
  cases x.slices.find? fun m => m.s.val == n <;> rfl

theorem sliceClose_seq (n : Nat) (pw pk : Rat) (raw : Nat) (bins : List Rat) :
    ((sliceClose n pw pk raw bins d).slice n).meas.seq = ((d.slice n).meas.seq + 1) % 256 := by
  simp [sliceClose]

theorem sliceClose_measuring {n : Nat} (pw pk : Rat) (raw : Nat) (bins : List Rat) (hm : (d.slice n).measures) :
    let m := ((sliceClose n pw pk raw bins d).slice n).meas
    m.rms = some (min (dbm pw) 32767) ∧ m.peak = some (min (dbm pk) 32767) ∧ m.valid = !(d.slice n).supHit := by
  simp only [sliceClose, setSlice_same, measures_true hm]
  exact ⟨rfl, rfl, rfl⟩

theorem sliceClose_resting {n : Nat} (pw pk : Rat) (raw : Nat) (bins : List Rat) (hr : (d.slice n).rests) :
    let m := ((sliceClose n pw pk raw bins d).slice n).meas
    m.rms = none ∧ m.peak = none ∧ m.valid = false := by
  simp only [sliceClose, setSlice_same, measures_false hr]
  exact ⟨rfl, rfl, rfl⟩

/-- No power reads -200.00 dBm, the least of all readings (R32). -/
theorem dbm_least : dbm 0 = -20000 ∧ ∀ q, -20000 ≤ dbm q := by
  refine ⟨?_, fun q => le_max_right _ _⟩
  simp [dbm, db100]

/-! ### Chains (R93, R94) -/

theorem closeRx_heard {e : Env} {c : Nat} {m : RxIn} (hh : (d.rxChain c).heard = true)
    (hx : x.rx.find? (fun m => m.c.val == c) = some m) : closeRx e x c d = rxReading e c m.pw m.raw m.clipped m.total d := by
  unfold closeRx
  rw [hh, hx]

theorem closeRx_unheard (e : Env) {c : Nat} (hh : (d.rxChain c).heard = false) :
    closeRx e x c d = d.modRx c fun z => { z with pwr := none, raw := 0, seq := (z.seq + 1) % 256 } := by
  unfold closeRx
  rw [hh]
  cases x.rx.find? fun m => m.c.val == c <;> rfl

theorem closeTx_unheard {c q r : Nat} {y : Int} {a : Bool} (hc : d.eng.comp.lookup c = some (q, r, y, a)) (hh : (d.txChain c).heard = false) :
    closeTx x c d = { d.modTx c fun z => { z with peak := -20000 } with eng := { d.eng with comp := tput d.eng.comp c ((q + 1) % 256, 0, y, false) } } := by
  simp [closeTx, hc, hh]

end

end Sys2Proof.Machine
end

section
/-! The loops at a boundary (R193, R199, R201, R204, R220). -/
namespace Sys2Proof.Machine

/-! ### Bounds of the numeric helpers -/

theorem clampI_bounds (z : Int) {lo hi : Int} (h : lo ≤ hi) : lo ≤ clampI z lo hi ∧ clampI z lo hi ≤ hi := by
  unfold clampI; split_ifs <;> omega

theorem clampI_top {z hi : Int} (lo : Int) (h : hi ≤ z) (hl : lo ≤ hi) : clampI z lo hi = hi := by
  unfold clampI; split_ifs <;> omega

theorem clampI_bottom {z lo : Int} (hi : Int) (h : z ≤ lo) (hl : lo ≤ hi) : clampI z lo hi = lo := by
  unfold clampI; split_ifs <;> omega

theorem clampI_inside {z lo hi : Int} (h1 : lo ≤ z) (h2 : z ≤ hi) : clampI z lo hi = z := by
  rw [clampI, if_neg (by omega), if_neg (by omega)]

theorem sat32_pos {z : Int} : 0 < sat32 z ↔ 0 < z := by
  unfold sat32 clampI; split_ifs <;> omega

theorem sat32_neg {z : Int} : sat32 z < 0 ↔ z < 0 := by
  unfold sat32 clampI; split_ifs <;> omega

theorem roundDivAway_natCast (n b : Nat) : roundDivAway n b = ((2 * n + b) / (2 * b) : Nat) := by
  rw [roundDivAway, if_pos (Int.natCast_nonneg n), Int.toNat_natCast]

theorem roundDivAway_neg_natCast (n : Nat) {b : Nat} (hb : 0 < b) : roundDivAway (-n) b = -((2 * n + b) / (2 * b) : Nat) := by
  unfold roundDivAway
  split
  case isTrue h =>
    obtain rfl : n = 0 := by omega
    have h0 : b / (2 * b) = 0 := Nat.div_eq_of_lt (by omega)
    simp only [Nat.cast_zero, neg_zero, Int.toNat_zero, Nat.mul_zero, Nat.zero_add, h0]
  case isFalse => rw [neg_neg, Int.toNat_natCast]

/-- A whole multiple divides without a rest. -/
theorem roundDivAway_mul (z : Int) {b : Nat} (hb : 0 < b) : roundDivAway (z * b) b = z := by
  have rounded (n : Nat) : (2 * (n * b) + b) / (2 * b) = n := Nat.div_eq_of_lt_le (by nlinarith) (by nlinarith)
  obtain ⟨n, rfl | rfl⟩ := z.eq_nat_or_neg
  · rw [← Nat.cast_mul, roundDivAway_natCast, rounded]
  · rw [neg_mul, ← Nat.cast_mul, roundDivAway_neg_natCast _ hb, rounded]

theorem le_rounded {n b k : Nat} (hb : 0 < b) (h : k * b ≤ n) : k ≤ (2 * n + b) / (2 * b) :=
  (Nat.le_div_iff_mul_le (by omega)).mpr (by nlinarith)

theorem le_roundDivAway {a : Int} {b k : Nat} (hb : 0 < b) (h : (k : Int) * b ≤ a) : (k : Int) ≤ roundDivAway a b := by
  obtain ⟨n, rfl⟩ := Int.eq_ofNat_of_zero_le (le_trans (by positivity) h)
  rw [roundDivAway_natCast]
  exact_mod_cast le_rounded hb (by exact_mod_cast h)

theorem roundDivAway_le {a : Int} {b k : Nat} (hb : 0 < b) (h : a ≤ -((k : Int) * b)) : roundDivAway a b ≤ -k := by
  have hk : (0 : Int) ≤ k * b := by positivity
  obtain ⟨n, hn⟩ := Int.eq_ofNat_of_zero_le (show 0 ≤ -a by omega)
  obtain rfl : a = -n := by omega
  rw [roundDivAway_neg_natCast n hb, neg_le_neg_iff]
  exact_mod_cast le_rounded hb (by exact_mod_cast (show (k : Int) * b ≤ n by omega))

/-! ### The integrator (R199, R201) -/

section
variable {u corr hi lo : Int} (hl : lo ≤ hi)
include hl

/-- The integrator moves from where its limits let it stand. -/
theorem integrate_eq (v : Bool) : integrate u corr hi lo v =
    let w := clampI u (256 * lo) (256 * hi)
    if v then
      let frz := (256 * hi ≤ w && 0 < corr) || (w ≤ 256 * lo && corr < 0)
      (if frz then w else clampI (w + corr) (256 * lo) (256 * hi), frz)
    else (w, false) := by
  have hw : (if (if 256 * hi < u then 256 * hi else u) < 256 * lo then 256 * lo else if 256 * hi < u then 256 * hi else u) =
      clampI u (256 * lo) (256 * hi) := by
    unfold clampI; split_ifs <;> omega
  unfold integrate
  dsimp only
  rw [hw]

theorem integrate_bounds (v : Bool) : 256 * lo ≤ (integrate u corr hi lo v).1 ∧ (integrate u corr hi lo v).1 ≤ 256 * hi := by
  have hb (z : Int) := clampI_bounds z (show 256 * lo ≤ 256 * hi by omega)
  rw [integrate_eq hl]
  cases v
  · exact hb u
  · dsimp only
    split
    · split
      · exact hb u
      · exact hb _
    · exact hb u

theorem integrate_frozen_top (h : 256 * hi ≤ u) (hc : 0 < corr) : integrate u corr hi lo true = (256 * hi, true) := by
  rw [integrate_eq hl, clampI_top _ h (by omega)]
  simp [hc]

theorem integrate_frozen_bottom (h : u ≤ 256 * lo) (hc : corr < 0) : integrate u corr hi lo true = (256 * lo, true) := by
  rw [integrate_eq hl, clampI_bottom _ h (by omega)]
  simp [hc]

theorem integrate_invalid (h1 : 256 * lo ≤ u) (h2 : u ≤ 256 * hi) : integrate u corr hi lo false = (u, false) := by
  rw [integrate_eq hl, clampI_inside h1 h2]
  rfl

theorem integrate_inside (h1 : 256 * lo < u) (h2 : u < 256 * hi) :
    integrate u corr hi lo true = (clampI (u + corr) (256 * lo) (256 * hi), false) := by
  rw [integrate_eq hl, clampI_inside h1.le h2.le]
  simp [Int.not_le.mpr h1, Int.not_le.mpr h2]

end

/-! ### The correction (R199) -/

section
variable {d : Dev} {i : Nat} {e16 : Int} (he : 0 < d.get LOOP_CFG.ESTEP i) (hn : d.flag LOOP_CFG.NEG i = false)
include he hn

theorem correction_top (h : 2064384 * (d.get LOOP_CFG.ESTEP i : Int) ≤ e16) :
    correction d i e16 = lutAt d (d.get LOOP_CFG.LUT_SEL i) 63 * 2 ^ d.get LOOP_CFG.KSH i := by
  have hx : clampI (roundDivAway e16 (d.get LOOP_CFG.ESTEP i)) (-2064384) 2064384 = 2064384 :=
    clampI_top _ (le_roundDivAway (k := 2064384) he (by exact_mod_cast h)) (by decide)
  have hp : ((2064384 : Int) + 2064384).toNat = 4128768 := rfl
  have hj : min (4128768 / 65536) 62 = 62 := rfl
  simp only [correction, hx, hn, hp, hj]
  rw [if_neg Bool.false_ne_true, ← roundDivAway_mul (lutAt d (d.get LOOP_CFG.LUT_SEL i) 63 * 2 ^ d.get LOOP_CFG.KSH i) (b := 65536) (by decide)]
  congr 1
  push_cast
  ring

theorem correction_bottom (h : e16 ≤ -2064384 * (d.get LOOP_CFG.ESTEP i : Int)) :
    correction d i e16 = lutAt d (d.get LOOP_CFG.LUT_SEL i) 0 * 2 ^ d.get LOOP_CFG.KSH i := by
  have hx : clampI (roundDivAway e16 (d.get LOOP_CFG.ESTEP i)) (-2064384) 2064384 = -2064384 :=
    clampI_bottom _ (roundDivAway_le (k := 2064384) he (by push_cast; linarith)) (by decide)
  have hp : ((-2064384 : Int) + 2064384).toNat = 0 := rfl
  have hj : min (0 / 65536) 62 = 0 := rfl
  simp only [correction, hx, hn, hp, hj]
  rw [if_neg Bool.false_ne_true, ← roundDivAway_mul (lutAt d (d.get LOOP_CFG.LUT_SEL i) 0 * 2 ^ d.get LOOP_CFG.KSH i) (b := 65536) (by decide)]
  congr 1
  push_cast
  ring

end

/-! ### The AUTO loop (R193, R199) -/

section
variable (d : Dev)

theorem feed_fresh {x : Loop} {r : LRec} (hr : x.rec_ = some r) (hs : x.lastSeq ≠ some r.seq) :
    (feed x).missRun = 0 ∧ (feed x).rec_ = some r ∧ (feed x).lims = x.lims ∧ (feed x).glide = x.glide ∧ (feed x).u = x.u := by
  unfold feed
  rw [hr]
  simp [hs]

theorem Recorded.loop {d t : Dev} (h : Recorded d t) (i : Nat) : t.loop i = d.loop i := by rw [h.1]; rfl

/-- The following error changes nothing of the loop but its count and its flag. -/
theorem following_keeps (e : Env) (i : Nat) (e16 : Int) (valid frz : Bool) :
    ((following e i e16 valid frz d).loop i).u = (d.loop i).u ∧ ((following e i e16 valid frz d).loop i).frz = (d.loop i).frz ∧
      ((following e i e16 valid frz d).loop i).staged = (d.loop i).staged := by
  have raised (t : Dev) : (raiseLive e t Ev.LOOP_FOLLOW i).loop i = t.loop i := (recorded_raiseLive e t _ _ _).loop i
  have cleared (t : Dev) : (clearLive t Ev.LOOP_FOLLOW i).loop i = t.loop i := (recorded_clearLive t _ _).loop i
  unfold following
  dsimp only
  split
  · exact ⟨rfl, rfl, rfl⟩
  · split
    · simp [apply_ite (Dev.loop · i), raised]
    · simp [apply_ite (Dev.loop · i), cleared]

theorem computeLoop_auto {e : Env} {i : Nat} {r : LRec} {hi lo : Int} (hc : (d.loop i).computes = true) (hm : (d.loop i).mode = .auto)
    (hr : (d.loop i).rec_ = some r) (hs : (d.loop i).lastSeq ≠ some r.seq) (hz : (feed (d.loop i)).frzRun < 64)
    (hl : (d.loop i).lims = some (hi, lo)) :
    let u := integrate (d.loop i).u (correction d i ((d.loop i).glide.pos - r.y * one16)) hi lo r.valid
    ((computeLoop e i d).loop i).u = u.1 ∧ ((computeLoop e i d).loop i).frz = u.2 ∧
      ((computeLoop e i d).loop i).staged = some (roundDivAway u.1 256) := by
  obtain ⟨hmiss, hrec, hlims, hglide, hu⟩ := feed_fresh hr hs
  have hf : fresh (d.loop i) = true := by simpa [fresh, hr] using hs
  unfold computeLoop computeAuto
  simp [hc, hm, hmiss, hf, hrec, hlims, hl, hglide, hu, Nat.not_le.mpr hz, following_keeps]

/-- The staged output, clamped by the limits in force, becomes the output. -/
theorem applyOut_staged {i : Nat} {v : Int} (h : (d.loop i).staged = some v) :
    ((applyOut i d).loop i).out = (d.loop i).clamp v ∧ ((applyOut i d).loop i).staged = none := by
  simp [applyOut, h]

end

/-! ### Glide (R220) -/

theorem glideStep_unlimited (am jm : Nat) (dt : Dt) (g : Glide) :
    glideStep 0 am jm dt g = { g with pos := g.tgt * one16, vel := 0, acc := 0 } := by
  simp [glideStep]

/-- Where a step may leave the position: on the target, or short of it on the side from which it came. -/
def shortOf (target was pos : Int) : Prop := pos = target ∨ (was < target ∧ pos < target) ∨ (target < was ∧ target < pos)

theorem shortOf_landing {target was next : Int} {rest moved : Glide} (hr : rest.pos = target) (hm : moved.pos = next) :
    shortOf target was (if sat32 (target - was) = 0 ∨ (0 < sat32 (target - was) ∧ target ≤ next) ∨ (sat32 (target - was) < 0 ∧ next ≤ target)
      then rest else moved).pos := by
  split
  case isTrue => exact .inl hr
  case isFalse h =>
    rw [hm, shortOf]
    rw [sat32_pos, sat32_neg] at h
    have h0 : sat32 (target - was) ≠ 0 := fun hz => h (.inl hz)
    rcases lt_trichotomy (sat32 (target - was)) 0 with hs | hs | hs
    · rw [sat32_neg] at hs; omega
    · exact absurd hs h0
    · rw [sat32_pos] at hs; omega

theorem glideStep_shortOf (vm am jm : Nat) (dt : Dt) (g : Glide) : shortOf (g.tgt * one16) g.pos (glideStep vm am jm dt g).pos := by
  unfold glideStep
  dsimp only
  by_cases hv : vm = 0
  · rw [if_pos hv]; exact .inl rfl
  · rw [if_neg hv]; exact shortOf_landing rfl rfl

end Sys2Proof.Machine
end

section
/-! The canceller's figures at a boundary (R172, R177). -/
namespace Sys2Proof.Machine

section
variable (d : Dev) {n : Nat}

/-- The snapshot for a fall back changes no state of the canceller. -/
theorem cnlSnapshot_keeps (n : Nat) :
    ((cnlSnapshot n d).canc n).st = (d.canc n).st ∧ ((cnlSnapshot n d).canc n).fromTrack = (d.canc n).fromTrack := by
  unfold cnlSnapshot
  dsimp only
  split
  · exact ⟨rfl, rfl⟩
  · split
    · rw [setCanc_same]; exact ⟨rfl, rfl⟩
    · rw [setCanc_same]; exact ⟨rfl, rfl⟩

/-- A period without reference pauses it in HOLD. -/
theorem cnlFigures_pauses {e : Env} (hs : (d.canc n).st = .acquire ∨ (d.canc n).st = .track) (ha : (d.canc n).acc.blocks = 0)
    (hy : (d.canc n).young = false) :
    ((cnlFigures e n d).canc n).st = .hold ∧ ((cnlFigures e n d).canc n).fromTrack = decide ((d.canc n).st = .track) := by
  have hoff : (d.canc n).st ≠ .off := by rcases hs with h | h <;> rw [h] <;> decide
  have hpause : (!(d.canc n).young) = true ∧ ((d.canc n).st = .acquire ∨ (d.canc n).st = .track) := ⟨by simp [hy], hs⟩
  unfold cnlFigures
  dsimp only
  rw [if_neg hoff, if_pos ha, if_pos hpause]
  simp [cnlSnapshot_keeps]

/-- In the period in which it left OFF it does not pause. -/
theorem cnlFigures_young {e : Env} (ha : (d.canc n).acc.blocks = 0) (hy : (d.canc n).young = true) :
    ((cnlFigures e n d).canc n).st = (d.canc n).st := by
  unfold cnlFigures
  dsimp only
  rw [(cnlSnapshot_keeps _ n).1]
  by_cases hoff : (d.canc n).st = .off
  · rw [if_pos hoff]
  · rw [if_neg hoff, if_pos ha, if_neg (by simp [hy]), setCanc_same]

theorem cnlPublish_measured {e : Env} (hs : (d.canc n).st ≠ .off) (hr : (refsUsed d n).isEmpty = false) (hm : (d.canc n).measured = true) :
    ((cnlPublish e n d).canc n).ieff =
      (d.canc n).iphys + (if (d.canc n).st = .acquire then min (d.canc n).dPub 0 else (d.canc n).dPub) - (d.canc n).short := by
  simp [cnlPublish, cnlFigNow, hs, hr, hm]

theorem cnlPublish_unreferenced {e : Env} (hs : (d.canc n).st ≠ .off) (hr : (refsUsed d n).isEmpty = true) :
    ((cnlPublish e n d).canc n).ieff = 15000 := by
  simp [cnlPublish, hs, hr]

end

end Sys2Proof.Machine
end

section
/-! What a STOP leaves of Patrol: the operations that it sets going (R274) change groups, domains, pins, channels and Carve, and
nothing of Patrol. -/
namespace Sys2Proof.Machine

/-! ### Operations outside Patrol -/

theorem Recorded.ptl {d t : Dev} (h : Recorded d t) : t.ptl = d.ptl := by rw [h.1]

theorem forN_ptl (n : Nat) (f : Nat → Dev → Dev) (h : ∀ k x, (f k x).ptl = x.ptl) (d : Dev) : (forN n f d).ptl = d.ptl := by
  unfold forN
  induction List.range n generalizing d with
  | nil => rfl
  | cons k l ih => exact (ih (f k d)).trans (h k d)

theorem forL_ptl {α : Type} (l : List α) (f : α → Dev → Dev) (h : ∀ a x, (f a x).ptl = x.ptl) (d : Dev) :
    (forL l f d).ptl = d.ptl := by
  unfold forL
  induction l generalizing d with
  | nil => rfl
  | cons a l ih => exact (ih (f a d)).trans (h a d)

section
variable (d : Dev)

@[simp] theorem raiseLive_ptl (e : Env) (code inst aux : Nat) : (raiseLive e d code inst aux).ptl = d.ptl :=
  (recorded_raiseLive e d code inst aux).ptl

@[simp] theorem clearLive_ptl (code inst : Nat) : (clearLive d code inst).ptl = d.ptl := (recorded_clearLive d code inst).ptl

@[simp] theorem raiseAgain_ptl (e : Env) (code inst : Nat) : (raiseAgain e d code inst).ptl = d.ptl := by
  unfold raiseAgain
  split
  · exact (recorded_recordEvent e d _ _ _).ptl
  · exact raiseLive_ptl d e _ _ _

/-! ### Power domains -/

@[simp] theorem domPower_ptl (n : Nat) : (domPower n d).ptl = d.ptl := by
  unfold domPower; dsimp only; split <;> simp

@[simp] theorem domNext_ptl : (domNext d).ptl = d.ptl := by
  unfold domNext
  split
  · rfl
  · split <;> simp

@[simp] theorem domRequest_ptl (n : Nat) : (domRequest n d).ptl = d.ptl := by
  unfold domRequest
  by_cases hr : (d.dom n).req = true
  · simp only [hr, if_true]
    split
    · rfl
    · split <;> simp
  · simp only [hr, Bool.false_eq_true, if_false]
    split
    · rfl
    · split <;> simp

@[simp] theorem domRelease_ptl (n : Nat) : (domRelease n d).ptl = d.ptl := by
  unfold domRelease
  dsimp only
  split <;> simp

@[simp] theorem domUp_ptl (n : Nat) : (domUp n d).ptl = d.ptl := by
  unfold domUp; dsimp only; split <;> simp

@[simp] theorem domGone_ptl (n : Nat) : (domGone n d).ptl = d.ptl := by
  unfold domGone; dsimp only; split <;> simp

@[simp] theorem domWant_ptl (n : Nat) (want offing : Bool) : (domWant n want offing d).ptl = d.ptl := by
  unfold domWant
  dsimp only
  split
  · split <;> simp
  · simp

/-! ### Pins -/

@[simp] theorem holdPins_ptl (c : HoldCause) (which : Nat → Bool) : (holdPins c which d).ptl = d.ptl :=
  forN_ptl 32 _ (fun n x => by split <;> simp [holdPin]) d

@[simp] theorem followEdges_ptl : (followEdges d).ptl = d.ptl :=
  forN_ptl 32 _ (fun n x => by simp [apply_ite Dev.ptl]) d

@[simp] theorem pinCarve_ptl (n : Nat) (level : Bool) : (pinCarve n level d).1.ptl = d.ptl := by
  unfold pinCarve; dsimp only; split <;> simp

/-! ### Bias DACs -/

@[simp] theorem sineCut_ptl (c : Nat) : (sineCut c d).ptl = d.ptl := by
  unfold sineCut; dsimp only; split <;> simp

@[simp] theorem bdacRelease_ptl (c : Nat) : (bdacRelease c d).ptl = d.ptl := by simp [bdacRelease]

@[simp] theorem bdacSpanOut_ptl (c : Nat) : (bdacSpanOut c d).ptl = d.ptl := by simp [bdacSpanOut]

@[simp] theorem bdacAtPark_ptl (c : Nat) : (bdacAtPark c d).ptl = d.ptl := by
  unfold bdacAtPark; dsimp only; split_ifs <;> simp

@[simp] theorem bdacPark_ptl (c : Nat) : (bdacPark c d).ptl = d.ptl := by
  unfold bdacPark; dsimp only; split <;> simp

@[simp] theorem bdacCause_ptl (h : HoldCause) (c : Nat) : (bdacCause h c d).ptl = d.ptl := by
  unfold bdacCause; dsimp only; split <;> simp

@[simp] theorem bdacCauseAll_ptl (h : HoldCause) (which : Nat → Bool) : (bdacCauseAll h which d).ptl = d.ptl :=
  forN_ptl 48 _ (fun c x => by split <;> simp) d

@[simp] theorem setT_ptl (c code : Nat) : (setT c code d).ptl = d.ptl := by
  unfold setT; dsimp only; split <;> simp

@[simp] theorem bdacCarve_ptl (c code : Nat) : (bdacCarve c code d).1.ptl = d.ptl := by
  unfold bdacCarve; dsimp only; split <;> simp

/-! ### Groups -/

@[simp] theorem groupDomains_ptl (g : Nat) : (groupDomains g d).ptl = d.ptl :=
  forL_ptl _ _ (fun _ x => domWant_ptl x _ _ _) d

@[simp] theorem groupDomsDone_ptl (g : Nat) (st : GSt) : (groupDomsDone g st d).ptl = d.ptl :=
  forL_ptl _ _ (fun _ x => by split <;> simp) d

@[simp] theorem orxDomain_ptl : (orxDomain d).ptl = d.ptl := by
  unfold orxDomain; dsimp only; split_ifs <;> simp

@[simp] theorem showGroup_ptl (g : Nat) : (showGroup g d).ptl = d.ptl := by simp [showGroup]

@[simp] theorem startStep_ptl (g : Nat) (nxt : GSt) : (startStep g nxt d).ptl = d.ptl := by
  unfold startStep; dsimp only; split <;> simp

@[simp] theorem advance_ptl (g : Nat) : (advance g d).ptl = d.ptl := by
  unfold advance
  dsimp only
  split
  · split <;> simp
  · simp
  · split <;> simp
  · split_ifs <;> simp

@[simp] theorem arrive_ptl (g : Nat) (st : GSt) : (arrive g st d).ptl = d.ptl := by simp [arrive]

@[simp] theorem trySynth_ptl (g : Nat) : (trySynth g d).ptl = d.ptl := by
  unfold trySynth; dsimp only; split_ifs <;> simp

@[simp] theorem goOn_ptl (g : Nat) : (goOn g d).ptl = d.ptl := by
  unfold goOn; dsimp only; split <;> simp

@[simp] theorem request_ptl (g : Nat) (t : GSt) : (request g t d).ptl = d.ptl := by
  unfold request; dsimp only; split_ifs <;> simp

/-! ### Carve -/

@[simp] theorem perform_ptl (t : Target) (xw : Bool) (v at_ ord : Nat) (act : Option (Nat × Nat)) :
    (perform t xw v at_ ord act d).1.ptl = d.ptl := by
  unfold perform
  split
  · exact pinCarve_ptl d _ _
  · split <;> simp [rffeTimed]
  · exact bdacCarve_ptl d _ _
  · split <;> simp

@[simp] theorem issueInverse_ptl (ord : Nat) (a : CAct) : (issueInverse ord a d).ptl = d.ptl := by
  unfold issueInverse
  split
  · rfl
  · split
    · simp
    · rename_i v _ _
      rw [forL_ptl _ _ fun x y => perform_ptl y _ _ _ _ _ _]
      have hp := perform_ptl d a.target a.xw v (ftNow d) 0 none
      split <;> rename_i hd <;> rw [hd] at hp <;> exact hp

@[simp] theorem unwind_ptl (ord : Nat) : (unwind ord d).ptl = d.ptl := by
  unfold unwind
  split
  · rfl
  · exact (forL_ptl _ _ (fun a x => issueInverse_ptl x ord a) _).trans (forN_ptl 4 _ (fun m x => by simp) d)

@[simp] theorem unwindWhere_ptl (p : Epoch → Bool) : (unwindWhere p d).ptl = d.ptl :=
  forL_ptl (d.crv.epochs.filter p) _ (fun x y => unwind_ptl y x.ord) d

/-! ### A STOP and its causes -/

/-- Patrol's muted directions, the mark of its copy and the causes of a STOP agree; how far the STOP has come may differ. -/
def SameStop (p q : Patrol) : Prop := q.dl = p.dl ∧ q.ul = p.ul ∧ q.copyBad = p.copyBad ∧ q.causes = p.causes

theorem stopPark_same : SameStop d.ptl (stopPark d).ptl := by
  unfold stopPark
  split
  · dsimp only; split
    · rw [bdacCauseAll_ptl]; exact ⟨rfl, rfl, rfl, rfl⟩
    · exact ⟨rfl, rfl, rfl, rfl⟩
  · exact ⟨rfl, rfl, rfl, rfl⟩

/-- A group leaves TX and DUPLEX for RX (R274). -/
def groupDown (g : Nat) (d : Dev) : Dev :=
  if (d.group g).target.transmits then goOn g (d.setGroup g { d.group g with target := .rx, txWait := false }) else d

theorem stopSteps_eq : stopSteps d = stopPark (groupDown 1 (groupDown 0
    (unwindWhere (fun _ => true) (holdPins .stop (fun _ => true) (d.modPtl fun p => { p with parkGo := false }))))) := rfl

@[simp] theorem groupDown_ptl (g : Nat) : (groupDown g d).ptl = d.ptl := by
  unfold groupDown; split <;> simp

theorem stopSteps_same : SameStop d.ptl (stopSteps d).ptl := by
  rw [stopSteps_eq]
  have h := stopPark_same (groupDown 1 (groupDown 0
    (unwindWhere (fun _ => true) (holdPins .stop (fun _ => true) (d.modPtl fun p => { p with parkGo := false })))))
  rw [groupDown_ptl, groupDown_ptl, unwindWhere_ptl, holdPins_ptl] at h
  exact h

/-- A STOP adds its cause and leaves the directions' and the copy's marks. -/
theorem stopFor_same (e : Env) (c : SCause) :
    SameStop { d.ptl with causes := sadd d.ptl.causes c } (stopFor e c d).ptl := by
  unfold stopFor
  dsimp only
  split_ifs
  · have h := stopSteps_same (raiseAgain e ((d.modPtl fun p => { p with causes := sadd p.causes c, relPend := false }).modPtl
      fun p => { p with phase := .stopping, stopCnt := satN (p.stopCnt + 1) 0xFF }) Ev.PTL_STOP)
    rw [raiseAgain_ptl] at h
    exact h
  · exact ⟨rfl, rfl, rfl, rfl⟩
  · rw [raiseAgain_ptl]; exact ⟨rfl, rfl, rfl, rfl⟩

theorem mem_sadd {α : Type} [DecidableEq α] (l : List α) (x : α) : x ∈ sadd l x := by
  unfold sadd; split <;> simp [*]

theorem stopFor_cause (e : Env) (c : SCause) : c ∈ (stopFor e c d).ptl.causes := by
  obtain ⟨-, -, -, hc⟩ := stopFor_same d e c
  rw [hc]; exact mem_sadd _ _

end

end Sys2Proof.Machine
end

section
/-! What Patrol does at a boundary (R256, R268, R270, R272). -/
namespace Sys2Proof.Machine

section
variable (d : Dev)

/-! ### Muted directions (R270) -/

theorem dirCauses_ptl {d t : Dev} (ul : Bool) (hdl : t.ptl.dl = d.ptl.dl) (hul : t.ptl.ul = d.ptl.ul) :
    dirCauses t ul = dirCauses d ul := by
  unfold dirCauses; rw [hdl, hul]

theorem dirCauses_stopFor (e : Env) (c : SCause) (ul : Bool) : dirCauses (stopFor e c d) ul = dirCauses d ul := by
  obtain ⟨hdl, hul, -, -⟩ := stopFor_same d e c
  exact dirCauses_ptl ul hdl hul

theorem dirCauses_stopWhere (e : Env) (c : SCause) (ul : Bool) (p : Prop) [Decidable p] :
    dirCauses (if p then stopFor e c d else d) ul = dirCauses d ul := by
  split
  · exact dirCauses_stopFor d e c ul
  · rfl

theorem dirCauses_raiseAgain (e : Env) (code inst : Nat) (ul : Bool) :
    dirCauses (raiseAgain e d code inst) ul = dirCauses d ul := by
  unfold dirCauses; rw [raiseAgain_ptl]

theorem muteDir_cause (e : Env) (ul : Bool) (c : DCause) : c ∈ dirCauses (muteDir e ul c d) ul := by
  unfold muteDir
  split
  case isTrue h => exact h
  case isFalse h =>
    have hin : c ∈ dirCauses (raiseAgain e (d.modPtl fun p =>
        { p with mdirCnt := satN (p.mdirCnt + 1) 0xFF, dl := if ul then p.dl else p.dl ++ [c], ul := if ul then p.ul ++ [c] else p.ul })
        Ev.PTL_MUTE_DIR (dirInst ul)) ul := by
      rw [dirCauses_raiseAgain]
      cases ul <;> exact List.mem_append_right _ (List.mem_singleton_self c)
    dsimp only
    by_cases hk : c = .emis ∨ c = .cpwr
    · rw [if_pos hk, dirCauses_stopWhere]; exact hin
    · rw [if_neg hk]; exact hin

/-- A composite power more than 3.0 dB above PMAX: the boundary ends with the mute of the direction. -/
theorem cpwrBoundary_mutes {e : Env} {c q r : Nat} {y pmax : Int} (hy : d.eng.comp.lookup c = some (q, r, y, true))
    (hp : fixPower e c = some pmax) (ho : dirOpen d (txUl c) = true) (hx : 300 < y - pmax) :
    ∃ t, cpwrBoundary e c d = muteDir e (txUl c) .cpwr t := by
  unfold cpwrBoundary
  rw [hy, hp]
  dsimp only
  rw [if_neg (by simp [ho]), if_pos (Or.inl hx), if_neg (show ¬y - pmax ≤ 0 by omega), if_neg (by omega)]
  exact ⟨_, rfl⟩

/-! ### Donor presence (R272) and the copy (R256) -/

theorem clearWhere_ptl (code inst : Nat) (p : Prop) [Decidable p] : (if p then clearLive d code inst else d).ptl = d.ptl := by
  split
  · exact clearLive_ptl d code inst
  · rfl

theorem unmuteDir_runs (ul : Bool) (which : DCause → Bool) :
    (unmuteDir ul which d).ptl.absent = d.ptl.absent ∧ (unmuteDir ul which d).ptl.present = d.ptl.present := by
  unfold unmuteDir
  dsimp only
  rw [clearWhere_ptl]
  exact ⟨rfl, rfl⟩

theorem unmuteWhere_runs (ul : Bool) (which : DCause → Bool) (p : Prop) [Decidable p] :
    (if p then unmuteDir ul which d else d).ptl.absent = d.ptl.absent ∧
      (if p then unmuteDir ul which d else d).ptl.present = d.ptl.present := by
  split
  · exact unmuteDir_runs d ul which
  · exact ⟨rfl, rfl⟩

/-- One of the two counts starts anew, the other goes on. -/
theorem dlossBoundary_runs (b : Bool) :
    let seen := b || d.slices.any fun p => !isUl d p.1 && p.2.meas.pres
    (dlossBoundary b d).ptl.absent = (if seen then 0 else satN (d.ptl.absent + 1) 20400) ∧
      (dlossBoundary b d).ptl.present = (if seen then satN (d.ptl.present + 1) 20400 else 0) := by
  unfold dlossBoundary
  exact unmuteWhere_runs _ true _ _

theorem selfTest_mismatch {e : Env} (h : e.fix.isSome = true) :
    SCause.self ∈ (selfTest e false d).ptl.causes ∧ (selfTest e false d).ptl.copyBad = true := by
  unfold selfTest
  rw [if_neg (by simpa [Option.isSome_iff_ne_none] using h)]
  simp only [Bool.not_false, Bool.false_eq_true, if_false]
  split
  case isTrue hs => exact ⟨hs, by rw [raiseLive_ptl]; rfl⟩
  case isFalse hs =>
    obtain ⟨-, -, hc, -⟩ := stopFor_same (raiseLive e (d.modPtl fun p => { p with copyBad := true }) Ev.PTL_SELFTEST) e .self
    exact ⟨stopFor_cause _ e .self, by rw [hc, raiseLive_ptl]; rfl⟩

end

end Sys2Proof.Machine
end

section
/-! What a control-period boundary does (R40), assembled from its parts. -/
namespace Sys2Proof.Machine

/-- Settles O48: the boundary's parts, each by its own lemma. -/
theorem boundaryParts : Obligations.BoundaryParts := by
  intro e x d
  refine ⟨fun s hrun => lift_runs s (fun e d => boundary e x d) hrun, rfl,
    fun n m hm hf hx => closeSlice_measured d x hm hf hx, fun n hr => closeSlice_resting d x hr,
    fun n pw pk raw bins _ => ⟨sliceClose_seq d n pw pk raw bins, sliceClose_measuring d pw pk raw bins, sliceClose_resting d pw pk raw bins⟩,
    dbm_least, fun c m hh hx => closeRx_heard d x hh hx, fun c hh => closeRx_unheard d x e hh,
    fun c q r y a hc hh => closeTx_unheard d x hc hh, fun i r hi lo _ hc hm hr hs hz hl => computeLoop_auto d hc hm hr hs hz hl,
    fun u corr hi lo v hl => integrate_bounds hl v,
    fun u corr hi lo hl => ⟨integrate_invalid hl, integrate_frozen_top hl, integrate_frozen_bottom hl, integrate_inside hl⟩,
    fun i e16 he hn => ⟨correction_top he hn, correction_bottom he hn⟩, fun i v _ h => applyOut_staged d h, fun i v hi lo _ h hl hle => ?_,
    glideStep_unlimited, fun vm am jm dt g => ?_, fun n _ hs ha hy => cnlFigures_pauses d hs ha hy, fun n _ ha hy => cnlFigures_young d ha hy,
    fun n _ hs hr hm => cnlPublish_measured d hs hr hm, fun n _ hs hr => cnlPublish_unreferenced d hs hr, selfTest_mismatch d,
    fun b _ hb => ?_, fun hb _ _ => ?_, fun c q r y pmax hy hp ho hx => ?_⟩
  · rw [(applyOut_staged d h).1, Loop.clamp, hl]
    exact clampI_bounds v hle
  · have h := glideStep_shortOf vm am jm dt g
    unfold shortOf at h
    omega
  · rw [(dlossBoundary_runs d b).1, if_pos hb]
  · obtain ⟨ha, hp⟩ := dlossBoundary_runs d false
    rw [ha, hp, Bool.false_or, hb]
    exact ⟨rfl, rfl⟩
  · obtain ⟨t, ht⟩ := cpwrBoundary_mutes d hy hp ho hx
    rw [ht]
    exact muteDir_cause t e (txUl c) .cpwr

end Sys2Proof.Machine
end

section
/-! Writes of the group, synthesiser, calibration, RFFE and pin registers (R61, R70, R76, R79, R83, R86, R104). -/
namespace Sys2Proof.Machine

/-- An accepted word of a register of the radio blocks that the register's own rule takes has the register's effect. -/
theorem liftWrite_radio (s : State) (b : By) {n : RegName} (i j : Nat) (w : Word) (hn : n.block ≤ 5 ∨ n = .CAL_CTL)
    (hf : n.fields.isEmpty = false) (h : Accepts s b n i j w)
    (hr : ruleRadio s.env n { by_ := b, i := i, j := j, w := w } s.dev = .take) :
    liftWrite b n i j w s =
      .next (s.written b n i j w (actRadio s.env n { by_ := b, i := i, j := j, w := w } (s.dev.reg n i j))) :=
  liftWrite_accepted s b n i j w _ hf h ((ruleOf_radio _ _ _ _ hn).trans hr) (actOf_radio _ _ _ _ _ hn)

/-- The rule of SYN_GRP_CTL takes a legal TARGET with masks that R79 lets through. -/
theorem ruleRadio_grpCtl (e : Env) {x : Wr} {d : Dev} (ht : (GSt.ofCode (SYN_GRP_CTL.TARGET.of x.w)).isSome = true)
    (hm : maskBarred x d = false) : ruleRadio e .SYN_GRP_CTL x d = .take := by
  simp [ruleRadio, orRefuse, hm, Option.isSome_iff_ne_none.mp ht]

/-- A group word is one write, whether it is sent for its TARGET or for REARM. -/
theorem liftWrite_grpCtl {s : State} {b : By} {g : Nat} {w : Word} (h : Accepts s b .SYN_GRP_CTL g 0 w)
    (ht : (GSt.ofCode (SYN_GRP_CTL.TARGET.of w)).isSome = true)
    (hm : maskBarred { by_ := b, i := g, j := 0, w := w } s.dev = false) :
    liftWrite b .SYN_GRP_CTL g 0 w s = .next (s.written b .SYN_GRP_CTL g 0 w (groupWrite s.env g w)) :=
  liftWrite_radio s b g 0 w (by decide) rfl h (ruleRadio_grpCtl s.env ht hm)

/-- Settles O17: each register's own rule takes the word, whose effect is that of `actRadio`. -/
theorem groupAndSynthWrites : Obligations.GroupAndSynthWrites := by
  intro s src w
  refine ⟨fun _ h ht hm => liftWrite_grpCtl h ht hm, fun _ h ht hm => liftWrite_grpCtl h ht hm, fun n h hok => ?_, fun h => ?_⟩
  · have hr : ruleRadio s.env .SYN_LO_FREQ { by_ := src.plain, i := n.val, j := 0, w := w } s.dev = .take := by
      simp [ruleRadio, orRefuse, hok]
    exact liftWrite_radio s src.plain n.val 0 w (by decide) rfl h hr
  · exact liftWrite_radio s src.plain 0 0 w (by decide) rfl h rfl

/-! ### RFFE commands (R83) -/

/-- The data bytes that a SYN_RFFE_CMD word takes along, by its type: none for a read, one for a Register Write, BC + 1 for the
extended writes. -/
def rffeCmdData (typ m : Nat) (w : Word) (d : Dev) : List Nat :=
  if typ = 3 then [] else rffeData d m (if typ = 1 ∨ typ = 2 then SYN_RFFE_CMD.BC.of w + 1 else 1)

/-- The device with the command of a SYN_RFFE_CMD word behind those that wait. -/
def rffeQueued (typ m : Nat) (w : Word) (d : Dev) : Dev :=
  d.setRffe m { d.rffeM m with fifo := (d.rffeM m).fifo ++ [{
    typ := typ, usid := SYN_RFFE_CMD.USID.of w, addr := SYN_RFFE_CMD.ADDR.of w, data := rffeCmdData typ m w d }] }

section
variable {typ m : Nat} {w : Word} (ht : SYN_RFFE_CMD.TYPE.of w = typ)
  (hb : rffeBad typ (SYN_RFFE_CMD.BC.of w) (SYN_RFFE_CMD.USID.of w) (SYN_RFFE_CMD.ADDR.of w) = false)
include ht hb

/-- A command inside R83 enters a FIFO that has room. -/
theorem rffeEnqueue_room (e : Env) (d : Dev) (hl : (d.rffeM m).fifo.length < 64) :
    rffeEnqueue e m w d = (rffeQueued typ m w d, true) := by
  subst ht
  simp only [rffeEnqueue, hb, Bool.false_eq_true, if_false, if_neg (Nat.not_le.mpr hl)]
  rfl

/-- SYN_RFFE_CMD, whatever the type. -/
theorem liftWrite_rffeCmd {s : State} {b : By} (h : Accepts s b .SYN_RFFE_CMD m 0 w) (hl : (s.dev.rffeM m).fifo.length < 64) :
    liftWrite b .SYN_RFFE_CMD m 0 w s = .next (s.written b .SYN_RFFE_CMD m 0 w (rffeQueued typ m w)) := by
  refine liftWrite_accepted s b .SYN_RFFE_CMD m 0 w _ rfl h ?_ ?_
  · rw [ruleOf_radio _ _ _ _ (by decide)]
    simp [ruleRadio, rffeEnqueue_room ht hb s.env s.dev hl]
  · rw [actOf_radio _ _ _ _ _ (by decide)]
    have hroom : ((storeWord ⟨.SYN_RFFE_CMD, m, 0⟩ w s.dev).rffeM m).fifo.length < 64 := by rwa [storeWord_rffeM]
    exact congrArg Prod.fst (rffeEnqueue_room ht hb s.env _ hroom)

end

/-- Settles O18: the four types are one write with the type's data. -/
theorem rffeCommandWrites : Obligations.RffeCommandWrites := by
  intro s src w
  refine ⟨fun _ h ht hb hl => liftWrite_rffeCmd ht hb h hl, fun _ h ht hb hl => liftWrite_rffeCmd ht hb h hl,
    fun _ h ht hb hl => liftWrite_rffeCmd ht hb h hl, fun _ h ht hb hl => liftWrite_rffeCmd ht hb h hl, fun n h hok => ?_⟩
  have hr : ruleRadio s.env .SYN_TGPIO_CFG { by_ := src.plain, i := n.val, j := 0, w := w } s.dev = .take := by
    simp [ruleRadio, orDrop, hok]
  exact liftWrite_radio s src.plain n.val 0 w (by decide) rfl h hr

end Sys2Proof.Machine
end

section
/-! Radio groups and their synthesisers (R59, R63, R64, R69, R70, R72 to R75). -/
namespace Sys2Proof.Machine

section
variable (e : Env) (d : Dev)

/-! ### Steps of a group -/

theorem stepDone_drained {g : Nat} (hp : (d.group g).phase = .draining) (hr : (d.group g).reversing = false) :
    stepDone g d =
      let d1 := groupDomains g (d.setGroup g { d.group g with phase := .offing })
      advance g (if (d.group g).step = .standby then synthsOff g d1 else d1) := by
  simp [stepDone, hp, hr]

theorem stepDone_off {g : Nat} (hp : (d.group g).phase = .offing) :
    stepDone g d = advance g (arrive g (d.group g).step (d.setGroup g { d.group g with queued := false })) := by
  simp [stepDone, hp]

/-- A power-up step that waits for no lock. -/
theorem stepDone_moved {g : Nat} (hp : (d.group g).phase = .moving) (hs : (d.group g).step ≠ .synth) :
    stepDone g d = advance g (arrive g (d.group g).step d) := by
  simp [stepDone, hp, hs]

theorem rxWaitEnd_unlocked {g : Nat} (hn : (d.group g).nominal = true) (hs : (d.group g).state = .standby)
    (hl : (d.synth (rxSyn g)).lock = false) : rxWaitEnd e g d = giveUp e g d := by
  simp [rxWaitEnd, hn, hs, hl]

/-! ### Lock -/

section
variable {n : Nat}

theorem synthLock_declared (band : Nat) (ho : (d.synth n).on = true) (hl : (d.synth n).lock = false) :
    synthLock e n band d =
      if (d.synth n).retune then
        forN 192 (fun k y => if servedBy y n k then rangeCheck e k y else y) (retuneCoarse n (locked n band d))
      else locked n band d := by
  simp [synthLock, ho, hl]

/-- A loss of lock below SYNTH (log entry 45). -/
theorem synthUnlock_low (hl : (d.synth n).lock = true) (hg : (d.group (n / 2)).state.code < 2) :
    synthUnlock e n d = followEdges (d.setSynth n { d.synth n with lock := false }) := by
  simp [synthUnlock, hl, Nat.not_le.mpr hg]

theorem synthUnlock_high (hl : (d.synth n).lock = true) (hg : 2 ≤ (d.group (n / 2)).state.code) :
    synthUnlock e n d = loseLock e n d := by
  simp [synthUnlock, hl, hg]

theorem retuneTimeout_unlocked (hr : (d.synth n).retune = true) (hl : (d.synth n).lock = false) :
    retuneTimeout e n d = loseLock e n d := by
  simp [retuneTimeout, hr, hl]

end
end

/-- Settles O35: each clause is the branch of `stepDone` or of a lock wait that its hypotheses name. -/
theorem groupSteps : Obligations.GroupSteps := by
  intro s hrun
  refine ⟨fun g ofs hp hr => ?_, fun g ofs hp => ?_, fun g ofs hp hs => ?_, fun g _ => lift_runs s (fun e d => txWaitEnd e g.val d) hrun,
    fun g hn hs hl => ?_⟩
  · exact lift_eq s (fun _ d => stepDone g.val (d.atOfs ofs)) _ hrun (stepDone_drained (s.dev.atOfs ofs) hp hr)
  · exact lift_eq s (fun _ d => stepDone g.val (d.atOfs ofs)) _ hrun (stepDone_off (s.dev.atOfs ofs) hp)
  · exact lift_eq s (fun _ d => stepDone g.val (d.atOfs ofs)) _ hrun (stepDone_moved (s.dev.atOfs ofs) hp hs)
  · exact lift_eq s (fun e d => rxWaitEnd e g.val d) _ hrun (rxWaitEnd_unlocked s.env s.dev hn hs hl)

/-- Settles O36: each clause is the branch of the synthesiser's operation that its hypotheses name. -/
theorem synthesiserLock : Obligations.SynthesiserLock := by
  intro s hrun
  refine ⟨fun n band ofs ho hl => ?_, fun n hl hg => ?_, fun n hl hg => ?_, fun n hr hl => ?_⟩
  · exact lift_eq s (fun e d => synthLock e n.val band (d.atOfs ofs)) _ hrun (synthLock_declared s.env (s.dev.atOfs ofs) band ho hl)
  · exact lift_eq s (fun e d => synthUnlock e n.val d) _ hrun (synthUnlock_low s.env s.dev hl hg)
  · exact lift_eq s (fun e d => synthUnlock e n.val d) _ hrun (synthUnlock_high s.env s.dev hl hg)
  · exact lift_eq s (fun e d => retuneTimeout e n.val d) _ hrun (retuneTimeout_unlocked s.env s.dev hr hl)

end Sys2Proof.Machine
end

section
/-! RFFE buses (R82, R84) and FOLLOW pins (R86, R88). -/
namespace Sys2Proof.Machine

section
variable (e : Env) (d : Dev) {m : Nat} {c : RffeCmd}

/-! ### A sequence starts -/

theorem rffeBegin_fifo (h : rffePick d m = .fifo c) :
    rffeBegin m e d = d.setRffe m { d.rffeM m with fifo := (d.rffeM m).fifo.tail, bus := some c, lastSeq := some c } := by
  simp [rffeBegin, rffeStart, h, rffeExecuted]

theorem rffeBegin_timed {x : RffeTimed} {late : Int} (h : rffePick d m = .timed x late) :
    rffeBegin m e d = rffeExecuted x.act (rffeLate e m late
      (d.setRffe m { d.rffeM m with timed := (d.rffeM m).timed.tail, bus := some x.cmd, lastSeq := some x.cmd })) := by
  simp [rffeBegin, rffeStart, h]

/-! ### A sequence ends -/

section
variable (byte : Nat) (hb : (d.rffeM m).bus = some c)
include hb

/-- The device after a Register Read: its byte is there and the bus is free. -/
theorem rffeDone_read (ok : Bool) (ht : c.typ = 3) :
    rffeDone e m byte ok d =
      let d1 := d.setRffe m { d.rffeM m with bus := none, rdValid := true, rdData := byte % 256 }
      if ok then d1 else report e (d1.setBit SYN_RFFE_STAT.PERR m) Ev.RFFE_PARITY m := by
  simp [rffeDone, hb, ht]

theorem rffeDone_write (ok : Bool) (ht : c.typ ≠ 3) : rffeDone e m byte ok d = d.setRffe m { d.rffeM m with bus := none } := by
  simp [rffeDone, hb, ht]

end

/-- A read of SYN_RFFE_RD clears VALID (R84). -/
theorem readReg_rffeRd (ho : occupant e d (RegName.SYN_RFFE_RD.addr m 0) = some ⟨.SYN_RFFE_RD, m, 0⟩) :
    readReg e (RegName.SYN_RFFE_RD.addr m 0) d =
      (d.setRffe m { d.rffeM m with rdValid := false }, view e d .SYN_RFFE_RD m 0) := by
  simp [readReg, addr_mod_four, ho]

/-! ### Pins -/

theorem pinEdge_free {n : Nat} {b : Bool} {rest : List Bool} (he : (d.pin n).edges = b :: rest) (hh : (d.pin n).hold = []) :
    pinEdge n d = d.setPin n { d.pin n with drive := some b, edges := rest } := by
  simp [pinEdge, he, hh]

end

/-- Settles O37: the end of a Register Read by its parity, and the read of its register. -/
theorem rffeReads : Obligations.RffeReads := by
  intro s hrun
  refine ⟨fun m byte c hb ht => ?_, fun m byte c hb ht => ?_, fun _ m ho => ?_, fun _ => rfl⟩
  · exact lift_eq s (fun e d => rffeDone e m.val byte true d) _ hrun (rffeDone_read s.env s.dev byte hb true ht)
  · exact lift_eq s (fun e d => rffeDone e m.val byte false d) _ hrun (rffeDone_read s.env s.dev byte hb false ht)
  · exact lift_eq s (readAt _) _ hrun (readAt_of_readReg (readReg_rffeRd s.env s.dev ho))

/-- Settles O38: the choice of the bus, the end of a write, and the oldest edge of a pin. -/
theorem rffeBusAndPins : Obligations.RffeBusAndPins := by
  intro s hrun
  refine ⟨fun m ofs c h => ?_, fun m ofs x late h => ?_, fun m byte ok c hb ht => ?_, fun n b rest he hh => ?_⟩
  · exact lift_eq s (fun e d => rffeBegin m.val e (d.atOfs ofs)) _ hrun (rffeBegin_fifo s.env (s.dev.atOfs ofs) h)
  · exact lift_eq s (fun e d => rffeBegin m.val e (d.atOfs ofs)) _ hrun (rffeBegin_timed s.env (s.dev.atOfs ofs) h)
  · exact lift_eq s (fun e d => rffeDone e m.val byte ok d) _ hrun (rffeDone_write s.env s.dev byte hb ok ht)
  · exact lift_eq s (fun _ d => pinEdge n.val d) _ hrun (pinEdge_free s.dev he hh)

end Sys2Proof.Machine
end

section
/-! Calibrations of a start and on request (R101, R103 to R105), background steps (R106, R107) and the user calibration area
(R113). -/
namespace Sys2Proof.Machine

section
variable (e : Env) (d : Dev)

/-! ### A calibration step ends -/

section
variable (ok : Nat)

theorem calStepDone_orxSelf (h : d.cal.now = some .orxSelf) : calStepDone e .orxSelf ok d = calOrxDone e (bitOf ok 0) d :=
  if_pos h

theorem calStepDone_tx {c : Nat} (h : d.cal.now = some (.tx c)) :
    calStepDone e (.tx c) ok d = calTxDone e c false (bitOf ok c) d :=
  if_pos h

theorem calStepDone_txFlat {c : Nat} (h : d.cal.now = some (.txFlat c)) :
    calStepDone e (.txFlat c) ok d = calTxDone e c true (bitOf ok c) d :=
  if_pos h

theorem calStepDone_rx {g : Nat} (hr : (gcal d g).run = true) (hf : (gcal d g).rxFlat = false) :
    calStepDone e (.rx g) ok d = calRxDone e g (bitOf ok) d := by
  simp [calStepDone, hr, hf]

theorem calStepDone_rxFlat {g : Nat} (hr : (gcal d g).run = true) (hf : (gcal d g).rxFlat = true) :
    calStepDone e (.rxFlat g) ok d = calRxDone e g (bitOf ok) d := by
  simp [calStepDone, hr, hf]

end

/-! ### On-request calibrations and background steps -/

/-- A pending on-request calibration starts where its group is above STANDBY and not HELD (log entry 175). -/
theorem onReqPending_free {g : Nat} (hp : (gcal d g).pend = true) (hb : orxBusyWith d g = false)
    (hs : 2 ≤ (d.group g).state.code) (hh : (d.group g).held = false) : onReqPending e g d = onReqStart e g d := by
  have hup : ¬ ((d.group g).state.code ≤ 1 ∨ (d.group g).held = true) := not_or.mpr ⟨by omega, by simp [hh]⟩
  simp only [onReqPending, hp, hb, Bool.not_false, and_self, if_true, if_neg hup]

/-- An RX gap step takes its turn in the rotation and leaves the ORX alone. -/
theorem bgBegin_rxGap {c : Nat} (h : bgMay d .rxGap c = true) :
    bgBegin .rxGap c d = { d with cal := { d.cal with bg := some (.rxGap, c), lastBg := (0, c) } } := by
  simp [bgBegin, bgStart, h]

theorem bgDone_running {b : BgKind × Nat} (h : d.cal.bg = some b) :
    bgDone d = orxGive .bg { d with cal := { d.cal with
      bg := none, bgCnt := (d.cal.bgCnt + 1) % 65536, bgDone := d.cal.bgDone ++ [b] } } := by
  simp only [bgDone, h]

/-! ### The user calibration area -/

section
variable {j : UcalJob} (hj : d.ucalJob = some j) (hb : nvBarred d = false) (hf : d.pwr.failed = false)
include hj hb hf

theorem ucalSegment_next (hl : 1 < j.left) :
    ucalSegment e true d = { d with ucalJob := some { j with left := j.left - 1, retried := false } } := by
  simp [ucalSegment, hj, hb, hf, hl]

theorem ucalSegment_last (hl : j.left ≤ 1) : ucalSegment e true d = ucalFinish e j d := by
  simp [ucalSegment, hj, hb, hf, Nat.not_lt.mpr hl]

end
end

/-- Settles O39: each clause is the branch of the command's operation that its hypotheses name. -/
theorem calibrationSteps : Obligations.CalibrationSteps := by
  intro s hrun
  refine ⟨lift_runs s (fun _ d => { d with orx := { d.orx with switching := false } }) hrun, fun ok h => ?_, fun c ok h => ?_,
    fun c ok h => ?_, fun g ok hr hf => ?_, fun g ok hr hf => ?_, fun g hp hb hs hh => ?_, fun c h => ?_, fun b h => ?_,
    fun j hj hl hb hf => ?_, fun j hj hl hb hf => ?_⟩
  · exact lift_eq s (fun e d => calStepDone e .orxSelf ok d) _ hrun (calStepDone_orxSelf s.env s.dev ok h)
  · exact lift_eq s (fun e d => calStepDone e (.tx c.val) ok d) _ hrun (calStepDone_tx s.env s.dev ok h)
  · exact lift_eq s (fun e d => calStepDone e (.txFlat c.val) ok d) _ hrun (calStepDone_txFlat s.env s.dev ok h)
  · exact lift_eq s (fun e d => calStepDone e (.rx g.val) ok d) _ hrun (calStepDone_rx s.env s.dev ok hr hf)
  · exact lift_eq s (fun e d => calStepDone e (.rxFlat g.val) ok d) _ hrun (calStepDone_rxFlat s.env s.dev ok hr hf)
  · exact lift_eq s (fun e d => onReqPending e g.val d) _ hrun (onReqPending_free s.env s.dev hp hb hs hh)
  · exact lift_eq s (fun _ d => bgBegin .rxGap c.val d) _ hrun (bgBegin_rxGap s.dev h)
  · exact lift_eq s (fun _ d => bgDone d) _ hrun (bgDone_running s.dev h)
  · exact lift_eq s (fun e d => ucalSegment e true d) _ hrun (ucalSegment_next s.env s.dev hj hb hf hl)
  · exact lift_eq s (fun e d => ucalSegment e true d) _ hrun (ucalSegment_last s.env s.dev hj hb hf hl)

end Sys2Proof.Machine
end

section
/-! Writes of the slice, latency, glaze, pool and spare registers (R124, R131, R133, R136, R139, R140, R145, R148, R150, R160,
R163, R392). -/
namespace Sys2Proof.Machine

/-- An accepted word of a register of the slice or pool block that the register's own rule takes has the register's effect. -/
theorem liftWrite_slices {s : State} {b : By} {n : RegName} {i j : Nat} {w : Word} (act : Dev → Dev)
    (hn : n.block = 0x10 ∨ n.block = 0x80) (hf : n.fields.isEmpty = false) (h : Accepts s b n i j w)
    (hr : ruleSlices s.env n { by_ := b, i := i, j := j, w := w } s.dev = .take)
    (ha : actSlices s.env n { by_ := b, i := i, j := j, w := w } (s.dev.reg n i j) (storeWord ⟨n, i, j⟩ w s.dev) =
      act (storeWord ⟨n, i, j⟩ w s.dev)) :
    liftWrite b n i j w s = .next (s.written b n i j w act) := by
  have h0 : ¬(n.block ≤ 5 ∨ n = .CAL_CTL) := by
    rintro (hle | rfl)
    · omega
    · exact absurd hn (by decide)
  exact liftWrite_accepted s b n i j w act hf h ((ruleOf_slices _ _ _ _ h0 hn).trans hr) ((actOf_slices _ _ _ _ _ h0 hn).trans ha)

section
variable (e : Env) {n : RegName} {x : Wr} {d : Dev}

/-! ### SLC_CTL (R136, R139, R140) -/

/-- A word is taken whole unless it would enable an IDLE slice that fails a check. -/
theorem ruleSliceCtl_take (h : SLC_CTL.EN.bit x.w = true → (d.slice x.i).st = .idle → (enableChecks e x.i d).2 = true) :
    ruleSliceCtl e x d = .take := by
  unfold ruleSliceCtl
  split
  next hc => exact if_pos (h hc.1 hc.2)
  next => rfl

theorem actSliceCtl_enable (hen : SLC_CTL.EN.bit x.w = true) (hst : (d.slice x.i).st = .idle) :
    actSliceCtl e x d = dozeLeave x.i (if SLC_CTL.FMUTE.bit x.w then muteForce x.i (enableSlice e x.by_ x.i d)
      else enableSlice e x.by_ x.i d) := by
  simp [actSliceCtl, hen, hst]

theorem actSliceCtl_disable (hen : SLC_CTL.EN.bit x.w = false) :
    actSliceCtl e x d = dozeLeave x.i (if SLC_CTL.FMUTE.bit x.w then muteForce x.i (setMark (msetOf d x.i) (disableSlice e x.i d))
      else setMark (msetOf d x.i) (disableSlice e x.i d)) := by
  simp [actSliceCtl, hen]

/-- Where EN = 1 changes nothing, FMUTE = 1 closes the mute. -/
theorem actSliceCtl_mute (hen : SLC_CTL.EN.bit x.w = true) (hmute : SLC_CTL.FMUTE.bit x.w = true)
    (hidle : (d.slice x.i).st ≠ .idle) (hdrain : (d.slice x.i).st ≠ .draining) :
    actSliceCtl e x d = dozeLeave x.i (muteForce x.i d) := by
  unfold actSliceCtl
  dsimp only
  rw [if_pos hen, if_pos hmute]
  split
  next h => exact absurd h hidle
  next h => exact absurd h hdrain
  next => rfl

/-! ### Configuration of an IDLE slice (R21, R124) -/

section
variable (hst : (d.slice x.i).st = .idle)
include hst

theorem ruleSliceCfg_cfg0_idle (hw : SLC_CFG0.WIDTH.of x.w ≠ 3) (hm : SLC_CFG0.MSET.of x.w ≤ 191)
    (hr : routeOk (SLC_CFG0.DIR.bit x.w) (SLC_CFG0.SRC.of x.w) (SLC_CFG0.SINK.of x.w) = true) :
    ruleSliceCfg e .SLC_CFG0 x d = .take := by
  simp [ruleSliceCfg, hst, hw, Nat.not_lt.mpr hm, hr]

theorem ruleSliceCfg_cfg1_idle (hl : SLC_CFG1.FLEN.of x.w % 2 = 1) : ruleSliceCfg e .SLC_CFG1 x d = .take := by
  simp [ruleSliceCfg, hst, hl]

theorem ruleSliceCfg_nco_idle (hn : n = .SLC_NCO_RX ∨ n = .SLC_NCO_TX) : ruleSliceCfg e n x d = .take := by
  rcases hn with rfl | rfl <;> simp [ruleSliceCfg, hst]

theorem actSliceCfg_idle (n : RegName) (old : Word) : actSliceCfg n x old d = d := by
  simp [actSliceCfg, hst]

/-- A configuration word of an IDLE slice is stored alone. -/
theorem actSlices_sliceCfg_idle (r : SliceCfg) (old : Word) : actSlices e (sliceRegOf r) x old d = d := by
  cases r <;> simp [sliceRegOf, actSlices, actSliceCfg_idle hst]

end

/-! ### Glaze swaps (R160, R163) -/

theorem ruleSlices_glaze (hlo : 64 ≤ SLC_GLZ_CTL.LEN.of x.w) (hhi : SLC_GLZ_CTL.LEN.of x.w ≤ 4096) :
    ruleSlices e .SLC_GLZ_CTL x d = .take := by
  simp [ruleSlices, orRefuse, Nat.not_lt.mpr hlo, Nat.not_lt.mpr hhi]

theorem actGlaze_one (hswap : SLC_GLZ_CTL.SWAP.bit x.w = true) (hset : SLC_GLZ_CTL.SET.bit x.w = false) :
    actGlaze e x d = glazeRequest e x.by_ (SLC_GLZ_CTL.LEN.of x.w) x.i d := by
  simp [actGlaze, hswap, hset]

/-- With SET, every enabled member of the set takes LEN and the request, and each other than the one written its own triple. -/
theorem actGlaze_set (hswap : SLC_GLZ_CTL.SWAP.bit x.w = true) (hset : SLC_GLZ_CTL.SET.bit x.w = true) :
    actGlaze e x d = forL (setMembers d (msetOf d x.i)) (fun k d =>
      glazeRequest e x.by_ (SLC_GLZ_CTL.LEN.of x.w) k (Dev.put (if k = x.i then d else
        journalAdd { addr := RegName.SLC_GLZ_CTL.addr k 0, old := (d.reg .SLC_GLZ_CTL k).toNat, new := x.w.toNat } d)
        SLC_GLZ_CTL.LEN k (SLC_GLZ_CTL.LEN.of x.w))) d := by
  simp [actGlaze, hswap, hset]

/-! ### Captures (R145) -/

theorem ruleCapture_disarmed (harm : POOL_CAP_CFG.ARM.bit x.w = false) (hp : POOL_CAP_CFG.POINT.of x.w ≠ 3)
    (ht : POOL_CAP_CFG.TRIG.of x.w ≠ 3) : ruleCapture e x d = .take := by
  simp [ruleCapture, harm, hp, ht]

theorem actCapture_arm (harm : POOL_CAP_CFG.ARM.bit x.w = true) :
    actCapture x d = { d with pool := { d.pool with cap := { blocks := POOL_CAP_CFG.BLOCKS.of x.w, armed := true } } } := by
  simp [actCapture, harm]

theorem actCapture_release (harm : POOL_CAP_CFG.ARM.bit x.w = false) (hrel : POOL_CAP_CFG.REL.bit x.w = true) :
    actCapture x d = { d with pool := { d.pool with cap := {} } } := by
  simp [actCapture, harm, hrel]

end

/-! ### The registers of a slice -/

section
variable {s : State} {b : By} {n : Nat} {w : Word}

/-- An accepted SLC_CTL word, whatever it asks for. -/
theorem liftWrite_sliceCtl {act : Dev → Dev} (h : Accepts s b .SLC_CTL n 0 w)
    (hc : SLC_CTL.EN.bit w = true → (s.dev.slice n).st = .idle → (enableChecks s.env n s.dev).2 = true)
    (ha : actSliceCtl s.env { by_ := b, i := n, j := 0, w := w } (storeWord ⟨.SLC_CTL, n, 0⟩ w s.dev) =
      act (storeWord ⟨.SLC_CTL, n, 0⟩ w s.dev)) :
    liftWrite b .SLC_CTL n 0 w s = .next (s.written b .SLC_CTL n 0 w act) :=
  liftWrite_slices act (.inl rfl) rfl h (ruleSliceCtl_take (x := { by_ := b, i := n, j := 0, w := w }) s.env hc) ha

/-- A configuration word of an IDLE slice that its register's rule takes. -/
theorem liftWrite_sliceCfg_idle (r : SliceCfg) (h : Accepts s b (sliceRegOf r) n 0 w) (hst : (s.dev.slice n).st = .idle)
    (hr : ruleSliceCfg s.env (sliceRegOf r) { by_ := b, i := n, j := 0, w := w } s.dev = .take) :
    liftWrite b (sliceRegOf r) n 0 w s = .next (s.written b (sliceRegOf r) n 0 w id) := by
  have ha := actSlices_sliceCfg_idle s.env (x := { by_ := b, i := n, j := 0, w := w }) (d := storeWord ⟨sliceRegOf r, n, 0⟩ w s.dev)
    (by rwa [storeWord_slice]) r (s.dev.reg (sliceRegOf r) n 0)
  cases r
  all_goals exact liftWrite_slices id (.inl rfl) rfl h hr ha

/-- A coefficient word of an open bank. -/
theorem liftWrite_coef {k : Nat} (bankB : Bool) (h : Accepts s b (if bankB then .SLC_COEF_B else .SLC_COEF_A) n k w)
    (ho : bankOpen s.dev n bankB = true) :
    liftWrite b (if bankB then .SLC_COEF_B else .SLC_COEF_A) n k w s =
      .next (s.written b (if bankB then .SLC_COEF_B else .SLC_COEF_A) n k w id) := by
  cases bankB
  · exact liftWrite_slices id (.inl rfl) rfl h (by simp [ruleSlices, orRefuse, ho]) rfl
  · exact liftWrite_slices id (.inl rfl) rfl h (by simp [ruleSlices, orRefuse, ho]) rfl

/-- A gain inside R133. -/
theorem liftWrite_gain (h : Accepts s b .SLC_GAIN n 0 w) (hlo : -3000 ≤ SLC_GAIN.GAIN.int w) (hhi : SLC_GAIN.GAIN.int w ≤ 6000) :
    liftWrite b .SLC_GAIN n 0 w s = .next (s.written b .SLC_GAIN n 0 w (actGain { by_ := b, i := n, j := 0, w := w })) :=
  liftWrite_slices _ (.inl rfl) rfl h (by simp [ruleSlices, orRefuse, Int.not_lt.mpr hlo, Int.not_lt.mpr hhi]) rfl

/-- An accepted POOL_CAP_CFG word that R145 takes. -/
theorem liftWrite_capture {act : Dev → Dev} (h : Accepts s b .POOL_CAP_CFG 0 0 w)
    (hr : ruleCapture s.env { by_ := b, i := 0, j := 0, w := w } s.dev = .take)
    (ha : ∀ d, actCapture { by_ := b, i := 0, j := 0, w := w } d = act d) :
    liftWrite b .POOL_CAP_CFG 0 0 w s = .next (s.written b .POOL_CAP_CFG 0 0 w act) :=
  liftWrite_slices act (.inr rfl) rfl h hr (ha _)

/-- An accepted SLC_GLZ_CTL word whose LEN lies inside R160. -/
theorem liftWrite_glaze {act : Dev → Dev} (h : Accepts s b .SLC_GLZ_CTL n 0 w) (hlo : 64 ≤ SLC_GLZ_CTL.LEN.of w)
    (hhi : SLC_GLZ_CTL.LEN.of w ≤ 4096) (ha : ∀ d, actGlaze s.env { by_ := b, i := n, j := 0, w := w } d = act d) :
    liftWrite b .SLC_GLZ_CTL n 0 w s = .next (s.written b .SLC_GLZ_CTL n 0 w act) :=
  liftWrite_slices act (.inl rfl) rfl h (ruleSlices_glaze s.env hlo hhi) (ha _)

/-- An accepted GO queues what RET asks for. -/
theorem liftWrite_spare {ret : Bool} (h : Accepts s b .SLC_SPARE_CTL 0 0 w) (hgo : SLC_SPARE_CTL.GO.bit w = true)
    (hret : SLC_SPARE_CTL.RET.bit w = ret) (hr : ruleOf s.env .SLC_SPARE_CTL { by_ := b, i := 0, j := 0, w := w } s.dev = .take) :
    liftWrite b .SLC_SPARE_CTL 0 0 w s =
      .next (s.written b .SLC_SPARE_CTL 0 0 w (spareRequest (SLC_SPARE_CTL.SLICE.of w) ret)) := by
  refine liftWrite_accepted s b .SLC_SPARE_CTL 0 0 w _ rfl h hr ?_
  rw [actOf_slices _ _ _ _ _ (by decide) (by decide)]
  simp only [actSlices, hgo, hret, if_true]

end

/-- Settles O19: each register's own rule takes the word; SLC_CTL and SLC_GAIN act, and the others are stored alone. -/
theorem sliceWrites : Obligations.SliceWrites := by
  intro s src w
  refine ⟨fun n h hen hst hc => ?_, fun n h hen => ?_, fun n h hen hmute hidle hdrain => ?_,
    fun n h hst hw hm hr => liftWrite_sliceCfg_idle .cfg0 h hst (ruleSliceCfg_cfg0_idle s.env hst hw hm hr),
    fun n h hst hl => liftWrite_sliceCfg_idle .cfg1 h hst (ruleSliceCfg_cfg1_idle s.env hst hl),
    fun n h hst => liftWrite_sliceCfg_idle .ncoRx h hst (ruleSliceCfg_nco_idle s.env hst (.inl rfl)),
    fun n h hst => liftWrite_sliceCfg_idle .ncoTx h hst (ruleSliceCfg_nco_idle s.env hst (.inr rfl)),
    fun n h hlo hhi => liftWrite_gain h hlo hhi,
    fun n k h ho => liftWrite_coef false h ho, fun n k h ho => liftWrite_coef true h ho⟩
  · exact liftWrite_sliceCtl h (fun _ _ => hc) (actSliceCtl_enable s.env hen (by rwa [storeWord_slice]))
  · exact liftWrite_sliceCtl h (by simp [hen]) (actSliceCtl_disable s.env hen)
  · exact liftWrite_sliceCtl h (fun _ hi => absurd hi hidle)
      (actSliceCtl_mute s.env hen hmute (by rwa [storeWord_slice]) (by rwa [storeWord_slice]))

/-- Settles O20: the rules take the words, and each clause names the branch of its register's effect. -/
theorem poolAndGlazeWrites : Obligations.PoolAndGlazeWrites := by
  intro s src w
  refine ⟨fun h harm hr => ?_, fun h harm hrel hp ht => ?_, fun ul h hr => ?_, fun n h hswap hset hlo hhi => ?_,
    fun n h hswap hset hlo hhi => ?_, fun h hgo hret hr => liftWrite_spare h hgo hret hr,
    fun h hgo hret hr => liftWrite_spare h hgo hret hr⟩
  · exact liftWrite_capture h hr fun _ => actCapture_arm harm
  · exact liftWrite_capture h (ruleCapture_disarmed s.env harm hp ht) fun _ => actCapture_release harm hrel
  · exact liftWrite_slices _ (.inl rfl) rfl h hr rfl
  · exact liftWrite_glaze h hlo hhi fun _ => actGlaze_one s.env hswap hset
  · exact liftWrite_glaze h hlo hhi fun _ => actGlaze_set s.env hswap hset

end Sys2Proof.Machine
end

section
/-! The slices' own events (R135, R136, R141, R157, R159) and the gates before the air (R23, R26, R27). -/
namespace Sys2Proof.Machine

section
variable (d : Dev)

/-! ### Gates -/

/-- A slice behind a closed gate adds zero, whatever its filter puts out. -/
theorem sliceOut_of_routeOpen_false {n : Nat} (y : Cpx) (h : routeOpen d n = false) : sliceOut d n y = (0, 0) := by
  simp [sliceOut, h]

/-- Any of the three gates of a slice output closes its route. -/
theorem routeOpen_false_of_sliceGate {n : Nat}
    (h : (d.slice n).mute = .closed ∨ (d.slice n).suppressed = true ∨ (d.psl n).mutes ≠ []) : routeOpen d n = false := by
  have hg : sliceGates d n = false := by
    rcases h with h | h | h <;> simp [sliceGates, h]
  simp [routeOpen, hg]

/-- Any of these gates of a TX chain closes it. -/
theorem chainGates_false {c : Nat} (h : d.thm.sd = true ∨ dirOpen d (txUl c) = false ∨ calGate d c = false ∨
    lockGate d (c / 4) = false ∨ pairGate d = false) : chainGates d c = false := by
  rcases h with h | h | h | h | h <;> simp [chainGates, h]

theorem cSum_zero {l : List Cpx} (h : ∀ y ∈ l, y = (0, 0)) : cSum l = (0, 0) := by
  obtain ⟨k, rfl⟩ : ∃ k, l = List.replicate k (0, 0) := ⟨l.length, List.eq_replicate_of_mem h⟩
  induction k with
  | zero => rfl
  | succ k ih =>
    have hadd : cAdd (0, 0) (0, 0) = (0, 0) := by simp [cAdd]
    rw [cSum, List.replicate_succ, List.foldl_cons, hadd]
    exact ih fun y hy => List.eq_of_mem_replicate hy

/-- A TX chain behind a closed gate puts out zero: every slice that sinks in it adds zero. -/
theorem chainOut_of_chainGates_false {c : Nat} (ys : List (Nat × Cpx)) (h : chainGates d c = false) : chainOut d c ys = (0, 0) := by
  have hsum : cSum ((sunkIn d c).map fun n => sliceOut d n ((ys.lookup n).getD (0, 0))) = (0, 0) := by
    refine cSum_zero fun y hy => ?_
    obtain ⟨n, hn, rfl⟩ := List.mem_map.mp hy
    have hsink : (effOf d n).sink = c := by simpa using (List.mem_filter.mp hn).2
    exact sliceOut_of_routeOpen_false d _ (by simp [routeOpen, hsink, h])
  simp [chainOut, hsum, cScale]

/-! ### Presence and the slice mute (R135, R136) -/

section
variable {n : Nat} {pw : Rat} (hst : (d.slice n).st = .active)
include hst

theorem presence_silent (hs : presenceSignal d n pw = false) :
    presence n pw d = d.setSlice n { d.slice n with
      pres := false, seen := (d.slice n).seen || false, noSig := (d.slice n).noSig + 1, presAt := coreNow d
      doze := (d.slice n).doze && !false } := by
  simp [presence, hst, hs]

theorem presence_signal (hs : presenceSignal d n pw = true) :
    presence n pw d = muteSignal n (d.setSlice n { d.slice n with
      pres := true, seen := (d.slice n).seen || true, noSig := 0, presAt := coreNow d, doze := (d.slice n).doze && !true }) := by
  simp [presence, hst, hs]

end

/-- The closing ramp of an open mute stands before the full level of the samples already decided. -/
theorem muteRamp_closing_open {n t : Nat} (h : (d.slice n).mute = .open_) :
    muteRamp .closing n t d = d.setSlice n { d.slice n with
      mute := .closing, ramps := [{ at_ := t, from_ := muteLevel d n t, up := false }, { at_ := 0, from_ := 32, up := true }] } := by
  simp [muteRamp, h]

theorem muteHang_open {n : Nat} (hp : (d.slice n).pres = false) (h : (d.slice n).mute = .open_) :
    muteHang n d = muteRamp .closing n (coreNow d) d := by
  simp [muteHang, hp, h]

theorem muteRampDone_opening {n : Nat} (h : (d.slice n).mute = .opening) :
    muteRampDone n d = d.setSlice n { d.slice n with mute := .open_, ramps := [] } := by
  simp only [muteRampDone, h]

theorem muteRampDone_closing {n : Nat} (h : (d.slice n).mute = .closing) :
    muteRampDone n d = d.setSlice n { d.slice n with mute := .closed, ramps := [] } := by
  simp only [muteRampDone, h]

/-! ### Drains, settling and fades (R141, R157, R159) -/

/-- The bank faded to is live, and neither a fade nor a request is left. -/
def fadedOver (n : Nat) (d : Dev) : Dev :=
  d.setSlice n { d.slice n with gz := { (d.slice n).gz with live := !(d.slice n).gz.live, fade := none, pend := none } }

section
variable (e : Env) {n : Nat}

theorem drainDone_idle (hst : (d.slice n).st = .draining) (hs : (d.slice n).forShed = false) : drainDone e n d = toIdle e n d := by
  simp [drainDone, hst, hs]

theorem drainDone_shed (hst : (d.slice n).st = .draining) (hs : (d.slice n).forShed = true) (hen : enabled d n = true) :
    drainDone e n d = toShed n d := by
  simp [drainDone, hst, hs, hen]

/-- A settle count that ends with nothing against it: the slice is ACTIVE, its ramp starts from zero. -/
theorem settleElapsed_active (hst : (d.slice n).st = .settling) (ha : (d.slice n).await = .counting)
    (hset : setOk d (msetOf d n) = true) (hr : rangeOk e d (isUl d n) (d.slice n).eff = true) :
    settleElapsed e n d = loopRestored n (d.setSlice n { d.slice n with
      st := .active, suppressed := false, setWait := false, setCnt := 0, await := .boundary, flushOnly := false
      ramps := [{ at_ := coreNow d, from_ := 0, up := true }]
      mute := if (d.slice n).pres ∧ !d.flag SLC_CTL.FMUTE n then .opening else .closed }) := by
  simp [settleElapsed, hst, ha, hset, hr]

variable {len : Nat} (hf : (d.slice n).gz.fade = some len)
include hf

theorem fadeEnd_last (hp : (d.slice n).gz.pend = none) : fadeEnd e n d = fadedOver n d := by
  simp [fadeEnd, fadedOver, hf, hp]

theorem fadeEnd_next {next : Nat} (hp : (d.slice n).gz.pend = some next) : fadeEnd e n d = fadeStart e n next (fadedOver n d) := by
  simp [fadeEnd, fadedOver, hf, hp]

end
end

/-- Settles O40: the gates close the route, and each event takes the branch of its operation that its hypotheses name. -/
theorem sliceEvents : Obligations.SliceEvents := by
  intro s hrun
  refine ⟨fun n y h => ?_, fun c ys h => ?_, fun n pw ofs hst hs => ?_, fun n pw ofs hst hs => ?_, fun n hp h => ?_, fun n h => ?_,
    fun n h => ?_, fun n hst hs => ?_, fun n hst hs hen => ?_, fun n ofs hst ha hset hr => ?_, fun n len ofs hf hp => ?_,
    fun n len next ofs hf hp => ?_⟩
  · exact sliceOut_of_routeOpen_false s.dev y (routeOpen_false_of_sliceGate s.dev h)
  · exact chainOut_of_chainGates_false s.dev ys (chainGates_false s.dev h)
  · exact lift_eq s (fun _ d => presence n.val pw (d.atOfs ofs)) _ hrun (presence_silent (s.dev.atOfs ofs) hst hs)
  · exact lift_eq s (fun _ d => presence n.val pw (d.atOfs ofs)) _ hrun (presence_signal (s.dev.atOfs ofs) hst hs)
  · exact lift_eq s (fun _ d => muteHang n.val d) _ hrun ((muteHang_open s.dev hp h).trans (muteRamp_closing_open s.dev h))
  · exact lift_eq s (fun _ d => muteRampDone n.val d) _ hrun (muteRampDone_opening s.dev h)
  · exact lift_eq s (fun _ d => muteRampDone n.val d) _ hrun (muteRampDone_closing s.dev h)
  · exact lift_eq s (fun e d => drainDone e n.val d) _ hrun (drainDone_idle s.dev s.env hst hs)
  · exact lift_eq s (fun e d => drainDone e n.val d) _ hrun (drainDone_shed s.dev s.env hst hs hen)
  · exact lift_eq s (fun e d => settleElapsed e n.val (d.atOfs ofs)) _ hrun
      (settleElapsed_active (s.dev.atOfs ofs) s.env hst ha hset hr)
  · exact lift_eq s (fun e d => fadeEnd e n.val (d.atOfs ofs)) _ hrun (fadeEnd_last (s.dev.atOfs ofs) s.env hf hp)
  · exact lift_eq s (fun e d => fadeEnd e n.val (d.atOfs ofs)) _ hrun (fadeEnd_next (s.dev.atOfs ofs) s.env hf hp)

end Sys2Proof.Machine
end

section
/-! Checks of physical slices (R146, R187), captures (R145) and canceller blocks (R171, R263). -/
namespace Sys2Proof.Machine

section
variable (d : Dev)

theorem physCheck_carried (e : Env) (code : Nat) {p n : Nat} (h : carriedBy d p = some n) :
    physCheck code p e d = raiseLive e d code n := by
  simp only [physCheck, h]

theorem capStart_armed (h : d.pool.cap.armed = true) :
    capStart d = { d with pool := { d.pool with cap := { d.pool.cap with armed := false, running := true, samples := [] } } } := by
  simp only [capStart, h, if_true]

theorem capDone_running (l : List Nat) (h : d.pool.cap.running = true) :
    capDone l d = Dev.put { d with pool := { d.pool with cap := { d.pool.cap with
      running := false, done := true, samples := (l.take (1024 * d.pool.cap.blocks)).map (· % 4294967296) } } } POOL_CAP_CFG.ARM 0 0 := by
  simp only [capDone, h, if_true]

end

/-- Settles O41: each clause is the branch of the command's operation that its hypotheses name; a block is its two steps in
their order. -/
theorem checksAndCaptures : Obligations.ChecksAndCaptures := by
  intro s hrun
  refine ⟨fun p n h => ?_, fun p n h => ?_, fun h => ?_, fun l h => ?_, fun n inp refs ofs _ => ?_⟩
  · exact lift_eq s (physCheck Ev.SLICE_CHECK p.val) _ hrun (physCheck_carried s.dev s.env _ h)
  · exact lift_eq s (physCheck Ev.CNL_CHECK p.val) _ hrun (physCheck_carried s.dev s.env _ h)
  · exact lift_eq s (fun _ d => capStart d) _ hrun (capStart_armed s.dev h)
  · exact lift_eq s (fun _ d => capDone l d) _ hrun (capDone_running s.dev l h)
  · exact lift_runs s (fun e d => blockEnd e n.val inp refs (d.atOfs ofs)) hrun

end Sys2Proof.Machine
end

section
/-! Writes of the canceller and probe registers (R168, R170, R172, R180, R186). -/
namespace Sys2Proof.Machine

section
variable {s : State} {b : By} {i j : Nat} {w : Word}

/-- The registers of the engines' blocks are none of those that `ruleOf` sends elsewhere before it comes to them. -/
theorem engines_not_earlier {n : RegName} (hn : n.block = 0x20 ∨ n.block = 0x30 ∨ n.block = 0x38) :
    ¬(n.block ≤ 5 ∨ n = .CAL_CTL) ∧ ¬(n.block = 0x10 ∨ n.block = 0x80) := by
  refine ⟨?_, by omega⟩
  rintro (hle | rfl)
  · omega
  · exact absurd hn (by decide)

/-- An accepted word of a canceller, probe, loop or Stencil register that the register's own rule takes has the
register's effect. -/
theorem liftWrite_engines {n : RegName} (act : Dev → Dev) (hn : n.block = 0x20 ∨ n.block = 0x30 ∨ n.block = 0x38)
    (hf : n.fields.isEmpty = false) (h : Accepts s b n i j w)
    (hr : ruleEngines s.env n { by_ := b, i := i, j := j, w := w } s.dev = .take)
    (ha : actEngines s.env n { by_ := b, i := i, j := j, w := w } (s.dev.reg n i j) (storeWord ⟨n, i, j⟩ w s.dev) =
      act (storeWord ⟨n, i, j⟩ w s.dev)) :
    liftWrite b n i j w s = .next (s.written b n i j w act) := by
  obtain ⟨h0, h1⟩ := engines_not_earlier hn
  exact liftWrite_accepted s b n i j w act hf h ((ruleOf_engines _ _ _ _ h0 h1 hn).trans hr)
    ((actOf_engines _ _ _ _ _ h0 h1 hn).trans ha)

/-- One that its register's own rule refuses closes its batch on what the refusal leaves. -/
theorem liftWrite_engines_refused {n : RegName} {d : Dev} (hn : n.block = 0x20 ∨ n.block = 0x30 ∨ n.block = 0x38)
    (hf : n.fields.isEmpty = false) (h : Accepts s b n i j w)
    (hr : ruleEngines s.env n { by_ := b, i := i, j := j, w := w } s.dev = .refuse d) :
    liftWrite b n i j w s = .next (s.then_ (closeBatch s.env b d)) := by
  obtain ⟨h0, h1⟩ := engines_not_earlier hn
  exact liftWrite_refused s b n i j w d hf h ((ruleOf_engines _ _ _ _ h0 h1 hn).trans hr)

end

section
variable (e : Env) {x : Wr} {d : Dev} {old : Word}

/-! ### CNL_CTL (R172, R180) -/

section
variable (hh : CNL_CTL.HOLD_T.of x.w ≠ 0)
include hh

theorem ruleEngines_cnlCtl_take (hm : fixMargin e ≤ 10 * (CNL_CTL.MARGIN.of x.w : Int)) :
    ruleEngines e .CNL_CTL x d = .take := by
  simp [ruleEngines, refuseAll, hh, Int.not_lt.mpr hm]

/-- A MARGIN below the Fixative minimum discards the word, and its error bit alone is set. -/
theorem ruleEngines_cnlCtl_margin (hm : 10 * (CNL_CTL.MARGIN.of x.w : Int) < fixMargin e) :
    ruleEngines e .CNL_CTL x d = .refuse (d.setBit CNL_ERR.MARGIN x.i) := by
  simp [ruleEngines, refuseAll, forL, hh, hm]

end

theorem actCnlCtl_plain (hc : CNL_CTL.CLR.bit x.w = false) (hf : CNL_CTL.FREEZE.of x.w = CNL_CTL.FREEZE.of old) :
    actCnlCtl x old d = d := by
  simp [actCnlCtl, hc, hf]

theorem actCnlCtl_clear (hc : CNL_CTL.CLR.bit x.w = true) (hf : CNL_CTL.FREEZE.of x.w = CNL_CTL.FREEZE.of old)
    (hs : (d.canc x.i).st ≠ .off) : actCnlCtl x old d = cnlClr x.i d := by
  simp [actCnlCtl, hc, hf, hs]

theorem actCnlCtl_freeze (hc : CNL_CTL.CLR.bit x.w = false) (hf : CNL_CTL.FREEZE.of x.w ≠ CNL_CTL.FREEZE.of old) :
    actCnlCtl x old d = cnlFreeze x.i (CNL_CTL.FREEZE.bit x.w) d := by
  simp [actCnlCtl, hc, hf]

/-! ### CNL_PRB_CTL (R186) -/

theorem ruleEngines_prbCtl_take (hi : CNL_PRB_CTL.INTERVAL.of x.w ≠ 0) : ruleEngines e .CNL_PRB_CTL x d = .take := by
  simp [ruleEngines, orRefuse, hi]

theorem actEngines_prbCtl_start (hs : CNL_PRB_CTL.START.bit x.w = true) (ha : CNL_PRB_CTL.ABORT.bit x.w = false) :
    actEngines e .CNL_PRB_CTL x old d = probeRequest d := by
  simp [actEngines, hs, ha]

theorem actEngines_prbCtl_abort (hs : CNL_PRB_CTL.START.bit x.w = false) (ha : CNL_PRB_CTL.ABORT.bit x.w = true) :
    actEngines e .CNL_PRB_CTL x old d = probeAbort d := by
  simp [actEngines, hs, ha]

end

/-! ### The two control registers -/

section
variable {s : State} {b : By} {w : Word} {act : Dev → Dev}

/-- An accepted CNL_CTL word with HOLD_T and MARGIN in range, whatever it asks for. -/
theorem liftWrite_cnlCtl {n : Nat} (h : Accepts s b .CNL_CTL n 0 w) (hh : CNL_CTL.HOLD_T.of w ≠ 0)
    (hm : fixMargin s.env ≤ 10 * (CNL_CTL.MARGIN.of w : Int))
    (ha : actCnlCtl { by_ := b, i := n, j := 0, w := w } (s.dev.reg .CNL_CTL n 0) (storeWord ⟨.CNL_CTL, n, 0⟩ w s.dev) =
      act (storeWord ⟨.CNL_CTL, n, 0⟩ w s.dev)) :
    liftWrite b .CNL_CTL n 0 w s = .next (s.written b .CNL_CTL n 0 w act) :=
  liftWrite_engines act (.inl rfl) rfl h (ruleEngines_cnlCtl_take (x := { by_ := b, i := n, j := 0, w := w }) s.env hh hm) ha

/-- An accepted CNL_PRB_CTL word with an INTERVAL. -/
theorem liftWrite_prbCtl (h : Accepts s b .CNL_PRB_CTL 0 0 w) (hi : CNL_PRB_CTL.INTERVAL.of w ≠ 0)
    (ha : ∀ old d, actEngines s.env .CNL_PRB_CTL { by_ := b, i := 0, j := 0, w := w } old d = act d) :
    liftWrite b .CNL_PRB_CTL 0 0 w s = .next (s.written b .CNL_PRB_CTL 0 0 w act) :=
  liftWrite_engines act (.inl rfl) rfl h (ruleEngines_prbCtl_take s.env hi) (ha _ _)

end

/-- Settles O21: CNL_CFG and CNL_BULK have one effect; a CNL_CTL word is refused for its MARGIN or takes the branch of CLR and
FREEZE, a CNL_PRB_CTL word that of START and ABORT. -/
theorem cancellerWrites : Obligations.CancellerWrites := by
  intro s src w
  refine ⟨fun n h hr => liftWrite_engines _ (.inl rfl) rfl h hr rfl,
    fun n h => liftWrite_engines _ (.inl rfl) rfl h rfl rfl,
    fun n h hc hf hh hm => liftWrite_cnlCtl h hh hm (actCnlCtl_plain hc hf),
    fun n h hc hf hs hh hm => liftWrite_cnlCtl h hh hm (actCnlCtl_clear hc hf (by rwa [storeWord_canc])),
    fun n h hc hf hh hm => liftWrite_cnlCtl h hh hm (actCnlCtl_freeze hc hf),
    fun h hs ha hi => liftWrite_prbCtl h hi fun _ _ => actEngines_prbCtl_start s.env hs ha,
    fun h hs ha hi => liftWrite_prbCtl h hi fun _ _ => actEngines_prbCtl_abort s.env hs ha,
    fun n h hh hm => liftWrite_engines_refused (.inl rfl) rfl h (ruleEngines_cnlCtl_margin s.env hh hm)⟩

end Sys2Proof.Machine
end

section
/-! Probe runs (R182 to R184, R186), the loop deadline (R214, R498), the hold timeout (R212) and the Stencil's anchor and
relearning (R226, R231). -/
namespace Sys2Proof.Machine

section
variable {d : Dev} (e : Env)

/-! ### Probe runs (R182 to R184, R186) -/

theorem probeAuto_next {k : Nat} (ha : d.flag CNL_PRB_CFG.AUTO = true) (hr : d.prb.run = none)
    (hw : d.get CNL_PRB_CTL.INTERVAL ≤ d.prb.wait)
    (hk : (List.range 192).find? (fun k => (d.slice ((d.prb.next + k) % 192)).st = .active) = some k) :
    probeAuto d = d.modPrb fun p => { p with
      run := some { s := (p.next + k) % 192, dac := false, auto := true }, wait := 0, next := ((p.next + k) % 192 + 1) % 192 } := by
  unfold probeAuto
  rw [if_pos ⟨ha, by simp [hr], hw⟩, hk]
  rfl

section
variable {r : ProbeRun} (hr : d.prb.run = some r) (hs : r.started = true) (hf : d.get CNL_PRB_CFG.DUR < r.frames)
include hr hs hf

theorem probeEnd_few (p px : Int) (dp ei eo : Rat) (hg : 4 * r.good < r.bins) :
    probeEnd e p px dp ei eo d = probeInvalid e r d := by
  simp [probeEnd, hr, hs, hf, hg]

section
variable (hg : r.bins ≤ 4 * r.good) {p px po : Int} (dp ei eo : Rat)
include hg

/-- A valid digital run: the slice's output power less the echo before and after the canceller, at the depth of DEPTH (R182). -/
theorem probeEnd_digital (hm : r.dac = false) (hp : probeOut d r p = some po) :
    probeEnd e p px dp ei eo d = (probeOver r d).modPrb fun x => { x with
      ok := true, iphys := clampI (po - dbm (ei / probeDepth d)) 0 65535, ieff := clampI (po - dbm (eo / probeDepth d)) 0 65535
      cmp := some r.s } := by
  simp [probeEnd, hr, hs, hf, hm, Nat.not_lt.mpr hg, hp]

/-- A valid run in bias DAC mode: what the ORX reads less the echo after the canceller, at the depth at the coupler (R183). -/
theorem probeEnd_dac (hm : r.dac = true) (hp : probeOut d r px = some po) :
    probeEnd e p px dp ei eo d = (probeOver r d).modPrb fun x => { x with
      ok := true, iphys := clampI (po - dbm (eo / dp)) 0 65535, ieff := 0, cmp := some r.s } := by
  simp [probeEnd, hr, hs, hf, hm, Nat.not_lt.mpr hg, hp]

end

end

/-! ### The loop engine (R212, R214, R498) -/

theorem loopDeadline_overrun (hd : d.eng.due = true) (hw : 16 < d.eng.lutWords) (hb : d.eng.bulk = true)
    (hl : loopsRun d = true) :
    loopDeadline e true d = overrun e d := by
  simp [loopDeadline, hd, hw, hb, hl]

theorem loopDeadline_finished (hd : d.eng.due = true) : loopDeadline e false d = computeAll e d := by
  simp [loopDeadline, hd]

theorem holdTimeout_persists {i : Nat} {hi lo : Int} (hm : (d.loop i).mode = .hold) (ht : (d.loop i).timeout = false)
    (hh : d.get LOOP_SUP.HOLD_TO i ≤ (d.loop i).held) (hl : (d.loop i).lims = some (hi, lo)) (hp : (d.loop i).persists = true) :
    holdTimeout e i d = raiseLive e (d.setLoop i { d.loop i with
      timeout := true, glide := glideOutput (d.loop i).out lo true, glideWas := none }) Ev.LOOP_HOLD_TO i := by
  have hdue : ¬((d.loop i).mode ≠ .hold ∨ (d.loop i).timeout = true ∨ (d.loop i).held < d.get LOOP_SUP.HOLD_TO i) := by
    simp [hm, ht, hh]
  unfold holdTimeout
  dsimp only
  rw [if_neg hdue, if_pos hp, hl]

/-! ### The Stencil (R226, R231) -/

theorem anchorHere_even {n : Nat} (hs : (d.stencil n).st = .wait) (hc : d.clk.cyc = 0) (ho : d.clk.ofs = 0)
    (hf : d.clk.frame % 2 = 0) :
    anchorHere n d = d.setStencil n { d.stencil n with
      st := .learning, withdrawn := false, frame := d.clk.frame, pcnt := 0, obs := [] } := by
  simp [anchorHere, stencilAnchor, hs, hc, ho, hf]

theorem relearnEnd_over {n : Nat} (hs : (d.stencil n).st = .relearn) (hc : 64 ≤ (d.stencil n).rlCnt) :
    relearnEnd e n d =
      raiseLive e (d.setStencil n { d.stencil n with st := .learning, withdrawn := false }) Ev.STN_NO_PATTERN n := by
  simp [relearnEnd, relearnTimeout, hs, hc]

end

/-- Settles O42: each clause is the branch of the command's operation that its hypotheses name. -/
theorem probeLoopsStencils : Obligations.ProbeLoopsStencils := by
  intro s hrun
  refine ⟨fun k ha hr hw hk => ?_, fun p px dp ei eo r hr hs hf hg => ?_, fun p px dp ei eo r po hr hs hm hf hg hp => ?_,
    fun p px dp ei eo r po hr hs hm hf hg hp => ?_, fun hd hw hb hl => ?_, fun hd => ?_, fun i hi lo hm ht hh hl hp => ?_,
    fun n hs hc ho hf => ?_, fun n hs hc => ?_⟩
  · exact lift_eq s (fun _ d => probeAuto d) _ hrun (probeAuto_next ha hr hw hk)
  · exact lift_eq s (fun e d => probeEnd e p px dp ei eo d) _ hrun (probeEnd_few s.env hr hs hf p px dp ei eo hg)
  · exact lift_eq s (fun e d => probeEnd e p px dp ei eo d) _ hrun (probeEnd_digital s.env hr hs hf hg dp ei eo hm hp)
  · exact lift_eq s (fun e d => probeEnd e p px dp ei eo d) _ hrun (probeEnd_dac s.env hr hs hf hg dp ei eo hm hp)
  · exact lift_eq s (fun e d => loopDeadline e true d) _ hrun (loopDeadline_overrun s.env hd hw hb hl)
  · exact lift_eq s (fun e d => loopDeadline e false d) _ hrun (loopDeadline_finished s.env hd)
  · exact lift_eq s (fun e d => holdTimeout e i.val d) _ hrun (holdTimeout_persists s.env hm ht hh hl hp)
  · exact lift_eq s (fun _ d => anchorHere n.val d) _ hrun (anchorHere_even hs hc ho hf)
  · exact lift_eq s (fun e d => relearnEnd e n.val d) _ hrun (relearnEnd_over s.env hs hc)

end Sys2Proof.Machine
end

section
/-! Writes of the loop engine and Stencil registers (R206, R207, R208, R215, R221, R225, R231). -/
namespace Sys2Proof.Machine

section
variable (e : Env) {x : Wr} {d : Dev} {old : Word}

/-! ### LOOP_CTL and LOOP_GCTL (R206, R208, R215) -/

theorem ruleEngines_loopCtl_take (hm : loopModeBad d x.i x.w = false) : ruleEngines e .LOOP_CTL x d = .take := by
  simp [ruleEngines, orRefuse, hm]

/-- Once the overruns have ended, no REARM_OVR is discarded. -/
theorem ruleEngines_loopGctl_take (ho : d.eng.ovrRun = 0) : ruleEngines e .LOOP_GCTL x d = .take := by
  simp [ruleEngines, orDrop, ho]

theorem actEngines_loopGctl_rearm (hr : LOOP_GCTL.REARM_OVR.bit x.w = true) :
    actEngines e .LOOP_GCTL x old d = rearmOvr d :=
  if_pos hr

/-! ### STN_CFG (R225) -/

/-- An attachment that passes its checks is taken whole. -/
theorem ruleStnCfg_attach (hen : STN_CFG.EN.bit x.w = true) (hoff : d.flag STN_CFG.EN x.i = false)
    (hok : (stencilAttach e x.i (STN_CFG.SLICE.of x.w) (STN_CFG.NP.of x.w) d).2 = true) : ruleStnCfg e x d = .take := by
  simp [ruleStnCfg, hen, hoff, hok]

/-- A word that clears EN is taken where it leaves SLICE and NP as they are. -/
theorem ruleStnCfg_detach (hen : STN_CFG.EN.bit x.w = false) (hs : x.changes d STN_CFG.SLICE = false)
    (hp : x.changes d STN_CFG.NP = false) : ruleStnCfg e x d = .take := by
  simp [ruleStnCfg, hen, hs, hp]

theorem actEngines_stnCfg_attach (hen : STN_CFG.EN.bit x.w = true) (hoff : STN_CFG.EN.bit old = false) :
    actEngines e .STN_CFG x old d = (stencilAttach e x.i (STN_CFG.SLICE.of x.w) (STN_CFG.NP.of x.w) d).1 := by
  simp [actEngines, hen, hoff]

theorem actEngines_stnCfg_detach (hen : STN_CFG.EN.bit x.w = false) (hon : STN_CFG.EN.bit old = true) :
    actEngines e .STN_CFG x old d = stencilOff e x.i d := by
  simp [actEngines, hen, hon]

/-! ### STN_CTL (R231) -/

theorem ruleEngines_stnCtl_take (hok : stnCtlOk x.w = true) : ruleEngines e .STN_CTL x d = .take := by
  simp [ruleEngines, orRefuse, hok]

theorem actEngines_stnCtl_restart (hr : STN_CTL.RESTART.bit x.w = true) :
    actEngines e .STN_CTL x old d = stencilWait e x.i d :=
  if_pos hr

end

/-- Settles O22: each register's own rule takes the word; LOOP_SP is stored alone, and the others have the branch of their
register's effect that the clause names. -/
theorem loopAndStencilWrites : Obligations.LoopAndStencilWrites := by
  intro s src w
  refine ⟨fun i h hm => ?_, fun h hr ho => ?_, fun t k h => ?_, fun i h => ?_, fun n h hen hoff hok => ?_,
    fun n h hen hon hs hp => ?_, fun n h hr hok => ?_⟩
  · exact liftWrite_engines _ (.inr (.inl rfl)) rfl h (ruleEngines_loopCtl_take s.env hm) rfl
  · exact liftWrite_engines _ (.inr (.inl rfl)) rfl h (ruleEngines_loopGctl_take s.env ho) (actEngines_loopGctl_rearm s.env hr)
  · exact liftWrite_engines _ (.inr (.inl rfl)) rfl h rfl rfl
  · exact liftWrite_engines id (.inr (.inl rfl)) rfl h rfl rfl
  · exact liftWrite_engines _ (.inr (.inr rfl)) rfl h (ruleStnCfg_attach s.env hen hoff hok)
      (actEngines_stnCfg_attach s.env hen hoff)
  · exact liftWrite_engines _ (.inr (.inr rfl)) rfl h (ruleStnCfg_detach s.env hen hs hp) (actEngines_stnCfg_detach s.env hen hon)
  · exact liftWrite_engines _ (.inr (.inr rfl)) rfl h (ruleEngines_stnCtl_take s.env hok) (actEngines_stnCtl_restart s.env hr)

end Sys2Proof.Machine
end

section
/-! The limits of the loops (R202, R203). -/
namespace Sys2Proof.Machine

/-- R203's last sentence: LO is lowered to HI where it would exceed it. -/
theorem ordered_le (hi lo : Int) : (ordered hi lo).2 ≤ (ordered hi lo).1 := min_le_right lo hi

section
variable {e : Env} {d : Dev} {i : Nat}

/-! ### Composite loops -/

theorem compLims_fixative (d : Dev) (i : Nat) (hf : e.fix.isSome = true) :
    compLims e d i = ordered (min (d.int LOOP_LIM.UCEIL i) 0) (max (d.int LOOP_LIM.FLOOR i) (-4000)) := by
  simp [compLims, Option.isSome_iff_ne_none.mp hf]

theorem compLims_no_fixative (d : Dev) (i : Nat) (hf : e.fix = none) : (compLims e d i).1 = (compLims e d i).2 := by
  simp [compLims, hf]

theorem compLims_le (e : Env) (d : Dev) (i : Nat) : (compLims e d i).2 ≤ (compLims e d i).1 := by
  cases hf : e.fix with
  | none => exact (compLims_no_fixative d i hf).ge
  | some _ =>
    rw [compLims_fixative d i (by simp [hf])]
    exact ordered_le _ _

/-! ### The limits by the kind of loop -/

theorem limits_composite (e : Env) (d : Dev) (h1 : 192 ≤ i) (h2 : i < 200) : limits e d i = compLims e d i := by
  rw [limits, if_neg (by omega), if_pos h2]

theorem limits_general (e : Env) (d : Dev) (h : 200 ≤ i) :
    limits e d i = ordered (min (d.int LOOP_LIM.UCEIL i) 4095) (max (d.int LOOP_LIM.FLOOR i) 0) := by
  rw [limits, if_neg (by omega), if_neg (by omega)]

/-- A slice loop has both limits at -30.00 dB, or computes them under the Fixative's maximum gain and orders them. -/
theorem limits_slice (e : Env) (d : Dev) (h : i < 192) :
    limits e d i = (-3000, -3000) ∨ (fixGain e (isUl d i) ≠ none ∧ ∃ hi lo, limits e d i = ordered hi lo) := by
  rw [limits, if_pos h]
  dsimp only
  split
  next hg => exact .inr ⟨by simp [hg], _, _, rfl⟩
  next => exact .inl rfl

theorem limits_slice_no_fixative (d : Dev) (h : i < 192) (hf : e.fix = none) : limits e d i = (-3000, -3000) := by
  rcases limits_slice e d h with hl | ⟨hg, -⟩
  · exact hl
  · exact absurd (by simp [fixGain, hf]) hg

/-- In every kind of loop LO does not exceed HI. -/
theorem limits_le (e : Env) (d : Dev) (i : Nat) : (limits e d i).2 ≤ (limits e d i).1 := by
  rcases lt_or_ge i 192 with h | h
  · rcases limits_slice e d h with hl | ⟨-, hi, lo, hl⟩
    · rw [hl]
    · rw [hl]
      exact ordered_le hi lo
  · rcases lt_or_ge i 200 with h' | h'
    · rw [limits_composite e d h h']
      exact compLims_le e d i
    · rw [limits_general e d h']
      exact ordered_le _ _

end

/-- Settles O43: the limits by the kind of loop, each ordered. -/
theorem loopLimits : Obligations.LoopLimits := by
  intro e d i
  refine ⟨fun h1 h2 hf => ?_, fun h1 h2 hf => ?_, limits_general e d, limits_slice_no_fixative d, limits_le e d i⟩
  · exact (limits_composite e d h1 h2).trans (compLims_fixative d i hf)
  · rw [limits_composite e d h1 h2]
    exact compLims_no_fixative d i hf

end Sys2Proof.Machine
end

section
/-! Writes of the Carve registers (R239, R247, R251, R252). -/
namespace Sys2Proof.Machine

/-! ### The operations' blocks -/

section
variable {s : State} {b : By} {i j ofs : Nat} {w : Word} {n : RegName}

/-- The registers of Carve, Patrol, the fault collector, the recorder and the factory test block are none of those that
`ruleOf` sends elsewhere before it comes to them. -/
theorem ops_not_earlier (hn : n.block = 0x3C ∨ n.block = 0x40 ∨ n.block = 0x48 ∨ n.block = 0x50 ∨ n.block = 0xF0) :
    ¬(n.block ≤ 5 ∨ n = .CAL_CTL) ∧ ¬(n.block = 0x10 ∨ n.block = 0x80) ∧
      ¬(n.block = 0x20 ∨ n.block = 0x30 ∨ n.block = 0x38) := by
  refine ⟨?_, by omega, by omega⟩
  rintro (hle | rfl)
  · omega
  · exact absurd hn (by decide)

section
variable (act : Dev → Dev) (hn : n.block = 0x3C ∨ n.block = 0x40 ∨ n.block = 0x48 ∨ n.block = 0x50 ∨ n.block = 0xF0)
  (hf : n.fields.isEmpty = false)
include hn hf

/-- An accepted word of such a register that the register's own rule takes has the register's effect. -/
theorem liftWrite_ops (h : Accepts s b n i j w)
    (hr : ruleOps s.env n { by_ := b, i := i, j := j, w := w } s.dev = .take)
    (ha : ∀ old d, actOps s.env n { by_ := b, i := i, j := j, w := w } old d = act d) :
    liftWrite b n i j w s = .next (s.written b n i j w act) := by
  obtain ⟨h0, h1, h2⟩ := ops_not_earlier hn
  exact liftWrite_accepted s b n i j w act hf h ((ruleOf_ops _ _ _ _ h0 h1 h2 hn).trans hr)
    ((actOf_ops _ _ _ _ _ h0 h1 h2 hn).trans (ha _ _))

/-- So does one that is written inside a period. -/
theorem liftWrite_ops_at (h : Accepts { s with dev := s.dev.atOfs ofs } b n 0 0 w)
    (hr : ruleOps s.env n { by_ := b, i := 0, j := 0, w := w } (s.dev.atOfs ofs) = .take)
    (ha : ∀ old d, actOps s.env n { by_ := b, i := 0, j := 0, w := w } old d = act d) :
    lift (fun e d => hostWrite e b (n.addr 0 0) w (d.atOfs ofs)) s =
      .next (State.written { s with dev := s.dev.atOfs ofs } b n 0 0 w act) := by
  obtain ⟨h0, h1, h2⟩ := ops_not_earlier hn
  exact liftWrite_accepted_at s b n w ofs act hf h ((ruleOf_ops _ _ _ _ h0 h1 h2 hn).trans hr)
    ((actOf_ops _ _ _ _ _ h0 h1 h2 hn).trans (ha _ _))

end

/-! ### CRV_CTL (R251) -/

/-- An accepted CRV_CTL word with HORIZON in range and FLUSH = 1 or EN = 0 unwinds every epoch. -/
theorem liftWrite_crvCtl_unwinds (h : Accepts s b .CRV_CTL 0 0 w) (hlo : 4 ≤ CRV_CTL.HORIZON.of w)
    (hhi : CRV_CTL.HORIZON.of w ≤ 640) (hu : CRV_CTL.FLUSH.bit w = true ∨ CRV_CTL.EN.bit w = false) :
    liftWrite b .CRV_CTL 0 0 w s = .next (s.written b .CRV_CTL 0 0 w (unwindWhere fun _ => true)) := by
  have hr : ruleOps s.env .CRV_CTL { by_ := b, i := 0, j := 0, w := w } s.dev = .take := by
    simp [ruleOps, orRefuse, Nat.not_lt.mpr hlo, Nat.not_lt.mpr hhi]
  exact liftWrite_ops _ (.inl rfl) rfl h hr fun _ _ => if_pos (by simpa using hu)

end

/-! ### CRV_TPL_CFG (R247) and CRV_DIR_GO (R252) -/

section
variable (e : Env) {x : Wr} (d : Dev)

theorem ruleTemplate_off (hen : CRV_TPL_CFG.EN.bit x.w = false) : ruleTemplate x d = .take := by
  simp [ruleTemplate, hen]

/-- The enable's TABLE record covers the action words from the template's first A to its last C. -/
theorem actTemplate_on (hen : CRV_TPL_CFG.EN.bit x.w = true) :
    actTemplate e x d = journalTable e x.by_ (RegName.CRV_ACT_A.addr (CRV_TPL_CFG.FIRST.of x.w) 0)
      (RegName.CRV_ACT_C.addr (CRV_TPL_CFG.FIRST.of x.w + CRV_TPL_CFG.NACT.of x.w) 0 + 3) (crcWords (templateWords d x.i)) false d :=
  if_pos hen

theorem actTemplate_off (hen : CRV_TPL_CFG.EN.bit x.w = false) : actTemplate e x d = setTplRun e x.i 0 d := by
  simp [actTemplate, hen]

theorem actOps_dirGo (old : Word) (hgo : CRV_DIR_GO.GO.bit x.w = true) :
    actOps e .CRV_DIR_GO x old d = (openEpoch e (directEpoch d) d).1 :=
  if_pos hgo

end

/-- Settles O23: each register's own rule takes the word, and its effect is the branch that FLUSH, EN or GO names. -/
theorem carveWrites : Obligations.CarveWrites := by
  intro s src w
  refine ⟨fun h hfl hlo hhi => ?_, fun h hen hlo hhi => ?_, fun m h hen hr => ?_, fun m h hen => ?_, fun ofs h hgo hr => ?_⟩
  · exact liftWrite_crvCtl_unwinds h hlo hhi (.inl hfl)
  · exact liftWrite_crvCtl_unwinds h hlo hhi (.inr hen)
  · exact liftWrite_ops _ (.inl rfl) rfl h hr fun _ d => actTemplate_on s.env d hen
  · exact liftWrite_ops _ (.inl rfl) rfl h (ruleTemplate_off s.dev hen) fun _ d => actTemplate_off s.env d hen
  · exact liftWrite_ops_at _ (.inl rfl) rfl h hr fun old d => actOps_dirGo s.env d old hgo

end Sys2Proof.Machine
end

section
/-! Instances, confirmations, windows and checks of Carve (R242 to R246, R254). -/
namespace Sys2Proof.Machine

section
variable (e : Env) {d : Dev} {n : Nat} {x : Epoch}

/-! ### Outside events (R243, R251) -/

theorem epochReport_outside (d : Dev) (n k : Nat) : epochReport e n k true d = d := rfl

/-- An outside event of the same core cycle silences a window's close: no report confirms first, and no epoch is judged. -/
theorem windowCloses_outside (d : Dev) (n : Nat) : windowCloses e n true d = d := by
  cases h : epochNum d n <;> simp [windowCloses, h]

/-! ### Confirmation (R245) -/

/-- A report confirms no epoch that is confirmed already. -/
theorem reportConfirms_confirmed (k : Nat) (hc : x.confirmed = true) : reportConfirms d x k = false := by
  simp [reportConfirms, hc]

section
variable (hx : epochNum d n = some x)
include hx

theorem epochReport_confirms {k : Nat} (hr : reportConfirms d x k = true) (hw : 0 ≤ ftAhead (ftNow d) x.wClose) :
    epochReport e n k false d = confirm e x.ord d := by
  simp [epochReport, hx, hr, hw]

/-! ### Windows (R242, R246) -/

theorem windowOpens_due (ho : x.windowOpen = false) (hs : x.windowShut = false) (hw : ftAhead (ftNow d) x.wOpen ≤ 0) :
    windowOpens e n d = contradictLost e (setEpoch x.ord (fun y => { y with windowOpen := true }) d) := by
  simp [windowOpens, hx, ho, hs, Int.not_lt.mpr hw]

end

/-- A report that confirms the epoch stands at the very cycle at which its window closes: it counts before the close (R243). -/
def LastReport (d : Dev) (x : Epoch) : Prop :=
  (confirmers d x).any (reportConfirms d x) = true ∧ ftAhead (ftNow d) x.wClose = 0

theorem not_lastReport (h : (confirmers d x).any (reportConfirms d x) = false ∨ ftAhead (ftNow d) x.wClose ≠ 0) :
    ¬LastReport d x := by
  rintro ⟨hany, hz⟩
  rcases h with hnone | hne
  · simp [hnone] at hany
  · exact hne hz

theorem not_lastReport_of_confirmed (hc : x.confirmed = true) : ¬LastReport d x :=
  not_lastReport (.inl (by simp [reportConfirms_confirmed _ hc]))

/-- What a window's close makes of its epoch (R242, R246): a confirmed one has its window shut and may retire, any other is
contradicted. -/
def closeEpoch (e : Env) (x : Epoch) (d : Dev) : Dev :=
  if x.confirmed then retireIf x.ord (setEpoch x.ord (fun y => { y with windowOpen := false, windowShut := true }) d)
  else contradict e x.ord d

theorem closeEpoch_confirmed (d : Dev) (hc : x.confirmed = true) :
    closeEpoch e x d = retireIf x.ord (setEpoch x.ord (fun y => { y with windowOpen := false, windowShut := true }) d) :=
  if_pos hc

theorem closeEpoch_unconfirmed (d : Dev) (hc : x.confirmed = false) : closeEpoch e x d = contradict e x.ord d := by
  simp [closeEpoch, hc]

section
variable (hx : epochNum d n = some x)
include hx

/-- With no last report the close judges the epoch as it stands. -/
theorem windowCloses_judges (hl : ¬LastReport d x) (hs : x.windowShut = false) (hw : ftAhead (ftNow d) x.wClose ≤ 0) :
    windowCloses e n false d = closeEpoch e x d := by
  unfold LastReport at hl
  simp [windowCloses, closeEpoch, hx, hl, hs, Int.not_lt.mpr hw, -List.any_eq_true]

/-- A last report confirms the epoch first, and the close judges what the confirmation leaves under that number. -/
theorem windowCloses_confirms_first {y : Epoch} (hl : LastReport d x) (hy : epochNum (confirm e x.ord d) n = some y)
    (hs : y.windowShut = false) (hw : ftAhead (ftNow (confirm e x.ord d)) y.wClose ≤ 0) :
    windowCloses e n false d = closeEpoch e y (confirm e x.ord d) := by
  obtain ⟨hany, hz⟩ := hl
  simp [windowCloses, closeEpoch, hx, hany, hz, hy, hs, Int.not_lt.mpr hw]

end

end

/-- Settles O44: each clause is the branch of the command's operation that its hypotheses name; a close with a last report is
the close after the confirmation. -/
theorem carveEvents : Obligations.CarveEvents := by
  intro s hrun
  refine ⟨fun m ofs t _ _ => ?_, fun ofs _ => ?_, fun n k ofs x hx hr hw => ?_, fun n k ofs => ?_, fun n ofs => ?_,
    fun n ofs x hx ho hs hw => ?_, fun n ofs x hx hs hc hw hl => ?_, fun n ofs x y hx hany hz hy hs hc hw => ?_,
    fun n ofs x hx hs hc hw => ?_, ?_, ?_⟩
  · exact lift_runs s (fun e d => instantiate e m.val (d.atOfs ofs)) hrun
  · exact lift_runs s (fun _ d => runAllDue (d.atOfs ofs)) hrun
  · exact lift_eq s (fun e d => epochReport e n.val k.val false (d.atOfs ofs)) _ hrun (epochReport_confirms s.env hx hr hw)
  · exact lift_eq s (fun e d => epochReport e n.val k.val true (d.atOfs ofs)) _ hrun
      (epochReport_outside s.env (s.dev.atOfs ofs) n.val k.val)
  · exact lift_eq s (fun e d => windowCloses e n.val true (d.atOfs ofs)) _ hrun
      (windowCloses_outside s.env (s.dev.atOfs ofs) n.val)
  · exact lift_eq s (fun e d => windowOpens e n.val (d.atOfs ofs)) _ hrun (windowOpens_due s.env hx ho hs hw)
  · exact lift_eq s (fun e d => windowCloses e n.val false (d.atOfs ofs)) _ hrun
      ((windowCloses_judges s.env hx (not_lastReport hl) hs hw).trans (closeEpoch_unconfirmed s.env _ hc))
  · exact lift_eq s (fun e d => windowCloses e n.val false (d.atOfs ofs)) _ hrun
      ((windowCloses_confirms_first s.env hx ⟨hany, hz⟩ hy hs hw).trans (closeEpoch_confirmed s.env _ hc))
  · exact lift_eq s (fun e d => windowCloses e n.val false (d.atOfs ofs)) _ hrun
      ((windowCloses_judges s.env hx (not_lastReport_of_confirmed hc) hs hw).trans (closeEpoch_confirmed s.env _ hc))
  · exact lift_runs s (fun e d => carveCheck e true d) hrun
  · exact lift_runs s (fun e d => carveCheck e false d) hrun

end Sys2Proof.Machine
end

section
/-! Writes of the Patrol registers (R257, R262, R273, R275). -/
namespace Sys2Proof.Machine

section
variable (e : Env)

/-! ### Configuration (R257) -/

/-- The four configuration registers share one rule: a word that is no good is discarded, with no error bit. -/
theorem ruleOps_ptlCfg (r : PtlCfg) (x : Wr) (d : Dev) :
    ruleOps e (ptlRegOf r) x d = orDrop (!ptlCfgOk e (ptlRegOf r) x.w) d .take := by
  cases r <;> rfl

/-- Beyond being stored, a configuration word does nothing. -/
theorem actOps_ptlCfg (r : PtlCfg) (x : Wr) (old : Word) (d : Dev) : actOps e (ptlRegOf r) x old d = d := by
  cases r <;> rfl

theorem ptlRegOf_block (r : PtlCfg) : (ptlRegOf r).block = 0x40 := by cases r <;> rfl

theorem ptlRegOf_fields (r : PtlCfg) : (ptlRegOf r).fields.isEmpty = false := by cases r <;> rfl

/-! ### PTL_CTL (R262, R273) -/

section
variable {x : Wr} (d : Dev)

theorem actPatrol_stop (hst : PTL_CTL.STOP.bit x.w = true) (hsr : PTL_CTL.SREL.bit x.w = false) :
    actPatrol e x d = stopFor e .local_ d := by
  simp [actPatrol, hst, hsr]

theorem actPatrol_srel (hst : PTL_CTL.STOP.bit x.w = false) (hsr : PTL_CTL.SREL.bit x.w = true) (hsl : PTL_CTL.SLICE.of x.w ≤ 191) :
    actPatrol e x d = patrolSrel (PTL_CTL.SLICE.of x.w) d := by
  simp [actPatrol, hst, hsr, hsl]

/-! ### PTL_REL (R273, R275) -/

theorem actRelease_stop (hst : PTL_REL.REL_STOP.bit x.w = true) (hdl : PTL_REL.REL_DL.bit x.w = false)
    (hul : PTL_REL.REL_UL.bit x.w = false) : actRelease x d = stopMet (relStopMeets d x.by_.origin) d := by
  simp [actRelease, hst, hdl, hul]

theorem actRelease_dl (hst : PTL_REL.REL_STOP.bit x.w = false) (hdl : PTL_REL.REL_DL.bit x.w = true)
    (hul : PTL_REL.REL_UL.bit x.w = false) : actRelease x d = patrolRelDir false d := by
  simp [actRelease, hst, hdl, hul]

theorem actRelease_ul (hst : PTL_REL.REL_STOP.bit x.w = false) (hdl : PTL_REL.REL_DL.bit x.w = false)
    (hul : PTL_REL.REL_UL.bit x.w = true) : actRelease x d = patrolRelDir true d := by
  simp [actRelease, hst, hdl, hul]

end

end

section
variable {s : State} {b : By} {w : Word}

theorem liftWrite_ptlCfg_good (r : PtlCfg) (h : Accepts s b (ptlRegOf r) 0 0 w) (hok : ptlCfgOk s.env (ptlRegOf r) w = true) :
    liftWrite b (ptlRegOf r) 0 0 w s = .next (s.written b (ptlRegOf r) 0 0 w id) :=
  liftWrite_ops id (.inr (.inl (ptlRegOf_block r))) (ptlRegOf_fields r) h
    (by rw [ruleOps_ptlCfg, hok]; rfl) fun old d => actOps_ptlCfg s.env r _ old d

theorem liftWrite_ptlCfg_bad (r : PtlCfg) (h : Accepts s b (ptlRegOf r) 0 0 w) (hok : ptlCfgOk s.env (ptlRegOf r) w = false) :
    liftWrite b (ptlRegOf r) 0 0 w s = .next (s.then_ (closeBatch s.env b s.dev)) := by
  have hblock : (ptlRegOf r).block = 0x3C ∨ (ptlRegOf r).block = 0x40 ∨ (ptlRegOf r).block = 0x48 ∨ (ptlRegOf r).block = 0x50 ∨
      (ptlRegOf r).block = 0xF0 := .inr (.inl (ptlRegOf_block r))
  obtain ⟨h0, h1, h2⟩ := ops_not_earlier hblock
  refine liftWrite_refused s b _ 0 0 w s.dev (ptlRegOf_fields r) h ((ruleOf_ops _ _ _ _ h0 h1 h2 hblock).trans ?_)
  rw [ruleOps_ptlCfg, hok]
  rfl

theorem liftWrite_ptlCtl {act : Dev → Dev} (h : Accepts s b .PTL_CTL 0 0 w)
    (ha : ∀ d, actPatrol s.env { by_ := b, i := 0, j := 0, w := w } d = act d) :
    liftWrite b .PTL_CTL 0 0 w s = .next (s.written b .PTL_CTL 0 0 w act) :=
  liftWrite_ops act (.inr (.inl rfl)) rfl h rfl fun _ d => ha d

/-- No role is without the right to a PTL_REL word (R403). -/
theorem writeAuth_ptlRel {src : Src} {role : Role} {act : Dev → Dev} (h : Accepts s (src.auth role) .PTL_REL 0 0 w)
    (ha : ∀ d, actRelease { by_ := src.auth role, i := 0, j := 0, w := w } d = act d) :
    writeAuth src role .PTL_REL w s = .next (s.written (src.auth role) .PTL_REL 0 0 w act) := by
  rw [writeAuth_right s src role .PTL_REL w rfl]
  exact liftWrite_ops act (.inr (.inl rfl)) rfl h rfl fun _ d => ha d

end

/-- Settles O24: the four configuration registers share one rule, and each action word's effect is the branch that its bits
name. -/
theorem patrolWrites : Obligations.PatrolWrites := by
  intro s src w
  refine ⟨fun r h hok => ?_, fun r h hok => ?_, fun h hst hsr => ?_, fun h hst hsr hsl => ?_, fun role h hst hdl hul => ?_,
    fun role h hst hdl hul => ?_, fun role h hst hdl hul => ?_⟩
  · exact liftWrite_ptlCfg_good r h hok
  · exact liftWrite_ptlCfg_bad r h hok
  · exact liftWrite_ptlCtl h fun d => actPatrol_stop s.env d hst hsr
  · exact liftWrite_ptlCtl h fun d => actPatrol_srel s.env d hst hsr hsl
  · exact writeAuth_ptlRel h fun d => actRelease_stop d hst hdl hul
  · exact writeAuth_ptlRel h fun d => actRelease_dl d hst hdl hul
  · exact writeAuth_ptlRel h fun d => actRelease_ul d hst hdl hul

end Sys2Proof.Machine
end

section
/-! Patrol's own events: trims, donor loss, sweeps and the pin (R264, R269, R272, R273), and the ends of a STOP and of its release
(R274, R275). -/
namespace Sys2Proof.Machine

section
variable (e : Env) {d : Dev}

/-! ### Trims and donor loss (R264, R272) -/

theorem oscRelease_due {n : Nat} (ht : trimmedBy d n .osc = true) (ho : (d.psl n).onset = none)
    (hf : d.get PTL_TIME.OSC_REL ≤ (d.psl n).oscFrames) : oscRelease n d = dropTrim n .osc d :=
  if_pos ⟨ht, by simp [ho], hf⟩

theorem dlossTimeout_due (ht : d.get PTL_TIME.DLOSS_T ≠ 0) (ha : 80 * d.get PTL_TIME.DLOSS_T ≤ d.ptl.absent) :
    dlossTimeout e d = muteDir e true .dloss d :=
  if_pos ⟨ht, ha⟩

/-! ### Sweep segments (R269) -/

/-- The segment's tap is the first eligible one from the tap whose turn it is. -/
theorem sweepStart_taps {k : Nat} (hs : d.ptl.seg = none) (hage : d.get PTL_SWEEP.SWP_INT ≤ d.ptl.swpAge) (ho : d.orx.owner ≠ .cal)
    (hk : (List.range 8).find? (fun k => tapEligible d ((d.ptl.nextTap + k) % 8)) = some k)
    (hm : (orxTake .sweep ((d.ptl.nextTap + k) % 8) d).2 = true) :
    sweepStart e d = (orxTake .sweep ((d.ptl.nextTap + k) % 8) d).1.modPtl fun p =>
      { p with seg := some ((d.ptl.nextTap + k) % 8), segBad := false, nextTap := (d.ptl.nextTap + k) % 8, swpAge := 0 } := by
  simp [sweepStart, hs, Nat.not_lt.mpr hage, ho, hk, hm]

section
variable (bins : List Int) (total : Int) {c : Nat} (hs : d.ptl.seg = some c)
include hs

theorem sweepEnd_spoilt (hb : d.ptl.segBad = true) :
    sweepEnd e bins total d = orxGive .sweep ((sweepRest d).modPtl fun p => { p with seg := none, segBad := false }) := by
  simp [sweepEnd, hs, hb]

theorem sweepEnd_judged {f : Fix} (hb : d.ptl.segBad = false) (hf : e.fix = some f) :
    sweepEnd e bins total d = sweepJudge e f c bins total (sweepOver c d) := by
  simp [sweepEnd, hs, hb, hf]

theorem sweepEnd_unjudged (hb : d.ptl.segBad = false) (hf : e.fix = none) : sweepEnd e bins total d = sweepOver c d := by
  simp [sweepEnd, hs, hb, hf]

end

section
variable {f : Fix} {c : Nat} {bins : List Int} (total : Int)

/-- The second segment in a row with emission. -/
theorem sweepJudge_again (hh : sweepHot f d c bins = true) (hem : 1 ≤ (d.pch c).emis) :
    sweepJudge e f c bins total d = segPower e f c (sweepOut d c total (sweepLo d c))
      (muteDir e (txUl c) .emis (d.setPch c { d.pch c with emis := 2 })) := by
  have htwo : 2 ≤ (d.pch c).emis + 1 := by omega
  simp [sweepJudge, hh, htwo]

/-- The first one only counts. -/
theorem sweepJudge_first (hh : sweepHot f d c bins = true) (hem : (d.pch c).emis = 0) :
    sweepJudge e f c bins total d = segPower e f c (sweepOut d c total (sweepLo d c)) (d.setPch c { d.pch c with emis := 1 }) := by
  simp [sweepJudge, hh, hem]

theorem sweepJudge_clean (hh : sweepHot f d c bins = false) :
    sweepJudge e f c bins total d = segPower e f c (sweepOut d c total (sweepLo d c)) (d.setPch c { d.pch c with emis := 0 }) := by
  simp [sweepJudge, hh]

end

/-! ### The pin and the ends of a STOP (R273 to R275) -/

theorem stopPinHigh_autorel (h : d.flag PTL_CFG.NS_AUTOREL = true) :
    stopPinHigh d = stopMet (fun c => c = .pin) (d.modPtl fun p => { p with pinLow := false }) :=
  if_pos h

theorem stopPinHigh_held (h : d.flag PTL_CFG.NS_AUTOREL = false) : stopPinHigh d = d.modPtl fun p => { p with pinLow := false } := by
  simp [stopPinHigh, h]

theorem stopReached_done (hp : d.ptl.phase = .stopping) (hd : stopDone d = true) (hr : d.ptl.relPend = false) :
    stopReached d = d.modPtl fun p => { p with phase := .stopped } := by
  simp [stopReached, hp, hd, hr]

theorem stopReleased_done (hp : d.ptl.phase = .releasing)
    (hc : ((List.range 48).all fun c => !((d.chan c).st = .drive && slewing d c)) = true) :
    stopReleased d = clearLive (d.modPtl fun p => { p with phase := .none_ }) Ev.PTL_STOP 0xFF :=
  if_pos ⟨hp, hc⟩

end

/-- Settles O45: each clause is the branch of the event's operation that its hypotheses name. -/
theorem patrolEvents : Obligations.PatrolEvents := by
  intro s hrun
  refine ⟨fun n ht ho hf => ?_, fun ht ha => ?_, fun k hs hage ho hk hm => ?_, fun bins total ofs c hs hb => ?_,
    fun bins total ofs c f hs hb hf => ?_, fun bins total ofs c hs hb hf => ?_, fun f c bins total d => sweepJudge_again s.env total,
    fun f c bins total d => sweepJudge_first s.env total, fun f c bins total d => sweepJudge_clean s.env total,
    lift_runs s stopPinLow hrun, fun h => ?_, fun h => ?_, fun hp hd hr => ?_, fun hp hc => ?_⟩
  · exact lift_eq s (fun _ d => oscRelease n.val d) _ hrun (oscRelease_due ht ho hf)
  · exact lift_eq s dlossTimeout _ hrun (dlossTimeout_due s.env ht ha)
  · exact lift_eq s sweepStart _ hrun (sweepStart_taps s.env hs hage ho hk hm)
  · exact lift_eq s (fun e d => sweepEnd e bins total (d.atOfs ofs)) _ hrun (sweepEnd_spoilt s.env bins total hs hb)
  · exact lift_eq s (fun e d => sweepEnd e bins total (d.atOfs ofs)) _ hrun
      (sweepEnd_judged s.env (d := s.dev.atOfs ofs) bins total hs hb hf)
  · exact lift_eq s (fun e d => sweepEnd e bins total (d.atOfs ofs)) _ hrun (sweepEnd_unjudged s.env bins total hs hb hf)
  · exact lift_eq s (fun _ d => stopPinHigh d) _ hrun (stopPinHigh_autorel h)
  · exact lift_eq s (fun _ d => stopPinHigh d) _ hrun (stopPinHigh_held h)
  · exact lift_eq s (fun _ d => stopReached d) _ hrun (stopReached_done hp hd hr)
  · exact lift_eq s (fun _ d => stopReleased d) _ hrun (stopReleased_done hp hc)

end Sys2Proof.Machine
end

section
/-! The third mute of a direction within 60 s (R270): whatever the phase of a STOP, one is in progress afterwards. -/
namespace Sys2Proof.Machine

section
variable (e : Env) (d : Dev)

/-! ### A STOP in progress (R274, R275) -/

theorem stopPark_phase : (stopPark d).ptl.phase = d.ptl.phase := by
  unfold stopPark
  split
  · dsimp only; split
    · rw [bdacCauseAll_ptl]; rfl
    · rfl
  · rfl

theorem stopSteps_phase : (stopSteps d).ptl.phase = d.ptl.phase := by
  rw [stopSteps_eq, stopPark_phase, groupDown_ptl, groupDown_ptl, unwindWhere_ptl, holdPins_ptl]
  rfl

/-- A cause starts a STOP where none stands, and leaves one that stands in progress. -/
theorem stopFor_inProgress (c : SCause) : (stopFor e c d).ptl.phase ≠ .none_ := by
  unfold stopFor
  dsimp only
  split_ifs with hp
  · rw [stopSteps_phase, raiseAgain_ptl]; exact nofun
  · exact fun hn => hp (.inl hn)
  · rw [raiseAgain_ptl]; exact fun hn => hp (.inl hn)

/-! ### The mutes of the last 60 s (R270) -/

theorem recorded_raiseAgain (code inst : Nat) : Recorded d (raiseAgain e d code inst) :=
  recorded_ite (recorded_recordEvent e d _ _ _) (recorded_raiseLive e d _ _ _)

theorem raiseAgain_clk (code inst : Nat) : (raiseAgain e d code inst).clk = d.clk := by
  rw [(recorded_raiseAgain e d code inst).1]

/-- The instants of the EMIS and CPWR mutes of a direction that Patrol keeps. -/
def recentMutes (ul : Bool) (d : Dev) : List Nat := if ul then d.ptl.recentUl else d.ptl.recentDl

/-- The mute that stands at the present instant makes three with two of the last 480,000 periods: it ends in a STOP. -/
theorem muteDir_third {ul : Bool} {c : DCause} (hc : c = .emis ∨ c = .cpwr) (hn : c ∉ dirCauses d ul)
    (h : 2 ≤ ((recentMutes ul d).filter fun t => decide (d.clk.periods ≤ t + 480000)).length) :
    ∃ t, muteDir e ul c d = stopFor e .esc t := by
  unfold muteDir
  rw [if_neg hn]
  dsimp only
  rw [if_pos hc]
  refine ⟨_, if_pos ?_⟩
  rw [List.length_append, List.length_singleton, raiseAgain_clk, raiseAgain_ptl]
  exact Nat.succ_le_succ h

end

/-- Settles O46: the third mute ends in a STOP with cause ESC, which keeps its cause and is in progress. -/
theorem thirdMuteStops : Obligations.ThirdMuteStops := by
  intro e ul c d hc hn h
  obtain ⟨t, ht⟩ := muteDir_third e d hc hn h
  rw [ht]
  exact ⟨stopFor_cause t e .esc, stopFor_inProgress e t .esc⟩

end Sys2Proof.Machine
end

section
/-! Writes of the fault collector and of the factory test block (R283, R286, R295, R297). -/
namespace Sys2Proof.Machine

/-! ### The registers' own rules and effects -/

section
variable (e : Env) {x : Wr} (d : Dev)

section
variable (hc : FLT_CLAIM.CLAIM.bit x.w = true)
include hc

/-- A claim is taken where the attempt on its entry is accepted. -/
theorem ruleOps_claim (ht : (claimTry (FLT_CLAIM.IDX.of x.w) d).2 = true) : ruleOps e .FLT_CLAIM x d = .take := by
  simp [ruleOps, hc, ht]

theorem actOps_claim (old : Word) : actOps e .FLT_CLAIM x old d = (claimTry (FLT_CLAIM.IDX.of x.w) d).1 := if_pos hc

end

section
variable (hack : FLT_ACK.ACK.bit x.w = true) (hall : FLT_ACK.ALL.bit x.w = false)
include hack hall

theorem ruleOps_ackOne (ht : (ackTry false (FLT_ACK.IDX.of x.w) d).2 = true) : ruleOps e .FLT_ACK x d = .take := by
  simp [ruleOps, hack, hall, ht]

theorem actOps_ackOne (old : Word) : actOps e .FLT_ACK x old d = (ackTry false (FLT_ACK.IDX.of x.w) d).1 := by
  simp [actOps, hack, hall]

end

section
variable (hack : FLT_ACK.ACK.bit x.w = false)
include hack

/-- Without ACK no word of FLT_ACK is refused. -/
theorem ruleOps_ackAll : ruleOps e .FLT_ACK x d = .take := by
  simp [ruleOps, hack]

theorem actOps_ackAll (hall : FLT_ACK.ALL.bit x.w = true) (old : Word) : actOps e .FLT_ACK x old d = ackAll d := by
  simp [actOps, hack, hall]

end

section
variable (hack : FLT_ACKA.ACK.bit x.w = true)
include hack

theorem ruleOps_ackAuth (hrole : x.by_.role.isSome = true) (ht : (ackTry true (FLT_ACKA.IDX.of x.w) d).2 = true) :
    ruleOps e .FLT_ACKA x d = .take := by
  simp [ruleOps, hack, hrole, ht]

theorem actOps_ackAuth (old : Word) : actOps e .FLT_ACKA x old d = (ackTry true (FLT_ACKA.IDX.of x.w) d).1 := if_pos hack

end

/-- FLT_HB is the firmware's alone. -/
theorem ruleOps_heartbeat (ho : x.by_.origin = .firmware) : ruleOps e .FLT_HB x d = .take := by
  simp [ruleOps, orDrop, ho]

theorem ruleOps_inject (hm : TST_FINJ.MODE.of x.w ≠ 3) (hi : Ev.isIdentity (TST_FINJ.CODE.of x.w) = true) :
    ruleOps e .TST_FINJ x d = .take := by
  simp [ruleOps, orDrop, hm, hi]

theorem actOps_inject (hgo : TST_FINJ.GO.bit x.w = true) (old : Word) : actOps e .TST_FINJ x old d = inject e x.w d := if_pos hgo

/-! ### The modes of an injection (R297) -/

theorem inject_event {w : Word} (hm : TST_FINJ.MODE.of w = 0) :
    inject e w d = occur e d (TST_FINJ.CODE.of w) (TST_FINJ.INST.of w) { by_ := { origin := .factory }, inj := true } := by
  simp [inject, hm, faultBy]

theorem inject_clear {w : Word} (hm : TST_FINJ.MODE.of w = 2) :
    inject e w d = dropLive d (TST_FINJ.CODE.of w) (TST_FINJ.INST.of w) := by
  simp [inject, hm]

end

/-! ### Accepted words -/

section
variable {s : State} {b : By} {w : Word}

theorem liftWrite_claim (h : Accepts s b .FLT_CLAIM 0 0 w) (hc : FLT_CLAIM.CLAIM.bit w = true)
    (ht : (claimTry (FLT_CLAIM.IDX.of w) s.dev).2 = true) :
    liftWrite b .FLT_CLAIM 0 0 w s = .next (s.written b .FLT_CLAIM 0 0 w fun d => (claimTry (FLT_CLAIM.IDX.of w) d).1) :=
  liftWrite_ops _ (.inr (.inr (.inl rfl))) rfl h (ruleOps_claim s.env s.dev hc ht) fun old d => actOps_claim s.env d hc old

theorem liftWrite_ackOne (h : Accepts s b .FLT_ACK 0 0 w) (hack : FLT_ACK.ACK.bit w = true) (hall : FLT_ACK.ALL.bit w = false)
    (ht : (ackTry false (FLT_ACK.IDX.of w) s.dev).2 = true) :
    liftWrite b .FLT_ACK 0 0 w s = .next (s.written b .FLT_ACK 0 0 w fun d => (ackTry false (FLT_ACK.IDX.of w) d).1) :=
  liftWrite_ops _ (.inr (.inr (.inl rfl))) rfl h (ruleOps_ackOne s.env s.dev hack hall ht)
    fun old d => actOps_ackOne s.env d hack hall old

theorem liftWrite_ackAll (h : Accepts s b .FLT_ACK 0 0 w) (hack : FLT_ACK.ACK.bit w = false) (hall : FLT_ACK.ALL.bit w = true) :
    liftWrite b .FLT_ACK 0 0 w s = .next (s.written b .FLT_ACK 0 0 w ackAll) :=
  liftWrite_ops _ (.inr (.inr (.inl rfl))) rfl h (ruleOps_ackAll s.env s.dev hack) fun old d => actOps_ackAll s.env d hack hall old

/-- No role is without the right to an FLT_ACKA word (R403). -/
theorem writeAuth_ackAuth {src : Src} {role : Role} (h : Accepts s (src.auth role) .FLT_ACKA 0 0 w)
    (hack : FLT_ACKA.ACK.bit w = true) (ht : (ackTry true (FLT_ACKA.IDX.of w) s.dev).2 = true) :
    writeAuth src role .FLT_ACKA w s =
      .next (s.written (src.auth role) .FLT_ACKA 0 0 w fun d => (ackTry true (FLT_ACKA.IDX.of w) d).1) := by
  rw [writeAuth_right s src role .FLT_ACKA w rfl]
  exact liftWrite_ops _ (.inr (.inr (.inl rfl))) rfl h (ruleOps_ackAuth s.env s.dev hack rfl ht)
    fun old d => actOps_ackAuth s.env d hack old

theorem liftWrite_heartbeat (h : Accepts s b .FLT_HB 0 0 w) (ho : b.origin = .firmware) :
    liftWrite b .FLT_HB 0 0 w s = .next (s.written b .FLT_HB 0 0 w heartbeat) :=
  liftWrite_ops _ (.inr (.inr (.inl rfl))) rfl h (ruleOps_heartbeat s.env s.dev ho) fun _ _ => rfl

/-- An accepted injection does what its mode says. -/
theorem liftWrite_inject {act : Dev → Dev} (h : Accepts s b .TST_FINJ 0 0 w) (hgo : TST_FINJ.GO.bit w = true)
    (hm : TST_FINJ.MODE.of w ≠ 3) (hi : Ev.isIdentity (TST_FINJ.CODE.of w) = true) (ha : ∀ d, inject s.env w d = act d) :
    liftWrite b .TST_FINJ 0 0 w s = .next (s.written b .TST_FINJ 0 0 w act) :=
  liftWrite_ops _ (.inr (.inr (.inr (.inr rfl)))) rfl h (ruleOps_inject s.env s.dev hm hi)
    fun old d => (actOps_inject s.env d hgo old).trans (ha d)

/-- The occurrences of its core cycle stand while an acknowledgement is judged, and no longer (R283). -/
theorem ackWith_next {same : List (Fin 128)} {run : State → Answer} {t : State}
    (h : run (s.withSame (same.map (·.val))) = .next t) : ackWith same run s = .next (t.withSame []) := by
  simp [ackWith, h]

end

/-- Settles O25: each register's own rule takes the word, and its effect is the branch that its bits or its mode name; an
acknowledgement is judged with the occurrences of its core cycle. -/
theorem faultWrites : Obligations.FaultWrites := by
  intro s src w
  refine ⟨fun h hc ht => ?_, fun z same hz h hack hall ht => ?_, fun z same hz h hack hall => ?_,
    fun role z same hz h hack ht => ?_, fun h ho => ?_, fun h hgo hm hi => ?_, fun h hgo hm hi => ?_, fun h hgo hm hi => ?_⟩
  · exact liftWrite_claim h hc ht
  · subst hz
    exact ackWith_next (run := writeTo src .FLT_ACK 0 0 w) (liftWrite_ackOne h hack hall ht)
  · subst hz
    exact ackWith_next (run := writeTo src .FLT_ACK 0 0 w) (liftWrite_ackAll h hack hall)
  · subst hz
    exact ackWith_next (run := writeAuth src role .FLT_ACKA w) (writeAuth_ackAuth h hack ht)
  · exact liftWrite_heartbeat h ho
  · exact liftWrite_inject h hgo (by simp [hm]) hi fun d => inject_event s.env d hm
  · exact liftWrite_inject h hgo (by simp [hm]) hi fun _ => rfl
  · exact liftWrite_inject h hgo (by simp [hm]) hi fun d => inject_clear s.env d hm

end Sys2Proof.Machine
end

section
/-! The fault collector's own events: raising and clearing, runouts and extensions, shadows, ALIVE (R281 to R295), and what its
escalations ask for (R279, R289). -/
namespace Sys2Proof.Machine

section
variable (e : Env) {d : Dev}

/-! ### Raising and clearing (R281, R282) -/

section
variable {code : Nat} (inst aux : Nat) (hi : Ev.isIdentity code = true)
include hi

theorem sourceRaise_eventOnly (he : Ev.eventOnly code = true) : sourceRaise code inst aux e d = report e d code inst aux := by
  simp [sourceRaise, hi, he]

theorem sourceRaise_live (he : Ev.eventOnly code = false) : sourceRaise code inst aux e d = raiseLive e d code inst aux := by
  simp [sourceRaise, hi, he]

end

theorem clearLive_injected {code inst : Nat} (h : (code, inst) ∈ d.flt.injected) : clearLive d code inst = d := if_pos h

theorem clearLive_not_injected {code inst : Nat} (h : (code, inst) ∉ d.flt.injected) :
    clearLive d code inst = dropLive d code inst := if_neg h

/-! ### What escalates (R287) -/

theorem escalates_extension {x : Latch} (hr : x.run = .extension) : escalates d x = supervised d x := by
  simp [escalates, hr]

theorem escalates_runout {x : Latch} (hr : x.run = .runout) : escalates d x = (supervised d x && !x.claimed) := by
  simp [escalates, hr]

/-! ### The entries that end, in their order (R289) -/

theorem runningIn_cons_running {k : Nat} {x : Latch} (l : List Nat) (hk : d.flt.latch.lookup k = some x) (hr : x.run ≠ .none) :
    runningIn_ d (k :: l) = (k, x) :: runningIn_ d l := by
  simp [runningIn_, entry?, hk, hr]

/-- An entry on which neither runs does not end. -/
theorem runningIn_cons_stopped {k : Nat} {x : Latch} (l : List Nat) (hk : d.flt.latch.lookup k = some x) (hr : x.run = .none) :
    runningIn_ d (k :: l) = runningIn_ d l := by
  simp [runningIn_, entry?, hk, hr]

theorem runningIn_cons_free {k : Nat} (l : List Nat) (hk : d.flt.latch.lookup k = none) :
    runningIn_ d (k :: l) = runningIn_ d l := by
  simp [runningIn_, entry?, hk]

theorem byClass_singleton (p : Nat × Latch) : byClass [p] = [p] := by
  cases hc : p.2.cls <;> simp [byClass, hc]

/-- An entry that ends alone is all there is to order. -/
theorem byClass_runningIn_singleton {k : Nat} {x : Latch} (hk : d.flt.latch.lookup k = some x) (hr : x.run ≠ .none) :
    byClass (runningIn_ d [k]) = [(k, x)] := by
  rw [runningIn_cons_running [] hk hr]
  exact byClass_singleton (k, x)

theorem runningIn_pair {k m : Nat} {x y : Latch} (hk : d.flt.latch.lookup k = some x) (hx : x.run ≠ .none)
    (hm : d.flt.latch.lookup m = some y) (hy : y.run ≠ .none) : runningIn_ d [k, m] = [(k, x), (m, y)] := by
  rw [runningIn_cons_running [m] hk hx, runningIn_cons_running [] hm hy]
  rfl

theorem byClass_device_first {p q : Nat × Latch} (hp : p.2.cls = .device) (hq : q.2.cls ≠ .device) : byClass [p, q] = [p, q] := by
  cases hc : q.2.cls
  case device => exact absurd hc hq
  all_goals simp [byClass, hp, hc]

theorem byClass_group_slice {p q : Nat × Latch} (hp : p.2.cls = .group) (hq : q.2.cls = .slice) : byClass [p, q] = [p, q] := by
  simp [byClass, hp, hq]

/-! ### The end of runouts and extensions (R287, R289) -/

theorem runoutEnd_nothing {l : List Nat} (h : runningIn_ d l = []) : runoutEnd l e d = d := by
  simp [runoutEnd, h, byClass, forL]

section
variable {k m : Nat} {x y : Latch} (hk : d.flt.latch.lookup k = some x) (hx : x.run ≠ .none)
include hk hx

/-- Alone in its cycle, an entry that escalates does so whatever its class. -/
theorem runoutEnd_escalates (hesc : escalates d x = true) :
    runoutEnd [k] e d = escalate e d x.code x.inst x.cls k x.inj := by
  unfold runoutEnd
  rw [byClass_runningIn_singleton hk hx]
  cases hc : x.cls
  case slice => cases hn : sliceOfFault d x.code x.inst <;> simp [forL, hesc, hc, hn]
  all_goals simp [forL, hesc, hc]

/-- A supervised one that does not escalate starts its extension. -/
theorem runoutEnd_extends (hesc : escalates d x = false) (hs : supervised d x = true) :
    runoutEnd [k] e d = d.setLatch k { x with run := .extension } := by
  unfold runoutEnd
  rw [byClass_runningIn_singleton hk hx]
  simp [forL, hesc, hs]

/-- One that is no longer supervised ends without a reaction. -/
theorem runoutEnd_ends (hs : supervised d x = false) : runoutEnd [k] e d = d.setLatch k { x with run := .none } := by
  unfold runoutEnd
  rw [byClass_runningIn_singleton hk hx]
  simp [forL, escalates, hs]

section
variable (hm : d.flt.latch.lookup m = some y) (hy : y.run ≠ .none) (hex : escalates d x = true) (hey : escalates d y = true)
include hm hy hex hey

/-- A DEVICE escalation supersedes another one of its cycle. -/
theorem runoutEnd_device_supersedes (hcx : x.cls = .device) (hcy : y.cls ≠ .device) :
    runoutEnd [k, m] e d =
      (escalate e d x.code x.inst .device k x.inj).setLatch m { y with run := .none, claimed := false } := by
  unfold runoutEnd
  rw [runningIn_pair hk hx hm hy, byClass_device_first hcx hcy]
  simp [forL, hex, hey, hcx, hcy]

/-- A GROUP escalation covers that of a slice of its group, which is a consequence of it. -/
theorem runoutEnd_group_covers {g n : Nat} (hcx : x.cls = .group) (hcy : y.cls = .slice)
    (hg : groupOfFault d x.code x.inst = some g) (hn : sliceOfFault d y.code y.inst = some n)
    (hgn : sliceOfGroup d g n = true) :
    runoutEnd [k, m] e d =
      (escalate e d x.code x.inst .group k x.inj).setLatch m { y with run := .none, claimed := false, conseq := true } := by
  unfold runoutEnd
  rw [runningIn_pair hk hx hm hy, byClass_group_slice hcx hcy]
  simp [forL, hex, hey, hcx, hcy, hg, hn, hgn]

end

end

/-! ### What the escalations that are due ask for (R279, R289) -/

theorem react_device (h : d.flt.due.any (fun x => x.1 = .device) = true) :
    react e d = { d with flt := { d.flt with due := [] }, boot := { d.boot with warmReq := true } } :=
  if_pos h

section
variable {code inst n : Nat}

theorem react_group {g : Nat} (h : d.flt.due = [(.group, code, inst, n)]) (hg : groupOfFault d code inst = some g) :
    react e d = groupReaction g n (d.modFlt fun f => { f with due := [] }) := by
  have hg' : groupOfFault (d.modFlt fun f => { f with due := [] }) code inst = some g := hg
  simp [react, h, forL, reactTo, hg']

theorem react_slice {k : Nat} (h : d.flt.due = [(.slice, code, inst, n)]) (hk : sliceOfFault d code inst = some k) :
    react e d = spareEscalate e k n (d.modFlt fun f => { f with due := [] }) := by
  have hk' : sliceOfFault (d.modFlt fun f => { f with due := [] }) code inst = some k := hk
  simp [react, h, forL, reactTo, hk']

end

/-! ### Shadows, ALIVE and the heartbeat (R293 to R295) -/

theorem shadowEnd_done {k : Nat} {sh : Shadow} (hk : d.flt.shadows[k]? = some sh) (hd : sh.done = true) :
    shadowEnd k e d = closeShadow e k d := by
  simp [shadowEnd, hk, hd]

theorem aliveInstant_beats (hh : aliveHeld d = false) (hb : d.flt.beat = true) :
    aliveInstant d = d.modFlt fun f => { f with alive := !f.alive, aliveRun := true, beat := false } := by
  simp [aliveInstant, hh, hb]

/-- ALIVE is low where something holds it, and where no beat came. -/
theorem aliveInstant_low (h : aliveHeld d = true ∨ d.flt.beat = false) :
    aliveInstant d = d.modFlt fun f => { f with alive := false, aliveRun := false, beat := false } := by
  rcases h with h | h <;> simp [aliveInstant, h]

theorem beatLost_armed (h : d.flt.hbArmed = true) :
    beatLost e d = raiseLive e (d.modFlt fun f => { f with hbOk := false }) Ev.FLT_HB_LOST 0xFF 0 :=
  if_pos h

end

/-- Settles O47: each clause is the branch of the event's operation that its hypotheses name; an entry that ends escalates, starts
its extension or only ends by `escalates` and `supervised`. -/
theorem faultEvents : Obligations.FaultEvents := by
  intro s hrun
  refine ⟨fun code inst aux hi he => ?_, fun code inst aux hi he => ?_, fun code inst h => ?_, fun code inst h => ?_,
    fun l _ => ?_, fun l _ => ?_,
    fun k sh hk hd => ?_, fun hh hb => ?_, fun hh => ?_, fun _ hb => ?_, fun h => ?_,
    fun k x hk hr hs => ?_, fun k x hk hr hs hc => ?_, fun k x hk hr hs hc => ?_, fun k x hk hr hs => ?_, fun k x hk hr hs => ?_,
    fun k x hk hr => ?_, fun k hk => ?_, fun k m x y hk hm hx hy hex hey hcx hcy => ?_,
    fun k m x y g n hk hm hx hy hex hey hcx hcy hg hn hgn => ?_, fun d h => ?_, fun d code inst n g h hg => ?_,
    fun d code inst n k h hk => ?_⟩
  · exact lift_eq s (sourceRaise code.val inst.val aux.val) _ hrun (sourceRaise_eventOnly s.env inst.val aux.val hi he)
  · exact lift_eq s (sourceRaise code.val inst.val aux.val) _ hrun (sourceRaise_live s.env inst.val aux.val hi he)
  · exact lift_eq s (fun _ d => clearLive d code.val inst.val) _ hrun (clearLive_not_injected h)
  · exact lift_eq s (fun _ d => clearLive d code.val inst.val) _ hrun (clearLive_injected h)
  · rw [exec_runoutExpiry]
    exact lift_runs s _ hrun
  · rw [exec_claimExtensionExpiry]
    exact lift_runs s _ hrun
  · exact lift_eq s (shadowEnd k) _ hrun (shadowEnd_done s.env hk hd)
  · exact lift_eq s (fun _ d => aliveInstant d) _ hrun (aliveInstant_beats hh hb)
  · exact lift_eq s (fun _ d => aliveInstant d) _ hrun (aliveInstant_low (.inl hh))
  · exact lift_eq s (fun _ d => aliveInstant d) _ hrun (aliveInstant_low (.inr hb))
  · exact lift_eq s beatLost _ hrun (beatLost_armed s.env h)
  · exact runoutEnd_ends s.env hk (by simp [hr]) hs
  · exact runoutEnd_extends s.env hk (by simp [hr]) (by simp [escalates_runout hr, hc]) hs
  · exact runoutEnd_escalates s.env hk (by simp [hr]) (by simp [escalates_runout hr, hs, hc])
  · exact runoutEnd_escalates s.env hk (by simp [hr]) ((escalates_extension hr).trans hs)
  · exact runoutEnd_ends s.env hk (by simp [hr]) hs
  · exact runoutEnd_nothing s.env (runningIn_cons_stopped [] hk hr)
  · exact runoutEnd_nothing s.env (runningIn_cons_free [] hk)
  · exact runoutEnd_device_supersedes s.env hk hx hm hy hex hey hcx hcy
  · exact runoutEnd_group_covers s.env hk hx hm hy hex hey hcx hcy hg hn hgn
  · exact react_device s.env h
  · exact react_group s.env h hg
  · exact react_slice s.env h hk

end Sys2Proof.Machine
end

section
/-! Writes of the recorder's registers (R308, R318, R319). -/
namespace Sys2Proof.Machine

/-! ### The registers' own rules and effects -/

section
variable (e : Env) {x : Wr} (d : Dev)

theorem actOps_recFlush (hf : REC_CTL.FLUSH.bit x.w = true) (old : Word) : actOps e .REC_CTL x old d = startFlush false d := if_pos hf

theorem actOps_recMark (hg : REC_MARK_GO.GO.bit x.w = true) (old : Word) :
    actOps e .REC_MARK_GO x old d = timeMark e x.by_ d :=
  if_pos hg

/-- Where no clear is in progress, no word of REC_CLR is dropped. -/
theorem ruleOps_recClear (hb : d.rcd.clrBusy = []) : ruleOps e .REC_CLR x d = .take := by
  simp [ruleOps, orDrop, hb]

theorem actOps_recClear_varnish (hv : REC_CLR.CLR_V.bit x.w = true) (hp : REC_CLR.CLR_P.bit x.w = false) (old : Word) :
    actOps e .REC_CLR x old d = clearRequest x.by_ .varnish d := by
  simp [actOps, hv, hp]

theorem actOps_recClear_palette (hv : REC_CLR.CLR_V.bit x.w = false) (hp : REC_CLR.CLR_P.bit x.w = true) (old : Word) :
    actOps e .REC_CLR x old d = clearRequest x.by_ .palette d := by
  simp [actOps, hv, hp]

end

/-! ### Who may clear (R403) -/

/-- FACTORY may write any word of REC_CLR. -/
theorem writeRight_recClear_factory (w : Word) : writeRight .factory (RegName.REC_CLR.addr 0 0, w) = true := by
  simp [writeRight]

/-- Every role may write a word of REC_CLR that leaves the Varnish area alone. -/
theorem writeRight_recClear_palette (role : Role) {w : Word} (hv : REC_CLR.CLR_V.bit w = false) :
    writeRight role (RegName.REC_CLR.addr 0 0, w) = true := by
  simp [writeRight, hv]

/-! ### Accepted words -/

section
variable {s : State} {b : By} {w : Word}

theorem liftWrite_recFlush (h : Accepts s b .REC_CTL 0 0 w) (hf : REC_CTL.FLUSH.bit w = true) :
    liftWrite b .REC_CTL 0 0 w s = .next (s.written b .REC_CTL 0 0 w (startFlush false)) :=
  liftWrite_ops _ (.inr (.inr (.inr (.inl rfl)))) rfl h rfl fun old d => actOps_recFlush s.env d hf old

theorem liftWrite_recMark (h : Accepts s b .REC_MARK_GO 0 0 w) (hg : REC_MARK_GO.GO.bit w = true) :
    liftWrite b .REC_MARK_GO 0 0 w s = .next (s.written b .REC_MARK_GO 0 0 w (timeMark s.env b)) :=
  liftWrite_ops _ (.inr (.inr (.inr (.inl rfl)))) rfl h rfl fun old d => actOps_recMark s.env d hg old

/-- A word of REC_CLR that its role may write, while no clear is in progress, asks for the clear that its bits name. -/
theorem writeAuth_recClear {src : Src} {role : Role} {act : Dev → Dev}
    (hright : writeRight role (RegName.REC_CLR.addr 0 0, w) = true) (h : Accepts s (src.auth role) .REC_CLR 0 0 w)
    (hb : s.dev.rcd.clrBusy = [])
    (ha : ∀ old d, actOps s.env .REC_CLR { by_ := src.auth role, i := 0, j := 0, w := w } old d = act d) :
    writeAuth src role .REC_CLR w s = .next (s.written (src.auth role) .REC_CLR 0 0 w act) := by
  rw [writeAuth_right s src role .REC_CLR w hright]
  exact liftWrite_ops act (.inr (.inr (.inr (.inl rfl)))) rfl h (ruleOps_recClear s.env s.dev hb) ha

end

/-- Settles O26: REC_CTL and REC_MARK_GO take every word; REC_CLR takes one of a role with the right to it while no clear is in
progress; the effect is the branch that FLUSH, GO or the area's bit names. -/
theorem recorderWrites : Obligations.RecorderWrites := by
  intro s src w
  refine ⟨fun h hf => ?_, fun h hg => ?_, fun h hv hp hb => ?_, fun role h hv hp hb => ?_⟩
  · exact liftWrite_recFlush h hf
  · exact liftWrite_recMark h hg
  · exact writeAuth_recClear (writeRight_recClear_factory w) h hb fun old d => actOps_recClear_varnish s.env d hv hp old
  · exact writeAuth_recClear (writeRight_recClear_palette role hv) h hb fun old d => actOps_recClear_palette s.env d hv hp old

end Sys2Proof.Machine
end

section
/-! The recorder's own events: flushes that are due, the ends of record writes and of background erases (R308, R312, R319). -/
namespace Sys2Proof.Machine

section
variable (e : Env) {d : Dev}

/-! ### The end of a record write (R312) -/

section
variable {w : RecWrite} (hw : d.rcd.wr = some w)
include hw

theorem recordWriteEnd_verified : recordWriteEnd true e d = kick (writeOk w d) := by
  simp [recordWriteEnd, hw]

/-- The first failure of a slot is retried in it. -/
theorem recordWriteEnd_retries (hr : w.retried = false) :
    recordWriteEnd false e d = d.modRcd fun x => { x with wr := some { w with retried := true } } := by
  simp [recordWriteEnd, hw, hr]

/-- The second moves the record on. -/
theorem recordWriteEnd_moves (hr : w.retried = true) :
    recordWriteEnd false e d = report e (writeMove w d) Ev.REC_WRITE_FAIL noInst (areaAux w.area w.slot) := by
  simp [recordWriteEnd, hw, hr]

end

/-! ### The end of a background erase (R319) -/

section
variable {l : List Area}

theorem clearErased_varnish (h : d.rcd.clrBusy = .varnish :: l) :
    clearErased d =
      d.modRcd fun x => { x with clrBusy := l, varnish := x.varnish.filter fun p => decide (p.1 < x.vUsed) } := by
  simp [clearErased, h]

theorem clearErased_palette (h : d.rcd.clrBusy = .palette :: l) :
    clearErased d =
      d.modRcd fun x => { x with clrBusy := l, palette := x.palette.filter fun p => decide (p.1 < x.pHead) } := by
  simp [clearErased, h]

end

end

/-- Settles O49: each clause is the branch of the event's operation that its hypotheses name: whether the write verified and was
a retry, and whose erase started first. -/
theorem recorderEvents : Obligations.RecorderEvents := by
  intro s hrun
  refine ⟨?_, fun w hw => ?_, fun w hw hr => ?_, fun w hw hr => ?_, fun l h => ?_, fun l h => ?_⟩
  · exact lift_runs s (fun _ d => startFlush true d) hrun
  · exact lift_eq s (recordWriteEnd true) _ hrun (recordWriteEnd_verified s.env hw)
  · exact lift_eq s (recordWriteEnd false) _ hrun (recordWriteEnd_retries s.env hw hr)
  · exact lift_eq s (recordWriteEnd false) _ hrun (recordWriteEnd_moves s.env hw hr)
  · exact lift_eq s (fun _ d => clearErased d) _ hrun (clearErased_varnish h)
  · exact lift_eq s (fun _ d => clearErased d) _ hrun (clearErased_palette h)

end Sys2Proof.Machine
end

section
/-! The Fixative area (R256, R407, R408): a step writes the slot that is not in use, takes it into force, loads the area
anew, or leaves it, and none of these takes the Fixative in force back. -/
namespace Sys2Proof.Machine

/-- The area stays well-formed, and a Fixative in force stays or is followed by a later one. -/
def Env.AreaAdvances (e t : Env) : Prop :=
  t.fixWf ∧ ∀ f, e.fix = some f → ∃ g, t.fix = some g ∧ g.succeeds f

theorem follows_some_iff {g f : Fix} : g.follows (some f) = true ↔ f.version < g.version ∧ g.keyF = f.keyF := by
  simp [Fix.follows]

/-- A record that follows another may come after it in the life of a part. -/
theorem Fix.succeeds_of_follows {g f : Fix} (h : g.follows (some f) = true) : g.succeeds f := by
  obtain ⟨hv, hk⟩ := follows_some_iff.mp h
  exact ⟨hv.le, hk⟩

theorem Fix.succeeds_refl (f : Fix) : f.succeeds f := ⟨Nat.le_refl _, rfl⟩

section
variable {e : Env}

/-- An area whose Fixative in force is the one before has not gone back. -/
theorem areaAdvances_of_fix_eq {t : Env} (ht : t.fixWf) (hf : t.fix = e.fix) : e.AreaAdvances t :=
  ⟨ht, fun f h => ⟨f, hf.trans h, f.succeeds_refl⟩⟩

theorem inUse_of_slotSel_not {t : Env} (h0 : t.slot0 = e.slot0) (h1 : t.slot1 = e.slot1) (hs : t.slotSel = !e.slotSel) :
    t.inUse = otherSlot e ∧ otherSlot t = e.inUse := by
  unfold Env.inUse otherSlot
  rw [h0, h1, hs]
  cases e.slotSel <;> exact ⟨rfl, rfl⟩

/-! ### A command writes the other slot, and its boundary takes it -/

/-- An accepted record waits in the slot that is not in use. -/
theorem fixWrite_advances (h : e.fixWf) (b : By) {x : FixSlot} (hx : x.sound) (hfol : x.fix.follows e.fix = true) :
    e.AreaAdvances (fixWrite b x e) := by
  obtain ⟨hfix, h0, h1, -, -⟩ := h
  refine areaAdvances_of_fix_eq ⟨?_, ?_, ?_, fun _ _ => ⟨x, ?_, hfol⟩, nofun⟩ rfl
  · rw [fixWrite_fix, hfix]
    unfold Env.inUse fixWrite
    cases e.slotSel <;> rfl
  · unfold fixWrite
    cases e.slotSel
    · exact h0
    · rintro y ⟨⟩; exact hx
  · unfold fixWrite
    cases e.slotSel
    · rintro y ⟨⟩; exact hx
    · exact h1
  · unfold otherSlot fixWrite
    cases e.slotSel <;> rfl

/-- Where a record waits, the boundary brings the other slot into use. -/
theorem fixTake_pending {b : By} (hp : e.fixPend = some b) :
    fixTake e = { e with fix := (otherSlot e).map (·.fix), slotSel := !e.slotSel, fixPend := none } := by
  simp [fixTake, hp]

theorem fixTake_idle (hp : e.fixPend = none) : fixTake e = e := by
  simp [fixTake, hp]

/-- The boundary takes the record that waits; the older one stays as the lower version. -/
theorem fixTake_advances (h : e.fixWf) : e.AreaAdvances (fixTake e) := by
  cases hp : e.fixPend with
  | none => rw [fixTake_idle hp]; exact areaAdvances_of_fix_eq h rfl
  | some b =>
    obtain ⟨hfix, h0, h1, hwait, -⟩ := h
    obtain ⟨x, hx, hfol⟩ := hwait b hp
    rw [fixTake_pending hp, hx]
    have hsel := inUse_of_slotSel_not (e := e) (t := { e with fix := some x.fix, slotSel := !e.slotSel, fixPend := none }) rfl rfl rfl
    refine ⟨⟨?_, h0, h1, nofun, fun _ y hy => ⟨x.fix, rfl, ?_⟩⟩, fun f hf => ⟨x.fix, rfl, ?_⟩⟩
    · rw [Option.map_some, hsel.1, hx]; rfl
    · rw [Option.map_some, hsel.2] at hy
      rw [hfix, hy] at hfol
      obtain ⟨hv, hk⟩ := follows_some_iff.mp hfol
      exact ⟨hv, hk.symm⟩
    · exact Fix.succeeds_of_follows (hf ▸ hfol)

/-! ### A start loads the area anew -/

theorem filter_valid_of_sound {o : Option FixSlot} (h : ∀ x, o = some x → x.sound) : o.filter FixSlot.valid = o := by
  cases o with
  | none => rfl
  | some x => simp [Option.filter, (h x rfl).1]

theorem filter_authentic_of_sound {o : Option FixSlot} (h : ∀ x, o = some x → x.sound) : o.filter FixSlot.authentic = o := by
  cases o with
  | none => rfl
  | some x => simp [Option.filter, (h x rfl).2.1]

/-- The slot that a start selects from two sound ones. -/
abbrev Env.newerSlot (e : Env) : Bool := newerB (fun x : FixSlot => x.fix.version) e.slot0 e.slot1

/-- Every slot of a well-formed area passes the checks of a start, which leave the choice between them. -/
theorem loadFixative_of_fixWf (h : e.fixWf) :
    loadFixative e = { e with slotSel := e.newerSlot, fix := (if e.newerSlot then e.slot1 else e.slot0).map (·.fix), fixPend := none } := by
  obtain ⟨-, h0, h1, -, -⟩ := h
  have hx : ∀ x, (if e.newerSlot then e.slot1 else e.slot0) = some x → x.sound := by
    cases e.newerSlot
    · exact h0
    · exact h1
  simp only [loadFixative, filter_valid_of_sound h0, filter_valid_of_sound h1]
  rw [filter_authentic_of_sound hx]

/-- The second of two copies is the newer where it stands and outranks the first, if that stands. -/
theorem newerB_second {α : Type} {seq : α → Nat} {a b : Option α} {x : α} (hb : b = some x) (h : ∀ y, a = some y → seq y < seq x) :
    newerB seq a b = true := by
  subst hb
  cases a with
  | none => rfl
  | some y => exact decide_eq_true (h y rfl)

/-- The first of two copies is the newer where it stands and the second does not outrank it. -/
theorem newerB_first {α : Type} {seq : α → Nat} {a b : Option α} {x : α} (ha : a = some x) (h : ∀ y, b = some y → seq y < seq x) :
    newerB seq a b = false := by
  subst ha
  cases b with
  | none => rfl
  | some y => exact decide_eq_false (Nat.lt_asymm (h y rfl))

/-- A start selects the slot not in use where its record is the later one, or the only one. -/
theorem newerSlot_other {x : FixSlot} (hx : otherSlot e = some x) (h : ∀ y, e.inUse = some y → y.fix.version < x.fix.version) :
    e.newerSlot = !e.slotSel := by
  unfold otherSlot at hx
  unfold Env.inUse at h
  cases hs : e.slotSel <;> rw [hs] at hx h
  · exact newerB_second hx h
  · exact newerB_first hx h

/-- A start selects the slot in use where the record of the other is older, or there is none. -/
theorem newerSlot_inUse {x : FixSlot} (hx : e.inUse = some x) (h : ∀ y, otherSlot e = some y → y.fix.version < x.fix.version) :
    e.newerSlot = e.slotSel := by
  unfold Env.inUse at hx
  unfold otherSlot at h
  cases hs : e.slotSel <;> rw [hs] at hx h
  · exact newerB_first hx h
  · exact newerB_second hx h

/-- A start with a record that waits takes it into force, as its boundary would. -/
theorem loadFixative_pending (h : e.fixWf) {b : By} (hp : e.fixPend = some b) : loadFixative e = fixTake e := by
  rw [loadFixative_of_fixWf h, fixTake_pending hp]
  obtain ⟨hfix, -, -, hwait, -⟩ := h
  obtain ⟨x, hx, hfol⟩ := hwait b hp
  have hsel : e.newerSlot = !e.slotSel := newerSlot_other hx fun y hy => by
    rw [hfix, hy] at hfol
    exact (follows_some_iff.mp hfol).1
  rw [hsel]
  unfold otherSlot
  cases e.slotSel <;> rfl

/-- A start with a Fixative in force and no record waiting leaves the area as it is. -/
theorem loadFixative_idle (h : e.fixWf) (hp : e.fixPend = none) {x : FixSlot} (hx : e.inUse = some x) : loadFixative e = e := by
  rw [loadFixative_of_fixWf h]
  obtain ⟨hfix, -, -, -, hold⟩ := h
  have hsel : e.newerSlot = e.slotSel := newerSlot_inUse hx fun y hy => by
    obtain ⟨f, hf, hv, -⟩ := hold hp y hy
    rw [hfix, hx] at hf
    cases hf
    exact hv
  have hmap : (if e.slotSel then e.slot1 else e.slot0).map (·.fix) = e.fix := hfix.symm
  rw [hsel, hmap, ← hp]

/-- An area without a Fixative in force and without a record waiting is empty. -/
theorem slots_empty (h : e.fixWf) (hp : e.fixPend = none) (hx : e.inUse = none) : e.slot0 = none ∧ e.slot1 = none := by
  obtain ⟨hfix, -, -, -, hold⟩ := h
  have hother : otherSlot e = none := by
    cases ho : otherSlot e with
    | none => rfl
    | some y =>
      obtain ⟨f, hf, -⟩ := hold hp y ho
      rw [hfix, hx] at hf
      cases hf
  unfold Env.inUse at hx
  unfold otherSlot at hother
  cases hs : e.slotSel <;> rw [hs] at hx hother
  · exact ⟨hx, hother⟩
  · exact ⟨hother, hx⟩

/-- An empty area is well-formed. -/
theorem fixWf_of_empty (h0 : e.slot0 = none) (h1 : e.slot1 = none) (hf : e.fix = none) (hp : e.fixPend = none) : e.fixWf := by
  have huse : e.inUse = none := by unfold Env.inUse; cases e.slotSel <;> assumption
  have hother : otherSlot e = none := by unfold otherSlot; cases e.slotSel <;> assumption
  simp [Env.fixWf, huse, hother, h0, h1, hf, hp]

/-- A start takes a record that waits, or leaves the area as it is. -/
theorem loadFixative_advances (h : e.fixWf) : e.AreaAdvances (loadFixative e) := by
  cases hp : e.fixPend with
  | some b => rw [loadFixative_pending h hp]; exact fixTake_advances h
  | none =>
    cases hx : e.inUse with
    | some x => rw [loadFixative_idle h hp hx]; exact areaAdvances_of_fix_eq h rfl
    | none =>
      obtain ⟨h0, h1⟩ := slots_empty h hp hx
      have hload : (loadFixative e).fix = none := by simp [loadFixative, h0, h1]
      refine areaAdvances_of_fix_eq (fixWf_of_empty ?_ ?_ hload rfl) (hload.trans ?_)
      · simp [loadFixative, h0]
      · simp [loadFixative, h1]
      · rw [h.1, hx]; rfl

end

/-! ### Over a command -/

section
variable (e : Env) (d : Dev)

/-- An accepted FIXATIVE command writes its slot; any other leaves the environment. -/
theorem fixativeCommand_writes :
    (fixativeCommand e d).1 = e ∨
      ∃ b r c, submitted e .fixative d = .good b r c ∧ (fixativeCommand e d).1 = fixWrite b (slotOf r c) e := by
  unfold fixativeCommand authFixative
  split
  · split
    · exact .inl rfl
    · exact .inl rfl
    next b r c hs =>
      split
      · exact .inl rfl
      · exact .inr ⟨b, r, c, hs, rfl⟩
  · exact .inl rfl

/-- The record of an accepted FIXATIVE command may follow the one in force. -/
theorem slotOf_follows {e : Env} {d : Dev} {b : By} {r : Role} {c : AuthCmd} (h : submitted e .fixative d = .good b r c) :
    (slotOf r c).fix.follows e.fix = true := by
  obtain ⟨hk, -, -, -, -, hbody⟩ := submitted_good h
  unfold authBody at hbody
  rw [hk] at hbody
  simp only [Bool.and_eq_true] at hbody
  exact hbody.2

/-- A boundary after a Fixative write takes it, where the core runs. -/
theorem fixativeBoundary_takes : (fixativeBoundary e d).1 = e ∨ (fixativeBoundary e d).1 = fixTake e := by
  unfold fixativeBoundary fixativeTakeEffect
  split
  · split
    · exact .inl rfl
    · exact .inr rfl
  · exact .inl rfl

/-- The Fixative area of an environment, beside other figures of the board. -/
def Env.figures (t : Env) (o p : Nat) (f : Bool) : Env := { t with opt := o, pwrcyc := p, factory := f }

theorem areaAdvances_figures {e t : Env} (h : e.AreaAdvances t) (o p : Nat) (f : Bool) : e.AreaAdvances (t.figures o p f) := h

theorem restoreLodge_figures : ∃ o p, (restoreLodge e d).1 = e.figures o p e.factory := by
  unfold restoreLodge
  split
  · exact ⟨e.opt, e.pwrcyc, rfl⟩
  · exact ⟨_, _, rfl⟩

/-- A cold start that takes place loads the area. -/
theorem coldStart_loads (x : StartIn) :
    (coldStart x e d).1 = e ∨ ∃ o p f, (coldStart x e d).1 = (loadFixative e).figures o p f := by
  unfold coldStart
  split
  · exact .inl rfl
  · obtain ⟨o, p, h⟩ := restoreLodge_figures e (selectCopies (bareDev d))
    refine .inr ⟨o, (p + 1) % 4294967296, bitOf x.straps 4, ?_⟩
    simp only [h]
    rfl

theorem countTime_figures : ∃ o, countTime d e = e.figures o e.pwrcyc e.factory := by
  unfold countTime
  split
  · exact ⟨_, rfl⟩
  · exact ⟨e.opt, rfl⟩

end

/-- No command takes the Fixative area back. -/
theorem areaAdvances_of_exec {c : Instr} {s t : State} (h : exec c s = .next t) (hs : s.env.fixWf) : s.env.AreaAdvances t.env := by
  have hstay : s.env.AreaAdvances s.env := areaAdvances_of_fix_eq hs rfl
  cases hc : touchesEnv c with
  | false => rw [env_of_exec h hc]; exact hstay
  | true =>
    cases c
    case operatingTimeTick =>
      obtain ⟨o, ho⟩ := countTime_figures s.env s.dev
      rw [env_of_tick h, ho]
      exact areaAdvances_figures hstay _ _ _
    case coldStart x =>
      rw [env_of_coldStart h]
      rcases coldStart_loads s.env s.dev x with hx | ⟨o, p, f, hx⟩ <;> rw [hx]
      · exact hstay
      · exact areaAdvances_figures (loadFixative_advances hs) o p f
    case warmRestart x =>
      rw [env_of_warmRestart h]
      rcases warmRestart_env s.env s.dev x with hx | hx <;> rw [hx]
      · exact hstay
      · exact loadFixative_advances hs
    case authFixative =>
      rw [env_of_authFixative h]
      rcases fixativeCommand_writes s.env s.dev with hx | ⟨b, r, c, hgood, hx⟩ <;> rw [hx]
      · exact hstay
      · exact fixWrite_advances hs b (slotOf_sound hgood) (slotOf_follows hgood)
    case fixativeTakeEffect =>
      rw [env_of_fixativeTakeEffect h]
      rcases fixativeBoundary_takes s.env s.dev with hx | hx <;> rw [hx]
      · exact hstay
      · exact fixTake_advances hs
    all_goals cases hc

/-- No step takes the Fixative area back. -/
theorem areaAdvances_of_step {s t : State} (h : step s = .next t) (hs : s.env.fixWf) : s.env.AreaAdvances t.env := by
  unfold step at h
  split at h
  · cases h; exact areaAdvances_of_fix_eq hs rfl
  next c rest _ => exact areaAdvances_of_exec (s := { s with pending := rest }) h hs

/-- Settles O6: every command writes the other slot, takes a record that waits, loads the area, or leaves it. -/
theorem fixativeAreaKept : Obligations.FixativeAreaKept :=
  fun _ _ hs h => (areaAdvances_of_step h hs).1

/-- Settles O7: the Fixative in force changes by a record that follows it alone. -/
theorem fixativeNeverGoesBack : Obligations.FixativeNeverGoesBack :=
  fun _ _ f hs h hf => (areaAdvances_of_step h hs).2 f hf

end Sys2Proof.Machine
end

section
/-! What holds of every command: it answers, the queue is not its own, and the state that reset leaves (R138, R370). -/
namespace Sys2Proof.Machine

/-- Settles O1: the front of the queue is what a step runs. -/
theorem stepRunsFront : Obligations.StepRunsFront := fun _ _ _ => ⟨rfl, rfl⟩

/-- Settles O2: every command is an effect on the device or on the environment, and the queue is part of neither. -/
theorem everyCommandAnswers : Obligations.EveryCommandAnswers := by
  intro c s
  cases c <;> exact ⟨_, rfl, rfl⟩

/-! ### While the core does not run -/

theorem withSame_withSame (s : State) (a b : List Nat) : (s.withSame a).withSame b = s.withSame b := by
  unfold State.withSame; rfl

/-- An acknowledgement of a core that does not run leaves no occurrences of its cycle behind (R283). -/
theorem exec_faultAck_off (src : Src) (x : AckWord) {s : State} (h : coreRuns s.dev = false) :
    exec (.faultAck src x) s = .next (s.withSame []) := by
  rw [exec_faultAck, execFaultAck, ackWith_next (writeTo_off (s.withSame _) src .FLT_ACK 0 0 x.w h), withSame_withSame]

/-- Refutes O8: a core held in reset, with an occurrence of the cycle (`Faults.same`) noted; FLT_ACK forgets it. -/
theorem not_nothingWithoutTheCore : ¬ Obligations.NothingWithoutTheCore := by
  intro h
  have hrest := h (.faultAck { origin := .spi } { w := 0#32 })
    { env := {}, dev := { pwr := { inReset := true }, flt := { same := [0] } }, pending := [] } rfl rfl
  rw [exec_faultAck_off _ _ rfl] at hrest
  exact absurd (congrArg (·.dev.flt.same) (Host.Outcome.next.inj hrest)) (by decide)

/-! ### Reset -/

/-- Settles O12: each field of the reset state is its default, and an empty Fixative area is well-formed. -/
theorem resetAtRest : Obligations.ResetAtRest :=
  ⟨rfl, fun _ => rfl, fun _ => rfl, rfl, rfl, rfl, rfl, rfl, rfl, rfl, rfl, rfl, rfl, fixWf_of_empty rfl rfl rfl rfl, rfl, rfl, rfl⟩

end Sys2Proof.Machine
end

section
/-! Writes of the bias DAC, housekeeping, thermal, Tow link, retained-state and supervisor registers, which share their rules and
effects. -/
namespace Sys2Proof.Machine

/-- The registers that `ruleOf` and `actOf` leave to `ruleSystem` and `actSystem`. -/
abbrev RegName.Systemic (n : RegName) : Prop :=
  ¬(n.block ≤ 5 ∨ n = .CAL_CTL) ∧ ¬(n.block = 0x10 ∨ n.block = 0x80) ∧ ¬(n.block = 0x20 ∨ n.block = 0x30 ∨ n.block = 0x38) ∧
    ¬(n.block = 0x3C ∨ n.block = 0x40 ∨ n.block = 0x48 ∨ n.block = 0x50 ∨ n.block = 0xF0)

section
variable {s : State} {b : By} {n : RegName} {i j : Nat} {w : Word} {act : Dev → Dev} (hn : n.Systemic) (hf : n.fields.isEmpty = false)
include hn hf

/-- An accepted word of such a register that the register's own rule takes has the register's effect. -/
theorem liftWrite_system (h : Accepts s b n i j w) (hr : ruleSystem n { by_ := b, i := i, j := j, w := w } s.dev = .take)
    (ha : actSystem s.env n { by_ := b, i := i, j := j, w := w } (s.dev.reg n i j) (storeWord ⟨n, i, j⟩ w s.dev) =
      act (storeWord ⟨n, i, j⟩ w s.dev)) :
    liftWrite b n i j w s = .next (s.written b n i j w act) := by
  obtain ⟨h0, h1, h2, h3⟩ := hn
  exact liftWrite_accepted s b n i j w act hf h ((ruleOf_system _ _ _ _ h0 h1 h2 h3).trans hr)
    ((actOf_system _ _ _ _ _ h0 h1 h2 h3).trans ha)

/-- So does one that is written inside a period. -/
theorem liftWrite_system_at {ofs : Nat} (h : Accepts { s with dev := s.dev.atOfs ofs } b n 0 0 w)
    (hr : ruleSystem n { by_ := b, i := 0, j := 0, w := w } (s.dev.atOfs ofs) = .take)
    (ha : actSystem s.env n { by_ := b, i := 0, j := 0, w := w } ((s.dev.atOfs ofs).reg n 0 0)
      (storeWord ⟨n, 0, 0⟩ w (s.dev.atOfs ofs)) = act (storeWord ⟨n, 0, 0⟩ w (s.dev.atOfs ofs))) :
    lift (fun e d => hostWrite e b (n.addr 0 0) w (d.atOfs ofs)) s =
      .next (State.written { s with dev := s.dev.atOfs ofs } b n 0 0 w act) := by
  obtain ⟨h0, h1, h2, h3⟩ := hn
  exact liftWrite_accepted_at s b n w ofs act hf h ((ruleOf_system _ _ _ _ h0 h1 h2 h3).trans hr)
    ((actOf_system _ _ _ _ _ h0 h1 h2 h3).trans ha)

end

end Sys2Proof.Machine
end

section
/-! Writes of the bias DAC registers (R325, R329, R331, R332, R334, R335). -/
namespace Sys2Proof.Machine

/-! ### The registers' own rules and effects -/

section
variable (e : Env) {x : Wr} {d : Dev} (old : Word)

theorem ruleSystem_bdacCode (h : loopDriven d x.i = false) : ruleSystem .BDAC_CODE x d = .take := by
  simp [ruleSystem, orRefuse, h]

/-- ARM for a Tow time that has not passed. -/
theorem ruleSystem_timerArm (h : towNow d ≤ timerTime d) : ruleSystem .BDAC_TT_CTL x d = .take := by
  simp [ruleSystem, orRefuse, Nat.not_lt.mpr h]

theorem actSystem_timerArm (h : BDAC_TT_CTL.ARM.bit x.w = true) :
    actSystem e .BDAC_TT_CTL x old d = { d with bdac := { d.bdac with ttDone := false } } :=
  if_pos h

theorem actSystem_spanGo (h : BDAC_SPAN.GO.bit x.w = true) :
    actSystem e .BDAC_SPAN x old d =
      (spanChange x.i (BDAC_SPAN.SPAN.of x.w) (BDAC_SPAN.PARK_NEW.of x.w) (BDAC_SPAN.CODE_NEW.of x.w) d).1 :=
  if_pos h

/-- BDAC_SINE inside R335 on a channel that no probe run holds: RUN = 1 needs sine mode. -/
theorem ruleSystem_sine (hp : probeOn d x.i = false) (hlo : 1 ≤ BDAC_SINE.FREQ.of x.w) (hhi : BDAC_SINE.FREQ.of x.w ≤ 100000)
    (hm : BDAC_SINE.RUN.bit x.w = true → d.flag BDAC_CFG.MODE x.i = true) : ruleSystem .BDAC_SINE x d = .take := by
  have hrun : (BDAC_SINE.RUN.bit x.w && !d.flag BDAC_CFG.MODE x.i) = false := by
    cases h : BDAC_SINE.RUN.bit x.w
    · rfl
    · rw [hm h]; rfl
  simp [ruleSystem, orRefuse, hp, hrun, Nat.not_lt.mpr hhi, Nat.one_le_iff_ne_zero.mp hlo]

/-- RUN = 1 on a channel that is free to run starts the sine at phase 0. -/
theorem actSine_start {c : Nat} {w : Word} (hr : BDAC_SINE.RUN.bit w = true) (hc : (d.chan c).pcause = [])
    (h1 : (d.chan c).st ≠ .parking) (h2 : (d.chan c).st ≠ .parked) (h3 : (d.chan c).st ≠ .span) :
    actSine c w d =
      d.setChan c { d.chan c with sineOn := true, sineStop := false, acc := 0, moved := true, probe := none } := by
  simp [actSine, hr, hc, h1, h2, h3]

/-- RUN = 0 on a running sine asks it to stop at its next zero crossing. -/
theorem actSine_stop {c : Nat} {w : Word} (hr : BDAC_SINE.RUN.bit w = false) (hs : (d.chan c).sineOn = true) :
    actSine c w d = d.setChan c { d.chan c with sineStop := true } := by
  simp [actSine, hr, hs]

/-- ALL strobes every channel. -/
theorem actSystem_strobeAll (h : BDAC_LOAD1.ALL.bit x.w = true) : actSystem e .BDAC_LOAD1 x old d = strobe (fun _ => true) d := by
  simp [actSystem, h]

/-- BIT strobes the channels from 32 on. -/
theorem actSystem_strobeHigh (h : BDAC_LOAD1.ALL.bit x.w = false) :
    actSystem e .BDAC_LOAD1 x old d = strobe (fun c => decide (32 ≤ c) && bitOf x.w.toNat (c - 32)) d := by
  simp [actSystem, h]

end

/-! ### Strobes (R331) -/

theorem mem_sadd_iff {α : Type} [DecidableEq α] {l : List α} {a x : α} : x ∈ sadd l a ↔ x ∈ l ∨ x = a := by
  unfold sadd
  split
  next h => exact ⟨.inl, fun hx => hx.elim id fun he => he ▸ h⟩
  next => simp

theorem mem_foldl_sadd {α : Type} [DecidableEq α] {x : α} (as : List α) : ∀ l : List α, x ∈ as.foldl sadd l ↔ x ∈ l ∨ x ∈ as := by
  induction as with
  | nil => simp
  | cons a as ih => intro l; rw [List.foldl_cons, ih, mem_sadd_iff, List.mem_cons, or_assoc]

/-- A strobe marks the channels that it names and that load by strobe, beside those marked already. -/
theorem mem_strobe_load (which : Nat → Bool) (d : Dev) (c : Nat) :
    c ∈ (strobe which d).bdac.load ↔ c ∈ d.bdac.load ∨ (c < 48 ∧ which c = true ∧ d.get BDAC_CFG.UPD c = 1) := by
  simp [strobe, mem_foldl_sadd]

/-- Settles O27: each register's own rule takes the word, and its effect is the branch that EN, ALL, GO or RUN names. -/
theorem bdacWrites : Obligations.BdacWrites := by
  intro s src w
  refine ⟨fun c h _ hr => ?_, fun c h _ hr => ?_, fun c h hl => ?_, fun h => ?_, fun h hall => ?_, fun h hall => ?_,
    fun ofs h harm ht => ?_, fun c h hgo hr => ?_, fun c h hrun hp hlo hhi hm hc h1 h2 h3 => ?_, fun c h hrun hp hlo hhi hs => ?_,
    fun which c => mem_strobe_load which s.dev c⟩
  · exact liftWrite_system (by decide) rfl h hr rfl
  · exact liftWrite_system (by decide) rfl h hr rfl
  · exact liftWrite_system (by decide) rfl h (ruleSystem_bdacCode hl) rfl
  · exact liftWrite_system (by decide) rfl h rfl rfl
  · exact liftWrite_system (by decide) rfl h rfl (actSystem_strobeHigh s.env _ hall)
  · exact liftWrite_system (by decide) rfl h rfl (actSystem_strobeAll s.env _ hall)
  · exact liftWrite_system_at (by decide) rfl h (ruleSystem_timerArm ht) (actSystem_timerArm s.env _ harm)
  · exact liftWrite_system (by decide) rfl h hr (actSystem_spanGo s.env _ hgo)
  · exact liftWrite_system (by decide) rfl h (ruleSystem_sine hp hlo hhi fun _ => hm)
      (actSine_start hrun (by rwa [storeWord_chan]) (by rwa [storeWord_chan]) (by rwa [storeWord_chan]) (by rwa [storeWord_chan]))
  · exact liftWrite_system (by decide) rfl h (ruleSystem_sine hp hlo hhi (by simp [hrun])) (actSine_stop hrun (by rwa [storeWord_chan]))

end Sys2Proof.Machine
end

section
/-! Events of the bias DAC channels (R325, R329, R332 to R336). -/
namespace Sys2Proof.Machine

section
variable {c : Nat} {d : Dev}

/-! ### Power-up (R325) -/

section
variable (hs : (d.chan c).starting = true) (hon : (d.dom 71).phase = .on)
include hs hon

/-- The channel drives PARK and takes its way to T. -/
theorem bdacPowered_drive (hen : d.flag BDAC_CFG.EN c = true) (hl : chansLeave d = false) (hp : (d.chan c).pcause = []) :
    bdacPowered c d = d.setChan c { d.chan c with
      starting := false, driven := true, out := parkCode d c, moved := true, st := .drive
      back := (d.chan c).back && decide ((d.chan c).t ≠ parkCode d c) } := by
  simp [bdacPowered, hs, hon, hen, hl, hp]

/-- Where a park cause stands the channel stays at PARK. -/
theorem bdacPowered_parked (hen : d.flag BDAC_CFG.EN c = true) (hl : chansLeave d = false) (hp : (d.chan c).pcause ≠ []) :
    bdacPowered c d = d.setChan c { d.chan c with
      starting := false, driven := true, out := parkCode d c, moved := true, st := .parked, back := true } := by
  simp [bdacPowered, hs, hon, hen, hl, hp]

/-- EN = 0 meanwhile releases the output. -/
theorem bdacPowered_release (hen : d.flag BDAC_CFG.EN c = false) :
    bdacPowered c d =
      bdacRelease c (d.setChan c { d.chan c with starting := false, driven := true, out := parkCode d c, moved := true }) := by
  simp [bdacPowered, hs, hon, hen]

end

/-! ### At PARK and OFF (R325) -/

section
variable (hst : (d.chan c).st = .parking) (hout : (d.chan c).out = parkCode d c) (hchg : (d.chan c).chg = none)
include hst hout hchg

theorem bdacAtPark_parks (hen : d.flag BDAC_CFG.EN c = true) (hsl : d.pwr.sleep ≠ .entering) (hp : (d.chan c).pcause ≠ []) :
    bdacAtPark c d = d.setChan c { d.chan c with st := .parked } := by
  simp [bdacAtPark, hst, hout, hchg, hen, hsl, hp]

theorem bdacAtPark_releases (hen : d.flag BDAC_CFG.EN c = false) : bdacAtPark c d = bdacRelease c d := by
  simp [bdacAtPark, hst, hout, hchg, hen]

end

theorem bdacOffed_off (hst : (d.chan c).st = .offing) (hq : (d.chan c).queued = false) :
    bdacOffed c d = bankDomain (d.setChan c { d.chan c with st := .off, queued := false }) := by
  simp [bdacOffed, hst, hq]

/-! ### Sine and current limit (R335, R336) -/

theorem sineZero_stops (hon : (d.chan c).sineOn = true) (hstop : (d.chan c).sineStop = true) :
    sineZero c d = (d.setChan c { d.chan c with
      sineOn := false, sineStop := false, acc := 0
      out := if (d.chan c).st = .drive then (d.chan c).t else (d.chan c).out, probe := none }).put BDAC_SINE.RUN c 0 :=
  if_pos ⟨hon, hstop⟩

theorem currentLimit_driven (e : Env) (h : (d.chan c).driven = true) : currentLimit e c d = report e d Ev.BDAC_ILIM c 0 := if_pos h

end

/-- Settles O50: each clause is the branch of the event's operation that its hypotheses name. -/
theorem bdacEvents : Obligations.BdacEvents := by
  intro s hrun
  refine ⟨fun c hs hon hen hl hp => ?_, fun c hs hon hen hl hp => ?_, fun c hs hon hen => ?_, fun c _ _ => ?_,
    fun c hst ho hc hen hsl hp => ?_, fun c hst ho hc hen => ?_, fun c hst hq => ?_, fun c z _ _ => ?_, fun c hon hstop => ?_,
    fun c hd => ?_, fun ofs _ _ => ?_, fun ofs => ?_⟩
  · exact lift_eq s (fun _ d => bdacPowered c.val d) _ hrun (bdacPowered_drive hs hon hen hl hp)
  · exact lift_eq s (fun _ d => bdacPowered c.val d) _ hrun (bdacPowered_parked hs hon hen hl hp)
  · exact lift_eq s (fun _ d => bdacPowered c.val d) _ hrun (bdacPowered_release hs hon hen)
  · exact lift_runs s (fun _ d => bdacStep c.val d) hrun
  · exact lift_eq s (fun _ d => bdacAtPark c.val d) _ hrun (bdacAtPark_parks hst ho hc hen hsl hp)
  · exact lift_eq s (fun _ d => bdacAtPark c.val d) _ hrun (bdacAtPark_releases hst ho hc hen)
  · exact lift_eq s (fun _ d => bdacOffed c.val d) _ hrun (bdacOffed_off hst hq)
  · exact lift_runs s (fun _ d => spanDone c.val d) hrun
  · exact lift_eq s (fun _ d => sineZero c.val d) _ hrun (sineZero_stops hon hstop)
  · exact lift_eq s (fun e d => currentLimit e c.val d) _ hrun (currentLimit_driven s.env hd)
  · exact lift_runs s (fun _ d => timerLoad (d.atOfs ofs)) hrun
  · exact lift_runs s (fun _ d => bdacTick (d.atOfs ofs)) hrun

end Sys2Proof.Machine
end

section
/-! Writes of the sleep, thermal, start, commit, handover and command buffer registers (R348, R360, R367, R378, R385, R394, R395,
R401). -/
namespace Sys2Proof.Machine

/-! ### The registers' own rules and effects -/

section
variable (e : Env) {x : Wr} {d : Dev} (old : Word)

/-- PWR_CTL, where nothing bars SLEEP (R360). -/
theorem ruleRadio_sleep (hc : d.rcd.clrBusy = []) (hs : bitOf d.boot.straps 4 = false) (hw : noWake d = false) :
    ruleRadio e .PWR_CTL x d = .take := by
  simp [ruleRadio, hc, hs, hw]

theorem actRadio_sleep (h : PWR_CTL.SLEEP.bit x.w = true) : actRadio e .PWR_CTL x old d = sleepRequest d := if_pos h

theorem ruleSystem_thmCfg (h : thmCfgOk x.w = true) : ruleSystem .THM_CFG x d = .take := by
  simp [ruleSystem, orRefuse, h]

theorem actSystem_warm (h : SUP_CTL.WARM.bit x.w = true) :
    actSystem e .SUP_CTL x old d = { d with boot := { d.boot with warmReq := true } } :=
  if_pos h

theorem ruleSystem_calRet (h : 4 ≤ CAL_RET_CTL.COMMIT_INT.of x.w) : ruleSystem .CAL_RET_CTL x d = .take := by
  simp [ruleSystem, orDrop, Nat.not_lt.mpr h]

theorem actSystem_commit (hc : CAL_RET_CTL.COMMIT.bit x.w = true) (hd : CAL_RET_CTL.DISCARD.bit x.w = false) :
    actSystem e .CAL_RET_CTL x old d = commitStart d := by
  simp [actSystem, hc, hd]

theorem actSystem_discard (hc : CAL_RET_CTL.COMMIT.bit x.w = false) (hd : CAL_RET_CTL.DISCARD.bit x.w = true) :
    actSystem e .CAL_RET_CTL x old d = d.modRet fun r => { r with disc := true } := by
  simp [actSystem, hc, hd]

section
variable (hr : (pairIn d .ready).isSome = true) (hp : d.sup.pend = false)
include hr hp

/-- GO needs a READY pair and no handover that is scheduled already (R394). -/
theorem ruleSystem_handover : ruleSystem .SUP_HO_CTL x d = .take := by
  simp [ruleSystem, orRefuse, hp, Option.isSome_iff_ne_none.mp hr]

theorem actSystem_handover (hg : SUP_HO_CTL.GO.bit x.w = true) :
    actSystem e .SUP_HO_CTL x old d = d.modSup fun y => { y with pend := true, held := d.auth.submit.isSome } := by
  simp [actSystem, hg, handoverGo, hp, Option.isSome_iff_ne_none.mp hr]

end

section
variable (hsub : d.auth.submit = none)
include hsub

/-- OPEN of a number of blocks inside R401 while no buffer is open. -/
theorem ruleAuth_open (hlo : 1 ≤ SUP_AUTH_CTL.LEN.of x.w) (hhi : SUP_AUTH_CTL.LEN.of x.w ≤ 160) (hb : d.authBlocks = 0) :
    ruleAuth x d = .take := by
  simp [ruleAuth, orDrop, hsub, hb, Nat.not_lt.mpr hhi, Nat.one_le_iff_ne_zero.mp hlo]

theorem ruleAuth_no_open (ho : SUP_AUTH_CTL.OPEN.bit x.w = false) : ruleAuth x d = .take := by
  simp [ruleAuth, orDrop, hsub, ho]

theorem actAuth_open (ho : SUP_AUTH_CTL.OPEN.bit x.w = true) (hs : SUP_AUTH_CTL.SUBMIT.bit x.w = false)
    (ha : SUP_AUTH_CTL.ABORT.bit x.w = false) (hlo : 1 ≤ SUP_AUTH_CTL.LEN.of x.w) (hhi : SUP_AUTH_CTL.LEN.of x.w ≤ 160)
    (hb : d.authBlocks = 0) : actAuth e x d = authOpen e (SUP_AUTH_CTL.LEN.of x.w) d := by
  simp [actAuth, hsub, ho, hs, ha, hlo, hhi, hb]

theorem actAuth_abort (ho : SUP_AUTH_CTL.OPEN.bit x.w = false) (hs : SUP_AUTH_CTL.SUBMIT.bit x.w = false)
    (ha : SUP_AUTH_CTL.ABORT.bit x.w = true) : actAuth e x d = authRelease d := by
  simp [actAuth, hsub, ho, hs, ha]

end
end

/-- The choice of a pair is not in the register file. -/
@[simp] theorem storeWord_pairIn (r : Reg) (w : Word) (d : Dev) (st : PairSt) : pairIn (storeWord r w d) st = pairIn d st := by
  obtain ⟨l, h⟩ := storeWord_regs r w d; rw [h]; rfl

/-- Only REC_CLR and SUP_WR_EN ask for more than any role has (R403). -/
theorem writeRight_of_other {role : Role} {n : RegName} {w : Word} (h : n.addr 0 0 ≠ RegName.REC_CLR.addr 0 0)
    (h' : n.addr 0 0 ≠ RegName.SUP_WR_EN.addr 0 0) : writeRight role (n.addr 0 0, w) = true := by
  simp [writeRight, h, h']

/-- Settles O28: each register's own rule takes the word, and its effect is the branch that its action bit names. -/
theorem systemWrites : Obligations.SystemWrites := by
  intro s src w
  refine ⟨fun h hok => ?_, fun h hsl hc hs hw => ?_, fun role h hwarm => ?_, fun h hc hd hi => ?_, fun role h hd hc hi => ?_,
    fun role ofs h hg hr hp => ?_, fun h ho hs ha hlo hhi hb hsub => ?_, fun h ho hs ha hsub => ?_⟩
  · exact liftWrite_system (by decide) rfl h (ruleSystem_thmCfg hok) rfl
  · exact liftWrite_accepted s src.plain .PWR_CTL 0 0 w _ rfl h
      ((ruleOf_radio _ _ _ _ (by decide)).trans (ruleRadio_sleep s.env hc hs hw))
      ((actOf_radio _ _ _ _ _ (by decide)).trans (actRadio_sleep s.env _ hsl))
  · rw [exec_supCtlWarm, execSupCtlWarm, writeAuth_right s src role .SUP_CTL w (writeRight_of_other (by decide) (by decide))]
    exact liftWrite_system (by decide) rfl h rfl (actSystem_warm s.env _ hwarm)
  · exact liftWrite_system (by decide) rfl h (ruleSystem_calRet hi) (actSystem_commit s.env _ hc hd)
  · rw [exec_retainedDiscard, execRetainedDiscard, writeAuth_right s src role .CAL_RET_CTL w (writeRight_of_other (by decide) (by decide))]
    exact liftWrite_system (by decide) rfl h (ruleSystem_calRet hi) (actSystem_discard s.env _ hc hd)
  · rw [exec_handoverGo, execHandoverGo]
    simp only [writeRight_of_other (role := role) (n := .SUP_HO_CTL) (w := w) (by decide) (by decide), if_true]
    exact liftWrite_system_at (by decide) rfl h (ruleSystem_handover hr hp)
      (actSystem_handover s.env _ (by rwa [storeWord_pairIn]) (by rwa [storeWord_sup]) hg)
  · exact liftWrite_system (by decide) rfl h (ruleAuth_open hsub hlo hhi hb)
      (actAuth_open s.env (by rwa [storeWord_auth]) ho hs ha hlo hhi (by rwa [storeWord_authBlocks]))
  · exact liftWrite_system (by decide) rfl h (ruleAuth_no_open hsub ho) (actAuth_abort s.env (by rwa [storeWord_auth]) ho hs ha)

end Sys2Proof.Machine
end

section
/-! Writes of the Tow link's registers (R418, R422, R428, R432, R442). -/
namespace Sys2Proof.Machine

section
variable (e : Env) {x : Wr} (d : Dev) (old : Word)

theorem actSystem_enum (h : TOW_HEAD_CTL.ENUM.bit x.w = true) : actSystem e .TOW_HEAD_CTL x old d = enumerate e none d := if_pos h

theorem actSystem_promote (h : TOW_HEAD_PROM.GO.bit x.w = true) :
    actSystem e .TOW_HEAD_PROM x old d = promote e (TOW_HEAD_PROM.SPARE.of x.w) (TOW_HEAD_PROM.TARGET.of x.w) d :=
  if_pos h

theorem actSystem_mbxSend (hs : TOW_HEAD_MBX.SEND.bit x.w = true) (hp : TOW_HEAD_MBX.POP.bit x.w = false) :
    actSystem e .TOW_HEAD_MBX x old d = mailboxSend e d := by
  simp [actSystem, hs, hp]

theorem actSystem_mbxPop (hs : TOW_HEAD_MBX.SEND.bit x.w = false) (hp : TOW_HEAD_MBX.POP.bit x.w = true) :
    actSystem e .TOW_HEAD_MBX x old d = mailboxPop d := by
  simp [actSystem, hs, hp]

theorem actSystem_towTimeSet (h : TOW_TIME_SET_GO.GO.bit x.w = true) : actSystem e .TOW_TIME_SET_GO x old d = towTimeSet e d := if_pos h

theorem actSystem_tokenRel (h : TOW_PAIR_CTL.REL.bit x.w = true) : actSystem e .TOW_PAIR_CTL x old d = tokenRel d := if_pos h

end

/-- Settles O29: these registers take every word, and each effect is the branch that its action bit names. -/
theorem towWrites : Obligations.TowWrites := by
  intro s src w
  refine ⟨fun h he => ?_, fun h hg => ?_, fun h hs hp => ?_, fun h hs hp => ?_, fun ofs h hg => ?_, fun h hr => ?_⟩
  · exact liftWrite_system (by decide) rfl h rfl (actSystem_enum s.env _ _ he)
  · exact liftWrite_system (by decide) rfl h rfl (actSystem_promote s.env _ _ hg)
  · exact liftWrite_system (by decide) rfl h rfl (actSystem_mbxSend s.env _ _ hs hp)
  · exact liftWrite_system (by decide) rfl h rfl (actSystem_mbxPop s.env _ _ hs hp)
  · exact liftWrite_system_at (by decide) rfl h rfl (actSystem_towTimeSet s.env _ _ hg)
  · exact liftWrite_system (by decide) rfl h rfl (actSystem_tokenRel s.env _ _ hr)

end Sys2Proof.Machine
end

section
/-! Housekeeping, sensor gates and power domains (R338, R347, R351, R355 to R357); sleep and wake (R360 to R363, R454). -/
namespace Sys2Proof.Machine

/-! ### Power domains (R355, R356) -/

section
variable {n : Nat} {d : Dev}

/-- A domain that has powered up goes on by what its owner wants. -/
theorem domUp_powering {next : DomPhase} (h : (d.dom n).phase = .powering) (hr : (if (d.dom n).req then .on else .draining) = next) :
    domUp n d = domNext (clearLive
      (d.setDom n { d.dom n with phase := next, upCnt := satN ((d.dom n).upCnt + 1) 0xFF }) Ev.PWR_DOMAIN_FAIL n) := by
  subst hr
  exact if_pos h

/-- A drained domain goes OFFING, or back to ON where it is wanted again. -/
theorem domDrained_draining {next : DomPhase} (h : (d.dom n).phase = .draining)
    (hr : (if (d.dom n).req then .on else .offing) = next) : domDrained n d = d.setDom n { d.dom n with phase := next } := by
  subst hr
  exact if_pos h

theorem domOff_offing (h : (d.dom n).phase = .offing) (hq : (d.dom n).queued = false) :
    domOff n d = d.setDom n { d.dom n with phase := .off } := by
  simp [domOff, h, hq]

theorem domTimeout_powering (e : Env) (h : (d.dom n).phase = .powering) :
    domTimeout e n d =
      domNext (raiseLive e (d.setDom n { d.dom n with phase := .off, failed := !counted n }) Ev.PWR_DOMAIN_FAIL n 0) :=
  if_pos h

theorem dozeEnter_silent (h : mayDoze d n = true) : dozeEnter n d = d.modSlice n fun x => { x with doze := true } := if_pos h

end

/-- Settles O51: the slot, the lap and the gate are their operations, and each clause on a domain is the branch of its phase that
REQ or QUEUED names. -/
theorem housekeepingAndDomains : Obligations.HousekeepingAndDomains := by
  intro s hrun
  refine ⟨fun code v _ => ?_, fun xo => ?_, fun n count tf inr => ?_, fun n h hr => ?_, fun n h hr => ?_, fun n h hr => ?_,
    fun n h hr => ?_, fun n h hq => ?_, fun n h => ?_, fun n h => ?_⟩
  · exact lift_runs s (fun e d => slotEnd e code.val v d) hrun
  · exact lift_runs s (fun e d => lapEnd e xo d) hrun
  · exact lift_runs s (fun e d => gateEnd e n.val count tf inr d) hrun
  · exact lift_eq s (fun _ d => tilesFollow (domUp n.val d)) _ hrun (congrArg tilesFollow (domUp_powering h (if_pos hr)))
  · exact lift_eq s (fun _ d => tilesFollow (domUp n.val d)) _ hrun (congrArg tilesFollow (domUp_powering h (if_neg (by simp [hr]))))
  · exact lift_eq s (fun _ d => tilesFollow (domDrained n.val d)) _ hrun
      (congrArg tilesFollow (domDrained_draining h (if_neg (by simp [hr]))))
  · exact lift_eq s (fun _ d => tilesFollow (domDrained n.val d)) _ hrun (congrArg tilesFollow (domDrained_draining h (if_pos hr)))
  · exact lift_eq s (fun _ d => tilesFollow (domOff n.val d)) _ hrun (congrArg tilesFollow (domOff_offing h hq))
  · exact lift_eq s (fun e d => tilesFollow (domTimeout e n.val d)) _ hrun (congrArg tilesFollow (domTimeout_powering s.env h))
  · exact lift_eq s (fun _ d => dozeEnter n.val d) _ hrun (dozeEnter_silent h)

/-! ### Sleep and wake (R360 to R362, R454) -/

section
variable {d : Dev}

/-- The last stage of the sleep sequence has ended: MAIN_EN falls. -/
theorem sleepEnter_done (hs : d.pwr.sleep = .entering) (ht : d.pwr.stage = 2) (hd : domainsOff d = true) (hj : d.ret.job = none)
    (hf : d.rcd.flushing = false) :
    sleepEnter d =
      (d.modPwr fun p => { p with sleep := .asleep, mainEn := false, stage := 0 }).modFlt fun f => { f with alive := false, aliveRun := false } := by
  simp [sleepEnter, hs, ht, hd, hj, hf]

/-- What the core held is gone, and where the board leaves MAIN_EN unconnected the core is held in reset. -/
theorem fallAsleep_done (e : Env) (hs : d.pwr.sleep = .entering) (ht : d.pwr.stage = 2) (hd : domainsOff d = true)
    (hj : d.ret.job = none) (hf : d.rcd.flushing = false) :
    fallAsleep e d = coreOff (!e.mainEnWired) { d with
      pwr := { d.pwr with sleep := .asleep, mainEn := false, stage := 0, pwrGood := d.pwr.pwrGood && !e.mainEnWired }
      flt := { d.flt with alive := false, aliveRun := false } } := by
  unfold fallAsleep
  rw [sleepEnter_done hs ht hd hj hf]
  exact if_pos ⟨rfl, hs⟩

section
variable (hs : d.pwr.sleep = .asleep)
include hs

/-- In SLEEP with no cause held, a cause wakes the device. -/
theorem wakeCause_asleep (hh : d.pwr.heldWake = none) (c p : Nat) : wakeCause c p d = wakeNow c p d := by
  simp [wakeCause, hs, hh]

theorem wakePin_asleep (hh : d.pwr.heldWake = none) (hen : d.flag LDG_WAKE_CFG.PIN_EN = true) : wakePin d = wakeNow 1 0 d := by
  rw [wakePin, if_pos hen, wakeCause_asleep hs hh]

theorem wakeTow_asleep (hh : d.pwr.heldWake = none) (hen : d.flag LDG_WAKE_CFG.TOW_EN = true) : wakeTow d = wakeNow 4 0 d := by
  rw [wakeTow, if_pos hen, wakeCause_asleep hs hh]

theorem wakeTimer_asleep (hh : d.pwr.heldWake = none) (ht : d.get LDG_WAKE_TMR.SEC ≠ 0) (hx : d.pwr.xtalOk = true) :
    wakeTimer d = wakeNow 8 0 d := by
  rw [wakeTimer, if_pos ⟨ht, hs, hx⟩, wakeCause_asleep hs hh]

/-- A cause that ENTERING held acts in SLEEP. -/
theorem heldWakeRelease_asleep {c p : Nat} (hh : d.pwr.heldWake = some (c, p)) : heldWakeRelease d = wakeNow c p d := by
  simp [heldWakeRelease, hs, hh]

end

/-- The crystal's fault follows it where the core runs. -/
theorem crystal_runs (ok : Bool) (e : Env) (h : coreRuns d = true) :
    crystal ok e d = setLive e Ev.LDG_XTAL 0xFF (!ok) (d.modPwr fun p => { p with xtalOk := ok }) :=
  if_pos h

end

/-- Settles O52: each clause is the branch of the Lodge's operation that its hypotheses name. -/
theorem sleepAndWake : Obligations.SleepAndWake := by
  intro s
  refine ⟨fun hs ht hd hj hf => ?_, fun hs hh hen => ?_, fun hs hh hen => ?_, fun hs hh ht hx => ?_, fun pin t => ?_,
    fun c p hs hh => ?_, fun hrun => ?_, fun hrun => ?_⟩
  · rw [exec_sleepEntered, execSleepEntered, liftLodge_eq, fallAsleep_done s.env hs ht hd hj hf]
  · rw [exec_wakePinEdge, execWakePinEdge, liftLodge_eq, wakePin_asleep hs hh hen]
  · rw [exec_towActivityWake, execTowActivityWake, liftLodge_eq, wakeTow_asleep hs hh hen]
  · rw [exec_wakeTimerExpiry, execWakeTimerExpiry, liftLodge_eq, wakeTimer_asleep hs hh ht hx]
  · exact liftLodge_eq s fun _ d => rfWindow pin.val t d
  · rw [exec_heldWakeRelease, execHeldWakeRelease, liftLodge_eq, heldWakeRelease_asleep hs hh]
  · rw [exec_xtalStop, execXtalStop, liftLodge_eq, crystal_runs false s.env hrun, Bool.not_false]
  · rw [exec_xtalResume, execXtalResume, liftLodge_eq, crystal_runs true s.env hrun, Bool.not_true]

end Sys2Proof.Machine
end

section
/-! Configuration commits (R385), replacements (R390), and the supervisor's pairs (R394 to R396). -/
namespace Sys2Proof.Machine

/-! ### Configuration commits (R385) -/

section
variable {d : Dev}

theorem commitStart_begins (hb : nvBarred d = false) (hf : d.pwr.failed = false) (hj : d.ret.job = none) :
    commitStart d = d.modRet fun r => { r with
      job := some { cfg := retainedNow d (((cfgChosen d.ret).map (·.seq)).getD 0 + 1)
                    left := commitSegments (retainedNow d (((cfgChosen d.ret).map (·.seq)).getD 0 + 1)), retried := false }
      dirty := false, again := false
      cfgA := if r.cfgSel then none else r.cfgA, cfgB := if r.cfgSel then r.cfgB else none } := by
  simp [commitStart, hb, hf, hj]

theorem clearLive_ret (d : Dev) (code inst : Nat) : (clearLive d code inst).ret = d.ret := by
  rw [(recorded_clearLive d code inst).1]

section
variable {j : Commit} (e : Env) (hf : d.pwr.failed = false) (hj : d.ret.job = some j)
include hf hj

/-- The last segment selects the new copy, clears the fault, and a trigger that fell during the commit starts the next. -/
theorem commitSegment_last (hl : j.left ≤ 1) :
    commitSegment e true d =
      let d2 := clearLive (d.modRet fun r => { r with
        job := none, cfgSel := !r.cfgSel
        cfgA := if r.cfgSel then some j.cfg else r.cfgA, cfgB := if r.cfgSel then r.cfgB else some j.cfg }) Ev.RET_COMMIT_FAIL 0xFF
      if d.ret.again then commitStart d2 else d2 := by
  simp [commitSegment, hf, hj, Nat.not_lt.mpr hl, clearLive_ret, Dev.modRet, noInst]

section
variable (hb : nvBarred d = false)
include hb

theorem commitSegment_next (hl : 1 < j.left) :
    commitSegment e true d = d.modRet fun r => { r with job := some { j with left := j.left - 1, retried := false } } := by
  simp [commitSegment, hb, hf, hj, hl]

/-- A failed segment is written once more. -/
theorem commitSegment_retries (hr : j.retried = false) :
    commitSegment e false d = d.modRet fun r => { r with job := some { j with retried := true } } := by
  simp [commitSegment, hb, hf, hj, hr]

/-- A failed retry ends the commit. -/
theorem commitSegment_fails (hr : j.retried = true) :
    commitSegment e false d =
      let d1 := raiseLive e (commitDrop d) Ev.RET_COMMIT_FAIL 0xFF 0
      if d.ret.again then commitStart d1 else d1 := by
  simp [commitSegment, hb, hf, hj, hr, noInst]

end
end

/-! ### Handover (R394) -/

theorem handoverFreeze_pending (hp : d.sup.pend = true) (hh : d.sup.held = false) :
    handoverFreeze d = d.modSup fun x => { x with frozen := true } := by
  simp [handoverFreeze, hp, hh]

theorem handoverSwitch_ready {b : Bool} (hp : d.sup.pend = true) (hf : d.sup.frozen = true) (hr : pairIn d .ready = some b) :
    handoverSwitch d = takeOver b .ready d := by
  simp [handoverSwitch, hp, hf, hr]

end

/-- Settles O54: each clause is the branch of the operation that its hypotheses name. -/
theorem commitsSparesPairs : Obligations.CommitsSparesPairs := by
  intro s hrun
  refine ⟨fun hb hf hj => ?_, fun j hb hf hj hl => ?_, fun j hb hf hj hr => ?_, fun j hb hf hj hr ha => ?_,
    fun j hb hf hj hr ha => ?_, fun j hf hj hl ha => ?_, fun j hf hj hl ha => ?_, fun _ _ _ => ?_, fun p _ _ _ => ?_,
    fun hp hh => ?_, fun b hp hf hr => ?_, fun _ => ?_, fun b _ => ?_, fun b _ => ?_⟩
  · exact lift_eq s (fun _ d => commitStart d) _ hrun (commitStart_begins hb hf hj)
  · exact lift_eq s (fun e d => commitSegment e true d) _ hrun (commitSegment_next s.env hf hj hb hl)
  · exact lift_eq s (fun e d => commitSegment e false d) _ hrun (commitSegment_retries s.env hf hj hb hr)
  · exact lift_eq s (fun e d => commitSegment e false d) _ hrun
      ((commitSegment_fails s.env hf hj hb hr).trans (if_neg (by simp [ha])))
  · exact lift_eq s (fun e d => commitSegment e false d) _ hrun ((commitSegment_fails s.env hf hj hb hr).trans (if_pos ha))
  · exact lift_eq s (fun e d => commitSegment e true d) _ hrun ((commitSegment_last s.env hf hj hl).trans (if_neg (by simp [ha])))
  · exact lift_eq s (fun e d => commitSegment e true d) _ hrun ((commitSegment_last s.env hf hj hl).trans (if_pos ha))
  · exact lift_runs s spareStart hrun
  · exact lift_runs s (fun _ d => spareDone d) hrun
  · exact lift_eq s (fun _ d => handoverFreeze d) _ hrun (handoverFreeze_pending hp hh)
  · exact lift_eq s (fun _ d => handoverSwitch d) _ hrun (handoverSwitch_ready hp hf hr)
  · exact lift_runs s handoverBack hrun
  · exact lift_runs s (fun e d => lockstep e b d) hrun
  · exact lift_runs s (fun _ d => pairReloaded b d) hrun

end Sys2Proof.Machine
end

section
/-! Reads (R15, R18, R488): the word of a read is what `peek` gives, and four registers have a read that does something. -/
namespace Sys2Proof.Machine

section
variable {e : Env} {d : Dev} {a : Nat}

theorem peek_unmapped (ho : occupant e d a = none) : peek e d a = 0#32 := by simp [peek, ho]

/-- What the read of register `r` does. -/
def readEffect (e : Env) (r : Reg) (d : Dev) : Dev :=
  match r.name with
  | .LDG_OPT_LO => { d with hiOpt := e.opt / 2 ^ 32 }
  | .TOW_TIME_LO => { d with hiTow := towNow d / 2 ^ 32 % 2 ^ 32 }
  | .SYN_RFFE_RD => d.setRffe r.i { d.rffeM r.i with rdValid := false }
  | .POOL_CAP_WIN => { d with eng := { d.eng with bulk := true } }
  | _ => d

/-- A read of an occupied register answers what a snapshot or gather read answers, and has the register's effect. -/
theorem readReg_occupied (ha : a % 4 = 0) {r : Reg} (ho : occupant e d a = some r) :
    readReg e a d = (readEffect e r d, peek e d a) := by
  simp only [readReg, ha, ho, peek]
  rfl

end

/-- Settles O31: an unoccupied address answers 0 with a report, an occupied one its word with its register's effect. -/
theorem readsChangeNothingElse : Obligations.ReadsChangeNothingElse := by
  intro e d a ha
  refine ⟨fun ho => ⟨readReg_unmapped ha ho, peek_unmapped ho⟩, fun r ho => ?_⟩
  obtain ⟨n, i, j⟩ := r
  rw [readReg_occupied ha ho]
  refine ⟨rfl, ?_, ?_, ?_, ?_, fun h1 h2 h3 h4 => ?_⟩
  · rintro ⟨⟩; rfl
  · rintro ⟨⟩; rfl
  · rintro ⟨⟩; rfl
  · rintro ⟨⟩; rfl
  · unfold readEffect
    split
    next h => exact absurd h h1
    next h => exact absurd h h2
    next h => exact absurd h h3
    next h => exact absurd h h4
    next => rfl

end Sys2Proof.Machine
end

section
/-! The pair token (R429, R431 to R433). -/
namespace Sys2Proof.Machine

section
variable {d : Dev}

theorem tokenAcquire_due {e : Env} (h : tokenDue e d = true) :
    tokenAcquire e d = modTok (fun t => { t with hold := true, gate := false, acqCnt := satN (t.acqCnt + 1) 0xFF }) d :=
  if_pos h

/-- The line low for 10 µs ends the fault, and opens the gate of the device that drives it. -/
theorem tokenGate_opens (hp : pairEn d = true) (hl : d.tow.tok.line = false) (hh : d.tow.tok.hold = true)
    (hr : d.tow.tok.letting = false) (hb : benched d = false) :
    tokenGate d = modTok (fun t => { t with gate := true }) (clearLive d Ev.TOW_TOKEN_FAULT 0xFF) := by
  simp [tokenGate, hp, hl, hh, hr, hb, noInst]

theorem tokenLet_letting (h : d.tow.tok.letting = true) :
    tokenLet d = modTok (fun t => { t with hold := false, letting := false }) d :=
  if_pos h

theorem tokenFault_high (e : Env) (hh : d.tow.tok.hold = true) (hl : d.tow.tok.line = true) :
    tokenFault e d = raiseLive e (modTok (fun t => { t with gate := false }) d) Ev.TOW_TOKEN_FAULT 0xFF (ownAddr d) :=
  if_pos ⟨hh, hl⟩

end

/-- Settles O60: each clause is the branch of the token's operation that its hypotheses name. -/
theorem pairToken : Obligations.PairToken := by
  intro s hrun
  refine ⟨fun h => ?_, fun h => ?_, fun hp hl hh hr hb => ?_, fun h => ?_, fun hh hl => ?_, ?_⟩
  · exact lift_runs s (fun _ d => modTok (fun t => { t with line := h }) d) hrun
  · exact lift_eq s tokenAcquire _ hrun (tokenAcquire_due h)
  · exact lift_eq s (fun _ d => tokenGate d) _ hrun (tokenGate_opens hp hl hh hr hb)
  · exact lift_eq s (fun _ d => tokenLet d) _ hrun (tokenLet_letting h)
  · exact lift_eq s tokenFault _ hrun (tokenFault_high s.env hh hl)
  · exact lift_runs s (fun _ d => modTok (fun t => { t with blocked := false }) d) hrun

end Sys2Proof.Machine
end

section
/-! Ports of the Tow link (R411, R413, R414, R419). -/
namespace Sys2Proof.Machine

section
variable {dn : Bool} {d : Dev}

theorem portTraining_down (hl : (towPort d dn).link = .down) (hen : d.flag TOW_PORT_CFG.EN (portNo dn) = true)
    (hd : dn = true ∨ isHead d = false) : portTraining dn d = modPort dn (fun p => { p with link := .training }) d := by
  simp [portTraining, hl, hen, hd]

theorem trainingBurst_sends (hl : (towPort d dn).link ≠ .up) (hen : d.flag TOW_PORT_CFG.EN (portNo dn) = true)
    (hq : d.flag TOW_PORT_CFG.QUIET (portNo dn) = false) (hd : dn = true ∨ isHead d = false) :
    trainingBurst dn d = modPort dn (fun p => { p with line := .training, trainAt := coreNow d }) d := by
  simp [trainingBurst, hl, hen, hq, hd]

/-- A port goes UP with its frames going out; the head leaves its TOW_UP unused, and enumerates when its TOW_DN comes up. -/
theorem portUp_rises (e : Env) (hl : (towPort d dn).link ≠ .up) (hen : d.flag TOW_PORT_CFG.EN (portNo dn) = true)
    (hd : dn = true ∨ isHead d = false) :
    portUp e dn d =
      let d1 := clearLive (modPort dn (fun p => { p with link := .up, busy := false, mbx := false, line := .idle }) d)
        Ev.TOW_LINK_DOWN (portNo dn)
      portKick dn (if dn then enumerate e none (report e d1 Ev.TOW_LINK_UP 1 (ownAddr d)) else d1) := by
  have hhead : ¬((!dn && isHead d) = true) := by rcases hd with h | h <;> simp [h]
  exact if_neg (by simp [hl, hen, hhead])

/-- A port that falls from UP counts and raises its fault; what is queued for TOW_DN is lost. -/
theorem portDown_falls (e : Env) (hl : (towPort d dn).link = .up) :
    portDown e dn d =
      let d3 := raiseLive e (modPort dn (fun p => { p with downCnt := satN (p.downCnt + 1) 0xFF }) (modPort dn (fun p => { p with
        link := .down, busy := false, mbx := false, line := .static, queue := if dn then [] else p.queue }) d))
        Ev.TOW_LINK_DOWN (portNo dn) (ownAddr d)
      if dn then d3 else towUnlock e d3 := by
  have hup : ¬(towPort d dn).link ≠ .up := not_not.mpr hl
  exact if_neg hup

section
variable (hl : (towPort d dn).link = .up) (hb : (towPort d dn).busy = false)
  (hi : d.flag TOW_PORT_CFG.IDLE_FILL (portNo dn) = false)
include hl hb hi

theorem lineRests_static : lineRests true dn d = modPort dn (fun p => { p with line := .static }) d := by
  simp [lineRests, hl, hb, hi]

/-- Out of the silence a burst of IDLE sets goes out. -/
theorem lineRests_burst (hs : lineNow d dn = .static) :
    lineRests false dn d = modPort dn (fun p => { p with line := .burst, trainAt := coreNow d }) d := by
  simp [lineRests, hl, hb, hi, hs]

end

/-- Another port is left alone. -/
theorem lineRests_else (static : Bool) (h : (towPort d dn).link ≠ .up ∨ (towPort d dn).busy = true ∨
    d.flag TOW_PORT_CFG.IDLE_FILL (portNo dn) = true) : lineRests static dn d = d := by
  refine if_neg ?_
  rintro ⟨hl, hb, hi⟩
  rcases h with h | h | h <;> simp_all

end

/-- Settles O57: each clause is the branch of the port's operation that its hypotheses name. -/
theorem towPorts : Obligations.TowPorts := by
  intro s hrun
  refine ⟨fun dn hl hen hd => ?_, fun hl hen hh => ?_, fun hl hen => ?_, fun hl => ?_, fun hl => ?_, fun dn hl hen hq hd => ?_,
    fun dn hl hb hi hs => ?_, fun dn h => ?_, fun dn hl hb hi => ?_, fun dn ofs => ?_⟩
  · exact lift_eq s (fun _ d => portTraining dn d) _ hrun (portTraining_down hl hen hd)
  · exact lift_eq s (fun e d => portUp e false d) _ hrun (portUp_rises s.env hl hen (.inr hh))
  · exact lift_eq s (fun e d => portUp e true d) _ hrun (portUp_rises s.env hl hen (.inl rfl))
  · exact lift_eq s (fun e d => portDown e true d) _ hrun (portDown_falls s.env hl)
  · exact lift_eq s (fun e d => portDown e false d) _ hrun (portDown_falls s.env hl)
  · exact lift_eq s (fun _ d => trainingBurst dn d) _ hrun (trainingBurst_sends hl hen hq hd)
  · exact lift_eq s (fun _ d => lineRests false dn d) _ hrun (lineRests_burst hl hb hi hs)
  · exact lift_eq s (fun _ d => lineRests false dn d) _ hrun (lineRests_else false h)
  · exact lift_eq s (fun _ d => lineRests true dn d) _ hrun (lineRests_static hl hb hi)
  · exact lift_runs s (fun _ d => frameEnd dn (d.atOfs ofs)) hrun

end Sys2Proof.Machine
end

section
/-! What a device sends of its own on the Tow link, and when (R421, R423, R424, R434, R439, R440, R443 to R445). -/
namespace Sys2Proof.Machine

section
variable (e : Env) {d : Dev}

/-- Timed WRITEs that are due apply, unless a handover holds them. -/
theorem towTimedApply_due (h : handoverHolds d = false) :
    towTimedApply e d =
      let due := d.tow.timed.filter fun w => decide (w.at_ ≤ d.clk.tow)
      forL due (fun w d => towApply e w.frame ((runsOf (w.frame.pay.drop 8)).getD []) false d)
        (d.modTow fun t => { t with timed := t.timed.filter fun w => decide (d.clk.tow < w.at_) }) :=
  if_neg (by simp [h])

/-- At T_G the device reads its two registers without side effects. -/
theorem gatherSample_due {g : Gather} (hg : d.tow.gather = some g) (hl : g.late = false) (hr : g.result = none)
    (ht : g.at_ ≤ towNow d) :
    gatherSample e d =
      d.modTow fun t => { t with gather := some { g with result := some ((peek e d g.reg0).toNat, (peek e d g.reg1).toNat) } } := by
  simp [gatherSample, hg, hl, hr, Nat.not_lt.mpr ht]

theorem syncSend_downstream (h : isTail d = false) :
    syncSend e d = sendOwn e true { type := 0xE, dst := 0, pay := List.replicate 8 0 } d :=
  if_neg (by simp [h])

theorem syncTimeout_unlocks (h : isHead d = false) : syncTimeout e d = towUnlock e d := if_neg (by simp [h])

theorem delaySend_up (hl : d.tow.up.link = .up) (hh : isHead d = false) :
    delaySend e d = sendOwn e false { type := 0xF, dst := 0, pay := List.replicate 8 0 } d :=
  if_pos ⟨hl, by simp [hh]⟩

section
variable (hh : isHead d = false)
include hh

theorem beatDue_passed (ha : d.tow.addrV = true) (hb : beatPassed d = true) : beatDue e d = sendHeartbeat e d :=
  if_neg (by simp [hh, ha, hb])

theorem helloDue_unaddressed (ha : d.tow.addrV = false) (hf : firmwareUp d = true) : helloDue e d = sendHeartbeat e d :=
  if_neg (by simp [hh, ha, hf])

end
end

/-- Settles O59: each clause is the branch of the operation that its hypotheses name. -/
theorem towOwnTraffic : Obligations.TowOwnTraffic := by
  intro s hrun
  refine ⟨fun h => ?_, fun ofs g hg hl hr ht => ?_, fun ofs g _ _ _ _ _ => ?_, fun ofs h => ?_, fun h => ?_, fun ofs hl hh => ?_,
    fun ofs hh ha hb => ?_, fun ofs hh ha hf => ?_, fun a ofs x _ _ _ _ => ?_, fun ofs _ => ?_⟩
  · exact lift_eq s towTimedApply _ hrun (towTimedApply_due s.env h)
  · exact lift_eq s (fun e d => gatherSample e (d.atOfs ofs)) _ hrun (gatherSample_due s.env (d := s.dev.atOfs ofs) hg hl hr ht)
  · exact lift_runs s (fun e d => gatherTrain e (d.atOfs ofs)) hrun
  · exact lift_eq s (fun e d => syncSend e (d.atOfs ofs)) _ hrun (syncSend_downstream s.env (d := s.dev.atOfs ofs) h)
  · exact lift_eq s syncTimeout _ hrun (syncTimeout_unlocks s.env h)
  · exact lift_eq s (fun e d => delaySend e (d.atOfs ofs)) _ hrun (delaySend_up s.env (d := s.dev.atOfs ofs) hl hh)
  · exact lift_eq s (fun e d => beatDue e (d.atOfs ofs)) _ hrun (beatDue_passed s.env (d := s.dev.atOfs ofs) hh ha hb)
  · exact lift_eq s (fun e d => helloDue e (d.atOfs ofs)) _ hrun (helloDue_unaddressed s.env (d := s.dev.atOfs ofs) hh ha hf)
  · exact lift_runs s (fun e d => deadDeclare e a.val (d.atOfs ofs)) hrun
  · exact lift_runs s (fun e d => epochBroadcast e (d.atOfs ofs)) hrun

end Sys2Proof.Machine
end

section
/-! Frames that the device acts on (R417, R418, R421 to R445). -/
namespace Sys2Proof.Machine

/-! ### What the device is on the link stays as it sends -/

/-- The address under which a device is known on the link, and its epoch. -/
def Tow.known (t : Tow) : Bool × Nat × Nat := (t.addrV, t.addr, t.epoch)

theorem Recorded.tow {d t : Dev} (h : Recorded d t) : t.tow = d.tow := by rw [h.1]

section
variable (e : Env) (dn : Bool) (d : Dev)

@[simp] theorem modPort_known (f : Port → Port) : (modPort dn f d).tow.known = d.tow.known := by
  cases dn <;> rfl

@[simp] theorem onLine_known (q : QFrame) : (onLine dn q d).tow.known = d.tow.known := by
  unfold onLine
  dsimp only
  split
  · exact modPort_known ..
  · exact modPort_known ..

@[simp] theorem portKick_known : (portKick dn d).tow.known = d.tow.known := by
  unfold portKick
  dsimp only
  split
  · rfl
  · split
    · rfl
    · simp

/-- Frames that a full queue discards are counted and reported. -/
@[simp] theorem queueFit_known (n : Nat) : (queueFit e dn n d).tow.known = d.tow.known := by
  induction n generalizing d with
  | zero => rfl
  | succ n ih =>
    unfold queueFit
    dsimp only
    split
    · rfl
    · split
      · rfl
      · rw [ih, (recorded_report ..).tow]
        exact modPort_known ..

@[simp] theorem enqueue_known (q : QFrame) : (enqueue e dn q d).tow.known = d.tow.known := by
  unfold enqueue
  split
  · rfl
  · simp

@[simp] theorem sendHeartbeat_known : (sendHeartbeat e d).tow.known = d.tow.known := enqueue_known ..

end

/-- A device that takes an address is known by it. -/
theorem takeAddr_known (e : Env) (a ep : Nat) (d : Dev) : (takeAddr e a ep d).tow.known = (true, a, ep) := by
  unfold takeAddr
  rw [sendHeartbeat_known, (recorded_clearLive ..).tow]
  rfl

/-! ### What a frame does that the receive rules let through -/

section
variable {e : Env} {dn : Bool} {rf : RxFrame} {d0 d : Dev} {g : Frame}

section
variable {type : Nat} (hr : receive e dn type rf d0 = (d, .act g))
include hr

theorem towRequest_served (hh : isHead d = false) (hf : firmwareUp d = true) (hn : handoverHolds d = false) :
    towRequest e dn type rf d0 = serveTow e g d := by
  simp [towRequest, hr, hh, hf, hn]

/-- A handover holds the frames that come during it, in order (R394). -/
theorem towRequest_held (hh : isHead d = false) (hf : firmwareUp d = true) (hn : handoverHolds d = true) :
    towRequest e dn type rf d0 = d.modTow fun t => { t with held := t.held ++ [g] } := by
  simp [towRequest, hr, hh, hf, hn]

theorem towRequest_passes (h : isHead d = true ∨ firmwareUp d = false) : towRequest e dn type rf d0 = d := by
  rcases h with h | h <;> simp [towRequest, hr, h]

end

section
variable (hr : receive e dn 6 rf d0 = (d, .act g))
include hr

theorem towEventIn_linkUp (hh : isHead d = true) (hc : leAt g.pay 14 2 = Ev.TOW_LINK_UP) :
    towEventIn e dn rf d0 = enumerate e none d := by
  simp [towEventIn, hr, hh, hc]

theorem towEventIn_passes (h : isHead d = false ∨ leAt g.pay 14 2 ≠ Ev.TOW_LINK_UP) : towEventIn e dn rf d0 = d := by
  rcases h with h | h <;> simp [towEventIn, hr, h]

end

theorem towEventIn_dropped (hr : (receive e dn 6 rf d0).2 = .drop) : towEventIn e dn rf d0 = (receive e dn 6 rf d0).1 := by
  unfold towEventIn
  generalize receive e dn 6 rf d0 = x at hr
  obtain ⟨d1, got⟩ := x
  subst hr
  rfl

section
variable (hr : receive e dn 5 rf d0 = (d, .act g))
include hr

theorem towHeartbeat_head (hh : isHead d = true) : towHeartbeat e dn rf d0 = headHeartbeat e g d := by
  simp [towHeartbeat, hr, hh]

theorem towHeartbeat_passes (hh : isHead d = false) : towHeartbeat e dn rf d0 = d := by
  simp [towHeartbeat, hr, hh]

end

/-! The branches of an ENUM (R422): at the head, at an addressed device, and by the device's entry in the book. -/

section
variable (hr : receive e dn 7 rf d0 = (d, .act g))
include hr

theorem towEnum_returned (hh : isHead d = true) (hl : g.last = true) :
    towEnum e dn rf d0 = epochBroadcast e (d.modTow fun t => { t with nextFree := max t.nextFree (g.arg % 2048) }) := by
  simp [towEnum, hr, hh, hl]

theorem towEnum_unreturned (hh : isHead d = true) (hl : g.last = false) : towEnum e dn rf d0 = d := by
  simp [towEnum, hr, hh, hl]

section
variable (hh : isHead d = false)
include hh

theorem towEnum_addressed (ha : d.tow.addrV = true) : towEnum e dn rf d0 = enumOn e g d := by
  simp [towEnum, hr, hh, ha]

section
variable (ha : d.tow.addrV = false)
include ha

theorem towEnum_booked {k : Nat}
    (hk : (List.range (g.pay.length / 16)).find? (fun k => leAt g.pay (16 * k) 8 == e.uid) = some k) :
    towEnum e dn rf d0 =
      enumOn e g (takeAddr e (leAt g.pay (16 * k + 8) 2 % 2048) (leAt g.pay (16 * k + 10) 2) d) := by
  simp [towEnum, hr, hh, ha, hk]

section
variable (hk : (List.range (g.pay.length / 16)).find? (fun k => leAt g.pay (16 * k) 8 == e.uid) = none)
include hk

theorem towEnum_next (hg : g.arg < 0x7FE) :
    towEnum e dn rf d0 = enumOn e { g with arg := g.arg + 1 } (takeAddr e g.arg g.epoch d) := by
  simp [towEnum, hr, hh, ha, hk, Nat.not_le.mpr hg]

theorem towEnum_exhausted (hg : 0x7FE ≤ g.arg) :
    towEnum e dn rf d0 =
      enumOn e g (raiseLive e (d.modTow fun t => { t with noAddr := true }) Ev.TOW_NOADDR 0xFF (ownAddr d)) := by
  simp [towEnum, hr, hh, ha, hk, hg, noInst]

end
end
end
end

theorem towBench_benches (hr : receive e dn 10 rf d0 = (d, .act g)) (hh : isHead d = false) (hd : g.dst = d.tow.addr)
    (he : g.epoch = d.tow.epoch) : towBench e dn rf d0 = enterBench e (g.src != 0) d := by
  simp [towBench, hr, hh, hd, he]

theorem towNetstop_stops (hr : receive e dn 11 rf d0 = (d, .act g)) : towNetstop e dn rf d0 = stopFor e .tow d := by
  simp [towNetstop, hr]

end

/-- Settles O58: each clause is the branch of the frame's operation that its hypotheses name; an address that is taken stays
as the HEARTBEAT goes out. -/
theorem towFramesActedOn : Obligations.TowFramesActedOn := by
  intro s hrun
  have request (type : Nat) (dn : Bool) (f : RxFrame) (ofs : Nat) {d : Dev} (h : towRequest s.env dn type f (s.dev.atOfs ofs) = d) :
      lift (fun e d => towRequest e dn type f (d.atOfs ofs)) s = .next (s.then_ d) := lift_eq s _ _ hrun h
  refine ⟨fun dn f ofs d g hr hh hf hn => request 1 dn f ofs (towRequest_served hr hh hf hn),
    fun dn f ofs d g hr hh hf hn => request 2 dn f ofs (towRequest_served hr hh hf hn),
    fun dn f ofs d g hr hh hf hn => request 4 dn f ofs (towRequest_served hr hh hf hn),
    fun dn f ofs d g hr hh hf hn => request 1 dn f ofs (towRequest_held hr hh hf hn),
    fun dn f ofs d g hr hh hf hn => request 2 dn f ofs (towRequest_held hr hh hf hn),
    fun dn f ofs d g hr hh hf hn => request 4 dn f ofs (towRequest_held hr hh hf hn),
    fun dn f ofs d g hr h => request 1 dn f ofs (towRequest_passes hr h),
    fun dn f ofs d g hr h => request 2 dn f ofs (towRequest_passes hr h),
    fun dn f ofs d g hr h => request 4 dn f ofs (towRequest_passes hr h),
    fun dn f ofs _ => ?_, fun dn f ofs d g hr hh hc => ?_, fun dn f ofs d g hr h => ?_, fun dn f ofs hr => ?_,
    fun dn f ofs d g hr hh => ?_, fun dn f ofs d g hr hh => ?_, fun dn f ofs d g hr hh ha => ?_,
    fun dn f ofs d g k hr hh ha hk => ?_, fun dn f ofs d g hr hh ha hk hg => ?_, fun dn f ofs d g hr hh ha hk hg => ?_,
    fun dn f ofs d g hr hh hl => ?_, fun dn f ofs d g hr hh hl => ?_, fun a ep d => ?_, fun dn f ofs d g hr hh hd he => ?_,
    fun dn f ofs d g hr => ?_, fun dn f ofs _ => ?_, fun dn f ofs _ => ?_, fun dn f ofs _ => ?_, fun dn f ofs _ => ?_,
    fun dn f ofs _ => ?_, fun dn f ofs _ => ?_, fun dn f ofs _ => ?_⟩
  · exact lift_runs s (fun e d => towPass e dn 3 f (d.atOfs ofs)) hrun
  · exact lift_eq s (fun e d => towEventIn e dn f (d.atOfs ofs)) _ hrun (towEventIn_linkUp hr hh hc)
  · exact lift_eq s (fun e d => towEventIn e dn f (d.atOfs ofs)) _ hrun (towEventIn_passes hr h)
  · exact lift_eq s (fun e d => towEventIn e dn f (d.atOfs ofs)) _ hrun (towEventIn_dropped hr)
  · exact lift_eq s (fun e d => towHeartbeat e dn f (d.atOfs ofs)) _ hrun (towHeartbeat_head hr hh)
  · exact lift_eq s (fun e d => towHeartbeat e dn f (d.atOfs ofs)) _ hrun (towHeartbeat_passes hr hh)
  · exact lift_eq s (fun e d => towEnum e dn f (d.atOfs ofs)) _ hrun (towEnum_addressed hr hh ha)
  · exact lift_eq s (fun e d => towEnum e dn f (d.atOfs ofs)) _ hrun (towEnum_booked hr hh ha hk)
  · exact lift_eq s (fun e d => towEnum e dn f (d.atOfs ofs)) _ hrun (towEnum_next hr hh ha hk hg)
  · exact lift_eq s (fun e d => towEnum e dn f (d.atOfs ofs)) _ hrun (towEnum_exhausted hr hh ha hk hg)
  · exact lift_eq s (fun e d => towEnum e dn f (d.atOfs ofs)) _ hrun (towEnum_returned hr hh hl)
  · exact lift_eq s (fun e d => towEnum e dn f (d.atOfs ofs)) _ hrun (towEnum_unreturned hr hh hl)
  · obtain ⟨hv, ha, he⟩ : _ ∧ _ ∧ _ := by simpa [Tow.known] using takeAddr_known s.env a ep d
    exact ⟨hv, ha, he⟩
  · exact lift_eq s (fun e d => towBench e dn f (d.atOfs ofs)) _ hrun (towBench_benches hr hh hd he)
  · exact lift_eq s (fun e d => towNetstop e dn f (d.atOfs ofs)) _ hrun (towNetstop_stops hr)
  · exact lift_runs s (fun e d => towEpoch e dn f (d.atOfs ofs)) hrun
  · exact lift_runs s (fun e d => towPromote e dn f (d.atOfs ofs)) hrun
  · exact lift_runs s (fun e d => towGatherReq e dn f (d.atOfs ofs)) hrun
  · exact lift_runs s (fun e d => towGather e dn f (d.atOfs ofs)) hrun
  · exact lift_runs s (fun e d => towSync e dn f (d.atOfs ofs)) hrun
  · exact lift_runs s (fun e d => towDelayReq e dn f (d.atOfs ofs)) hrun
  · exact lift_runs s (fun e d => towDelayResp e dn f (d.atOfs ofs)) hrun

end Sys2Proof.Machine
end

section
/-! Authorised commands (R393, R400 to R408, R500). -/
namespace Sys2Proof.Machine

/-! ### How a command ends -/

/-- A command has ended: its blocks are released, nothing is held, and beside the state of the authorisation only
FLT_IRQ_STAT, the recorder and the fault collector differ. -/
def Ended (d t : Dev) : Prop :=
  t = { d with regs := t.regs, rcd := t.rcd, flt := t.flt, auth := t.auth, authBlocks := 0, sup := { d.sup with held := false } } ∧
  ∀ (n : RegName) (i j : Nat), n.addr i j ≠ RegName.FLT_IRQ_STAT.addr 0 0 → t.reg n i j = d.reg n i j

/-- What is recorded between a change of the authorisation's state and the end is no more than an end may change. -/
theorem Ended.of_recorded {d u v t : Dev} (hu : u = { d with auth := u.auth }) (h : Recorded u v) (k : Ended v t) : Ended d t := by
  refine ⟨?_, fun n i j ne => ?_⟩
  · rw [k.1, h.1, hu]
  · rw [k.2 n i j ne, h.2 n i j ne, hu]
    rfl

theorem Ended.recorded {d u t : Dev} (h : Ended d u) (k : Recorded u t) : Ended d t := by
  refine ⟨?_, fun n i j ne => (k.2 n i j ne).trans (h.2 n i j ne)⟩
  rw [k.1, h.1]

theorem Recorded.auth {d t : Dev} (h : Recorded d t) : t.auth = d.auth := by rw [h.1]

section
variable (e : Env) (res rej : Nat) (d : Dev)

/-- A command's end releases its blocks and, with the failure that is one too many, raises the lockout. -/
theorem authEnd_ended : Ended d (authEnd e res rej d) := by
  unfold authEnd
  refine Ended.recorded ?_ (recorded_ite (recorded_raiseLive ..) (Recorded.same _))
  exact ⟨rfl, fun _ _ _ _ => rfl⟩

/-- What SUP_AUTH shows after a command's end. -/
theorem authEnd_shows :
    (authEnd e res rej d).auth.result = res ∧ (authEnd e res rej d).auth.rejCnt = satN rej 0xFF ∧
      (authEnd e res rej d).auth.submit = none ∧ (authEnd e res rej d).auth.words = [] := by
  unfold authEnd
  dsimp only
  rw [(recorded_ite (recorded_raiseLive ..) (Recorded.same _)).auth]
  exact ⟨rfl, rfl, rfl, rfl⟩

/-- A failure is counted and recorded before the command ends (R402, R410). -/
theorem authFail_ended : Ended d (authFail e res d) :=
  Ended.of_recorded (u := countFail true d) rfl (recorded_report ..) (authEnd_ended ..)

end

theorem satN_eq_min (n m : Nat) : satN n m = min n m := by
  unfold satN
  split
  · omega
  · omega

/-! ### What a submitted command does, by what its checks find -/

section
variable {e : Env} {d : Dev} {b : By} {r : Role} {c : AuthCmd} {res : Nat}

theorem authWrites_good (h : submitted e .writes d = .good b r c) :
    authWrites e d = authEnd e 1 (writeAll e b ((runsOf c.body).getD []) { d := d }).gone
      (closeBatch e b (writeAll e b ((runsOf c.body).getD []) { d := d }).d) := by
  simp [authWrites, h]

theorem authWrites_bad (h : submitted e .writes d = .bad res) : authWrites e d = authFail e res d := by
  simp [authWrites, h]

theorem authWrites_none (h : submitted e .writes d = .none_) : authWrites e d = d := by
  simp [authWrites, h]

theorem authUsercal_good (h : submitted e .usercal d = .good b r c) (hn : nvBarred d = false) :
    authUsercal e d = authEnd e 1 0 (ucalStart b c.body d) := by
  simp [authUsercal, h, hn]

/-- Under SHUTDOWN no write of the nonvolatile memory begins (R352). -/
theorem authUsercal_barred (h : submitted e .usercal d = .good b r c) (hn : nvBarred d = true) : authUsercal e d = d := by
  simp [authUsercal, h, hn]

theorem authUsercal_bad (h : submitted e .usercal d = .bad res) : authUsercal e d = authFail e res d := by
  simp [authUsercal, h]

theorem authUsercal_none (h : submitted e .usercal d = .none_) : authUsercal e d = d := by
  simp [authUsercal, h]

theorem authFixative_good (h : submitted e .fixative d = .good b r c) (hn : nvBarred d = false) :
    authFixative e d = (fixWrite b (slotOf r c) e, authEnd e 1 0 d) := by
  simp [authFixative, h, hn]

theorem authFixative_barred (h : submitted e .fixative d = .good b r c) (hn : nvBarred d = true) : authFixative e d = (e, d) := by
  simp [authFixative, h, hn]

theorem authFixative_bad (h : submitted e .fixative d = .bad res) : authFixative e d = (e, authFail e res d) := by
  simp [authFixative, h]

theorem authFixative_none (h : submitted e .fixative d = .none_) : authFixative e d = (e, d) := by
  simp [authFixative, h]

theorem authFirmware_good {p : Bool} (h : submitted e .firmware d = .good b r c) (hp : firmwarePair d = some p) :
    authFirmware e d = authEnd e 1 0 (pairReady p (modPair p (fun q => { q with img := crc32 c.body }) d)) := by
  simp [authFirmware, h, hp]

theorem authFirmware_none (h : submitted e .firmware d = .none_) : authFirmware e d = d := by
  simp [authFirmware, h]

/-- A failure before the body is looked at leaves the pairs alone. -/
theorem authFirmware_bad (h : submitted e .firmware d = .bad res) (hr : res ≠ 8) : authFirmware e d = authFail e res d := by
  unfold authFirmware
  rw [h]
  dsimp only
  split
  · exact absurd rfl hr
  · exact absurd rfl hr
  · rfl

section
variable (h : submitted e .firmware d = .bad 8)
include h

theorem authFirmware_noPair (hp : firmwarePair d = none) : authFirmware e d = authFail e 8 d := by
  simp [authFirmware, h, hp]

theorem authFirmware_noImage {p : Bool} (hp : firmwarePair d = some p) (ha : pairIn d .active = none) :
    authFirmware e d = pairReady p (authFail e 8 d) := by
  simp [authFirmware, h, hp, ha]

/-- A section that fails its check leaves its pair with the image of the active one (R393). -/
theorem authFirmware_reloads {p a : Bool} (hp : firmwarePair d = some p) (ha : pairIn d .active = some a) :
    authFirmware e d = pairReady p (modPair p (fun q => { q with img := (pairOf d a).img }) (authFail e 8 d)) := by
  simp [authFirmware, h, hp, ha]

end

/-- A buffer left alone ends with TIMEOUT (R401). -/
theorem authTimeout_ends (hb : 0 < d.authBlocks) (hs : d.auth.submit = none) : authTimeout e d = authEnd e 10 0 d := by
  simp [authTimeout, hb, hs]

theorem authUnlock_locked (h : d.auth.lock = true) :
    authUnlock d = clearLive { d with auth := { d.auth with lock := false } } Ev.SUP_AUTH_LOCK := by
  simp [authUnlock, h]

/-- A command that passes acts under the origin of the transport that submitted it and under its own role (R400, R404). -/
theorem submitted_good_by {k : AuthKind} (h : submitted e k d = .good b r c) :
    ∃ a, d.auth.submit = some a ∧ b = { a with role := some r } := by
  unfold submitted at h
  split at h
  · cases h
  next a ha =>
    refine ⟨a, ha, ?_⟩
    split at h
    · cases h
    split at h
    · cases h
    split at h
    · cases h
      rfl
    · cases h

end

section
variable {s : State} (hrun : Running s)
include hrun

/-- A FIXATIVE command's outcome where the core runs. -/
theorem exec_authFixative_of {e : Env} {d : Dev} (h : authFixative s.env s.dev = (e, d)) :
    exec .authFixative s = .next { s with env := e, dev := settle e d } := by
  have hc : fixativeCommand s.env s.dev = (e, d) := (if_pos hrun).trans h
  rw [show exec .authFixative s = liftEnv fixativeCommand s from rfl, liftEnv_eq, hc]

/-- A Fixative that waits takes effect at the boundary, in the environment and in the device together. -/
theorem exec_fixativeTakeEffect_pending {b : By} (h : s.env.fixPend = some b) :
    exec .fixativeTakeEffect s =
      .next { s with env := fixTake s.env, dev := settle (fixTake s.env) (fixEffect (fixTake s.env) b s.dev) } := by
  have hc : fixativeBoundary s.env s.dev = (fixTake s.env, fixEffect (fixTake s.env) b s.dev) := by
    refine (if_pos hrun).trans ?_
    simp [fixativeTakeEffect, h]
  rw [show exec .fixativeTakeEffect s = liftEnv fixativeBoundary s from rfl, liftEnv_eq, hc]

end

/-- Settles O55: what each command does is the branch of its operation that its check names, and a failure changes what
`Ended` allows. -/
theorem authorisedCommands : Obligations.AuthorisedCommands := by
  intro s hrun
  refine ⟨fun b r c h => lift_eq s authWrites _ hrun (authWrites_good h), fun res h => lift_eq s authWrites _ hrun (authWrites_bad h),
    fun b r c h hn => exec_authFixative_of hrun (authFixative_good h hn), fun res h => exec_authFixative_of hrun (authFixative_bad h),
    fun b r c h hn => exec_authFixative_of hrun (authFixative_barred h hn),
    fun res h => lift_eq s authUsercal _ hrun (authUsercal_bad h),
    fun b r c h hn => lift_eq s authUsercal _ hrun (authUsercal_barred h hn),
    fun h => lift_eq s authWrites _ hrun (authWrites_none h), fun h => exec_authFixative_of hrun (authFixative_none h),
    fun h => lift_eq s authUsercal _ hrun (authUsercal_none h), fun h => lift_eq s authFirmware _ hrun (authFirmware_none h),
    fun res => (authFail_ended s.env res s.dev).1, fun res => (authFail_ended s.env res s.dev).2, fun res => ?_,
    fun b r c h hn => lift_eq s authUsercal _ hrun (authUsercal_good h hn),
    fun b r c p h hp => lift_eq s authFirmware _ hrun (authFirmware_good h hp),
    fun res h hr => lift_eq s authFirmware _ hrun (authFirmware_bad h hr),
    fun h hp => lift_eq s authFirmware _ hrun (authFirmware_noPair h hp),
    fun p h hp ha => lift_eq s authFirmware _ hrun (authFirmware_noImage h hp ha),
    fun p a h hp ha => lift_eq s authFirmware _ hrun (authFirmware_reloads h hp ha),
    fun hb hs => lift_eq s authTimeout _ hrun (authTimeout_ends hb hs),
    fun h => lift_eq s (fun _ d => authUnlock d) _ hrun (authUnlock_locked h),
    fun b h => exec_fixativeTakeEffect_pending hrun h⟩
  obtain ⟨hres, -, hsub, hwords⟩ := authEnd_shows s.env res 0
    (report s.env (countFail true s.dev) Ev.SUP_AUTH_FAIL noInst res)
  exact ⟨hres, hsub, hwords⟩

/-- Settles O56: the writes of a batch are a fold over the list, and REJ_CNT shows the count, saturated. -/
theorem batchGoesOnAfterRefusal : Obligations.BatchGoesOnAfterRefusal := by
  refine ⟨fun e b p l z => ⟨rfl, rfl⟩, fun e d b r c h => ?_, fun e d n => ?_⟩
  · obtain ⟨a, ha, rfl⟩ := submitted_good_by h
    exact ⟨rfl, a, ha, rfl, authWrites_good h⟩
  · obtain ⟨hres, hrej, -, -⟩ := authEnd_shows e 1 n d
    exact ⟨hrej.trans (satN_eq_min n 255), hres⟩

end Sys2Proof.Machine
end
